-- ==== Sys2Proof/Word.lean ====
section
/-! DEFINITION. The words of the engine: packets, registers and memory are made of 32-bit words (02 R27, 19 R513)
and bytes, fault messages of 64 bits (16 R435), Vent accumulators of 80 bits (05). -/

namespace Sys2Proof

abbrev Byte := BitVec 8
abbrev W16 := BitVec 16
abbrev W32 := BitVec 32
abbrev W64 := BitVec 64
/-- A Vent accumulator's value. -/
abbrev Acc := BitVec 80
/-- A Q1.31 audio sample as the signed integer of its 32 bits (00, Conventions). -/
abbrev Sample := Int

end Sys2Proof
end

