-- ==== Sys2Proof/Machine/Bits.lean ====
section
/-! DEFINITION. Bit fields of words, packing of words, signed readings, and the small list operations that the
blocks use for their numbered units. -/

namespace Sys2Proof.Machine
open Sys2Proof

/-- Bits [hi:lo] of a word, as the manual writes bit ranges (00, Conventions). -/
def fld (w : W32) (hi lo : Nat) : Nat := (w.toNat >>> lo) % 2 ^ (hi + 1 - lo)

/-- Bit i of a word. -/
def bit (w : W32) (i : Nat) : Bool := w.getLsbD i

/-- A number's low n bits read as a signed number. -/
def signed (n v : Nat) : Int :=
  let u := v % 2 ^ n
  if 2 * u < 2 ^ n then (u : Int) else (u : Int) - (2 ^ n : Nat)

/-- Bits [hi:lo] of a word, read as a signed number. -/
def sfld (w : W32) (hi lo : Nat) : Int := signed (hi + 1 - lo) (fld w hi lo)

/-- The n-bit code of an integer, modulo 2^n. -/
def code (n : Nat) (x : Int) : Nat := (x % ((2 ^ n : Nat) : Int)).toNat

/-- A word made of fields, each a value and the bit where it starts. -/
def pack (fs : List (Nat × Nat)) : W32 :=
  fs.foldl (fun a f => a ||| (BitVec.ofNat 32 f.1 <<< f.2)) 0

def w32 (n : Nat) : W32 := BitVec.ofNat 32 n

def b2n (b : Bool) : Nat := if b then 1 else 0

/-- Word n of a packet whose parameter words, from word 3, are p (02 R27). -/
def pw (p : List W32) (n : Nat) : W32 := p.getD (n - 3) 0

def ceilDiv (a b : Nat) : Nat := (a + b - 1) / b

/-- Division of integers rounded half up, as the manual rounds (05 R141, 06 R168). -/
def roundDiv (a : Int) (b : Nat) : Int := (2 * a + b) / (2 * (b : Int))

def clamp (lo hi x : Int) : Int := if x < lo then lo else if hi < x then hi else x

/-- A value saturated to a Q1.31 sample. -/
def satQ31 (x : Int) : Int := clamp (-2147483648) 2147483647 x

/-- The bits of a mask that are set, in ascending order, below n. -/
def maskBits (n m : Nat) : List Nat := (List.range n).filter (fun i => m.testBit i)

/-- A mask from a list of bit numbers. -/
def maskOf (bs : List Nat) : Nat := bs.foldl (fun a i => a ||| (1 <<< i)) 0

/-- The numbers first to last, both included. -/
def span (first last : Nat) : List Nat := (List.range (last + 1 - first)).map (first + ·)

/-- The entry of a keyed list. -/
def kget {α : Type} (l : List (Nat × α)) (k : Nat) : Option α :=
  (l.find? (fun e => e.1 == k)).map (·.2)

def kgetD {α : Type} (l : List (Nat × α)) (k : Nat) (d : α) : α := (kget l k).getD d

/-- A keyed list in rising order of keys, with the entry of k replaced or added. -/
def kset {α : Type} (l : List (Nat × α)) (k : Nat) (v : α) : List (Nat × α) :=
  match l with
  | [] => [(k, v)]
  | e :: t =>
    if k < e.1 then (k, v) :: e :: t
    else if k == e.1 then (k, v) :: t
    else e :: kset t k v

/-- A keyed list without the entry of k. -/
def kdel {α : Type} (l : List (Nat × α)) (k : Nat) : List (Nat × α) := l.filter (fun e => e.1 != k)

/-- The last n elements of a list. -/
def lastN {α : Type} (n : Nat) (l : List α) : List α := l.drop (l.length - n)

/-- Insertion of an element before the first that it precedes. -/
def insertBy {α : Type} (before : α → α → Bool) (x : α) : List α → List α
  | [] => [x]
  | y :: t => if before x y then x :: y :: t else y :: insertBy before x t

/-- A stable sort by insertion: elements that neither precedes keep their order. -/
def sortBy {α : Type} (before : α → α → Bool) : List α → List α
  | [] => []
  | x :: t => insertBy (fun a b => !before b a) x (sortBy before t)

/-- The bytes of a word, least significant first (19 R520). -/
def wordBytes (w : W32) : List Byte :=
  [w.extractLsb' 0 8, w.extractLsb' 8 8, w.extractLsb' 16 8, w.extractLsb' 24 8]

/-- The word of four bytes, least significant first. -/
def bytesWord (b0 b1 b2 b3 : Byte) : W32 := b3 ++ b2 ++ b1 ++ b0

/-- The bytes of a word in network byte order (02 R55), which is also the SPI order (02 R51). -/
def wordBytesBE (w : W32) : List Byte := (wordBytes w).reverse

/-- Words from bytes, four at a time, least significant byte first; a short tail is padded with zeros. -/
def wordsLE : List Byte → List W32
  | b0 :: b1 :: b2 :: b3 :: t => bytesWord b0 b1 b2 b3 :: wordsLE t
  | [] => []
  | [b0] => [bytesWord b0 0 0 0]
  | [b0, b1] => [bytesWord b0 b1 0 0]
  | [b0, b1, b2] => [bytesWord b0 b1 b2 0]

/-- Words from bytes in network byte order. -/
def wordsBE : List Byte → List W32
  | b0 :: b1 :: b2 :: b3 :: t => bytesWord b3 b2 b1 b0 :: wordsBE t
  | [] => []
  | [b0] => [bytesWord 0 0 0 b0]
  | [b0, b1] => [bytesWord 0 0 b1 b0]
  | [b0, b1, b2] => [bytesWord 0 b2 b1 b0]

/-- The difference a - b modulo 2^n, of counters that wrap. -/
def modSub (n a b : Nat) : Nat := (a % 2 ^ n + 2 ^ n - b % 2 ^ n) % 2 ^ n

end Sys2Proof.Machine
end

