-- ==== Sys2Proof/Machine/Kinds.lean ====
section
/-! DEFINITION. The small alphabets that commands and state share: channels, requesters, the header of a command
packet, fault messages, and the operations of a Vent bundle as 06 writes them. -/

namespace Sys2Proof.Machine
open Sys2Proof

/-- The three command channels, in the order that decides between equal stamps (01 T1-10). -/
inductive ChanId where
  | pcie | spi | udp
deriving DecidableEq, Repr, Inhabited

/-- The requesters of the register file (19 R513). -/
inductive Requester where
  | pcie | spi | ctrl
deriving DecidableEq, Repr, Inhabited

/-- Where a UDP datagram came from and the tag words it carried (02 R55-R57). Ignored on the other channels. -/
structure UdpSrc where
  ip : Nat
  port : Nat
  tag : List W32
deriving DecidableEq, Repr, Inhabited

/-- The header of a command packet (02 T2-1) with the channel that carried it and t, the nanoseconds of its arrival
inside the running tick. -/
structure CmdHead where
  chan : ChanId
  src : UdpSrc
  t : Nat
  seq : W32
  applyTick : W32
  mirror : Bool
  noReply : Bool
deriving DecidableEq, Repr, Inhabited

/-- The two ways in which a state-changing command reaches the block: its packet arrives (02 R32-R35), or its target
tick has come and it takes effect with no reply owed, as a mirrored copy (02 R60) or a scene's packet (17 R462) does. -/
inductive Stage where
  | arrive (h : CmdHead)
  | apply
deriving DecidableEq, Repr, Inhabited

/-- A fault message before its class is decided (16 T16-1); stamp is TB0 in ns. -/
structure FaultMsg where
  source : Nat
  inst : Nat
  kind : Nat
  ctx : W32
deriving DecidableEq, Repr, Inhabited

/-! ## Vent bundles (06) -/

/-- Quad operations of 06 T6-3. -/
inductive QuadOp where
  | mac | msu | mpy | mpyn | macs | msus
deriving DecidableEq, Repr, Inhabited

/-- ALU operations of 06 T6-4 with two operands and a destination. -/
inductive AluOp where
  | add | sub | adds | subs | and | or | xor | shl | asr | lsr | min | max
deriving DecidableEq, Repr, Inhabited

/-- The MAC slot (06 R166). -/
inductive MacOp where
  | mnop
  | quad (op : QuadOp) (ds : BitVec 5) (q : BitVec 3) (skip : BitVec 4) (dt : BitVec 5)
  | aclr (mask : BitVec 4)
  | acsh (acs acd : BitVec 2) (sh : BitVec 5)
  | acadd (acs acd : BitVec 2) (sh : BitVec 5)
  | acsub (acs acd : BitVec 2) (sh : BitVec 5)
  | acwr (acd : BitVec 2) (q : BitVec 3)
  | acrd (acs : BitVec 2) (q : BitVec 3)
  | acrnd (acs : BitVec 2) (sh : BitVec 5) (dd : BitVec 5)
  | alu (op : AluOp) (dd da db : BitVec 5) (imm : Bool)
  | abs (dd da : BitVec 5)
  | cmp (da db : BitVec 5) (imm : Bool)
  | movfx (dd : BitVec 5) (xa : BitVec 4)
  | movtx (xd : BitVec 4) (da : BitVec 5)
deriving DecidableEq, Repr, Inhabited

/-- The addressing modes of 06 T6-6. -/
inductive AddrMode where
  | plain | postInc | postDec | postMod | preMod | circInc | circDec
deriving DecidableEq, Repr, Inhabited

/-- A load/store slot (06 T6-5). Pairs of LDL and STL are named by half their even register number. -/
inductive LsOp where
  | nop
  | ldw (r : BitVec 5) (an : BitVec 3) (am : AddrMode)
  | ldl (rp : BitVec 4) (an : BitVec 3) (am : AddrMode)
  | stw (r : BitVec 5) (an : BitVec 3) (am : AddrMode)
  | stl (rp : BitVec 4) (an : BitVec 3) (am : AddrMode)
  | ldx (x : BitVec 4) (an : BitVec 3) (am : AddrMode)
  | stx (x : BitVec 4) (an : BitVec 3) (am : AddrMode)
  | stac (ac : BitVec 2) (sh : BitVec 3) (an : BitVec 3) (am : AddrMode)
deriving DecidableEq, Repr, Inhabited

/-- The short control slot of format 0b00 (06 T6-7). -/
inductive ShortCtl where
  | cnop | yield | reti | lexit
  | jr (n : BitVec 5)
deriving DecidableEq, Repr, Inhabited

/-- The branch conditions of 06 T6-8. -/
inductive Cond where
  | al | eq | ne | lt | ge | le | gt | mi | pl | vs | vc | hs | lo | as | ac
deriving DecidableEq, Repr, Inhabited

/-- The long control slot of format 0b01 (06 T6-7). -/
inductive LongCtl where
  | cnop
  | br (c : Cond) (target : BitVec 13)
  | call (target : BitVec 13) (dl : BitVec 5)
  | loopi (count : BitVec 16) (last : BitVec 13)
  | loopr (dc : BitVec 5) (last : BitVec 13)
  | lda (an : BitVec 3) (imm : BitVec 18)
deriving DecidableEq, Repr, Inhabited

/-- The registers that LIT names (06 R169). -/
inductive LitDest where
  | d (n : BitVec 5)
  | a (n : BitVec 3)
  | md (n : BitVec 3)
deriving DecidableEq, Repr, Inhabited

/-- A bundle in one of the three formats of 06 T6-1. -/
inductive Bundle where
  | full (mac : MacOp) (ls0 ls1 : LsOp) (ctl : ShortCtl)
  | long (ls0 ls1 : LsOp) (ctl : LongCtl)
  | lit (mac : MacOp) (dest : LitDest) (value : W32)
deriving DecidableEq, Repr, Inhabited

/-- The other slots of the bundle that holds a given MAC-slot operation. -/
inductive MacRest where
  | full (ls0 ls1 : LsOp) (ctl : ShortCtl)
  | lit (dest : LitDest) (value : W32)
deriving DecidableEq, Repr, Inhabited

/-- The other slots of the bundle that holds a given load/store operation: in slot 1 when second is true. -/
inductive LsRest where
  | full (second : Bool) (mac : MacOp) (other : LsOp) (ctl : ShortCtl)
  | long (second : Bool) (other : LsOp) (ctl : LongCtl)
deriving DecidableEq, Repr, Inhabited

/-- The other slots of the bundle that holds a given short control operation. -/
structure ShortRest where
  mac : MacOp
  ls0 : LsOp
  ls1 : LsOp
deriving DecidableEq, Repr, Inhabited

/-- The other slots of the bundle that holds a given long control operation. -/
structure LongRest where
  ls0 : LsOp
  ls1 : LsOp
deriving DecidableEq, Repr, Inhabited

/-- The other slots of a bundle whose control slot is CNOP, in either format. -/
inductive CnopRest where
  | short (r : ShortRest)
  | long (r : LongRest)
deriving DecidableEq, Repr, Inhabited

def MacRest.bundle (r : MacRest) (m : MacOp) : Bundle :=
  match r with
  | .full a b c => .full m a b c
  | .lit d v => .lit m d v

def LsRest.bundle (r : LsRest) (o : LsOp) : Bundle :=
  match r with
  | .full false m x c => .full m o x c
  | .full true m x c => .full m x o c
  | .long false x c => .long o x c
  | .long true x c => .long x o c

def ShortRest.bundle (r : ShortRest) (c : ShortCtl) : Bundle := .full r.mac r.ls0 r.ls1 c

def LongRest.bundle (r : LongRest) (c : LongCtl) : Bundle := .long r.ls0 r.ls1 c

def CnopRest.bundle (r : CnopRest) : Bundle :=
  match r with
  | .short r => r.bundle .cnop
  | .long r => r.bundle .cnop

end Sys2Proof.Machine
end

