-- ==== Sys2Proof/Machine/TCore.lean ====
section
/-! DEFINITION. The state of the command service (02), the register file and rings (19), the Fumarole (16), the store,
boot, reset and power states (17). -/

namespace Sys2Proof.Machine
open Sys2Proof

/-! ## Command service and PCIe function (02, 19) -/

/-- Where a command came from, and so where its replies go: a host channel (with the UDP source), the partner that
forwarded it (02 R61, tag names the forwarding), or a mirrored copy that owes no reply (02 R60). -/
inductive Origin where
  | host (c : ChanId) (src : UdpSrc)
  | partner (tag : Nat)
  | mirror
deriving DecidableEq, Repr, Inhabited

/-- A host number that a channel holds (02 R40): the last reply given to it, whether that reply was suppressed
(18 R489), and the copies owed after the first reply. -/
structure HeldNo where
  seq : W32
  reply : Option (List W32)
  suppressed : Bool
  copies : List UdpSrc
deriving DecidableEq, Repr, Inhabited

/-- A command channel (02 R40-R45). -/
structure ChanSt where
  expect : Option W32
  dev : W32
  gaps : W32
  nos : List HeldNo
  evts : List (List W32)
deriving DecidableEq, Repr, Inhabited

/-- A state-changing command accepted and not yet applied (02 R34-R37). -/
structure Pend where
  op : Nat
  par : List W32
  target : Nat
  stamp : Nat
  org : Origin
  seq : W32
  late : Bool
  gap : Bool
  noReply : Bool
deriving DecidableEq, Repr, Inhabited

/-- A packet that waits on the SPI channel (02 R53). -/
structure SpiPkt where
  isReply : Bool
  words : List W32
deriving DecidableEq, Repr, Inhabited

/-- The command service, the PCIe function and the SPI target. -/
structure HostSt where
  intStatus : W32
  intMask : W32
  msixFn : Bool
  msixVec : W32
  msixPend : W32
  msixTab : List (Nat × W32)
  cmdW : W16
  cmdR : W16
  rplW : W16
  rplR : W16
  evtW : W16
  evtR : W16
  cmdSlots : List (Nat × List W32)
  rplSlots : List (Nat × List W32)
  evtSlots : List (Nat × List W32)
  heldRpl : List (List W32)
  perst : Bool
  linkUp : Bool
  chPcie : ChanSt
  chSpi : ChanSt
  chUdp : ChanSt
  spiWait : List SpiPkt
  lastBad : Bool
  spiRead : Bool
  allow : List (Nat × Nat)
  key : Option (List W32)
  keyNext : Option (Option (List W32))
  evtIp : Nat
  evtPort : Nat
  cmdMtu : Nat
  qfcMap : W32
  cmds : List Pend
deriving DecidableEq, Repr, Inhabited

/-! ## Fumarole (16) -/

/-- A record of the journal or the history (16 T16-11): stamp, tick, and the two message words. -/
structure FltRec where
  stamp : W32
  tick : W32
  msgH : W32
  msgL : W32
deriving DecidableEq, Repr, Inhabited

/-- An open active entry (16 R444). -/
structure ActEntry where
  src : Nat
  inst : Nat
  kind : Nat
  opening : FltRec
  occur : Nat
deriving DecidableEq, Repr, Inhabited

/-- A history record with its read mark (16 R447). -/
structure HistRec where
  entry : FltRec
  seen : Bool
deriving DecidableEq, Repr, Inhabited

/-- An entry of the reaction table (16 R439, T16-6). -/
structure ReactEntry where
  src : Nat
  kind : Nat
  cls : Nat
  event : Bool
  irq : Bool
  hist : Bool
deriving DecidableEq, Repr, Inhabited

/-- The first-fault record (16 R443): class, full stamp, source and instance for the order, and the record. While
open it can still be replaced by an earlier stamp of its class. -/
structure FirstFault where
  cls : Nat
  stamp : Nat
  src : Nat
  inst : Nat
  entry : FltRec
deriving DecidableEq, Repr, Inhabited

structure FltSt where
  fatal : Bool
  hasCorr : Bool
  histLost : Bool
  actLost : Bool
  evtLost : Bool
  corrCount : Nat
  first : Option FirstFault
  firstOpen : Bool
  firstAt : Nat
  active : List ActEntry
  hist : List HistRec
  reacts : List ReactEntry
  journal : List FltRec
  next : W32
  evtInTick : Nat
deriving DecidableEq, Repr, Inhabited

/-! ## Store, boot, reset and power (17) -/

/-- SYS_STATE (19 T19-3). -/
inductive SysPhase where
  | reset | boot | ready | running | halted
deriving DecidableEq, Repr, Inhabited

def SysPhase.code : SysPhase → Nat
  | .reset => 0
  | .boot => 1
  | .ready => 2
  | .running => 3
  | .halted => 4

/-- The power state of an island (17 R475). -/
inductive Pwr where
  | off | starting | on | draining
deriving DecidableEq, Repr, Inhabited

def Pwr.code : Pwr → Nat
  | .off => 0
  | .starting => 1
  | .on => 2
  | .draining => 3

/-- An island's power state, the tick at which its transition began, and the opposite request that waits (17 R476). -/
structure Island where
  pwr : Pwr
  since : Nat
  wait : Option Bool
deriving DecidableEq, Repr, Inhabited

/-- A junction sensor (17 R479-R482): latest and highest sample in 0.1 degrees, consecutive critical samples, and
whether the sensor is in warning. -/
structure Sensor where
  now : Int
  high : Int
  crit : Nat
  warn : Bool
deriving DecidableEq, Repr, Inhabited

/-- A sensor before its first sample; no reply ever shows these values (17 R482). -/
def Sensor.init : Sensor := ⟨-2730, -2730, 0, false⟩

structure SysSt where
  phase : SysPhase
  ctrlAlive : Bool
  bootSel : Nat
  pairRole : Nat
  hostSel : Bool
  fallback : Bool
  slotB : Bool
  downloaded : Bool
  resetKind : Nat
  fuses : List W32
  grade : Nat
  dieId : BitVec 64
  fwSvn : W32
  fwCrc : W32
  islands : List Island
  dlWords : Nat
  dlBytes : Option Nat
  extGiB : Nat
  ioLostA : Bool
  ioLostMod : Bool
  pwrgd : Bool
  faultN : Bool
  warmAt : Option Nat
  sensors : List Sensor
  vddioA : Nat
deriving DecidableEq, Repr, Inhabited

/-- A bank of the flash (17 T17-2) with the payload words programmed so far. -/
structure Bank where
  magic : W32
  seq : W32
  len : W32
  crc : W32
  payload : List W32
deriving DecidableEq, Repr, Inhabited

/-- A region's two banks (17 T17-1). -/
structure Region where
  a : Bank
  b : Bank
deriving DecidableEq, Repr, Inhabited

/-- An open write session on a region (17 R458). -/
structure Session where
  toB : Bool
  seq : W32
  next : Nat
  lastTick : Nat
deriving DecidableEq, Repr, Inhabited

/-- A flash operation that runs or waits (17 R459, R460): a chunk or a read of a host command, the read of a scene,
or the engine's own write of region 2 or 3. -/
inductive FlashJob where
  | chunk (op region offset : Nat) (words : List W32) (final advance : Bool)
  | read (region offset words : Nat)
  | scene (p : Pend) (number : Nat)
  | learned
  | snapshot
deriving DecidableEq, Repr, Inhabited

/-- A flash operation with the reply it owes; tick is that of its acceptance, started tells that it runs. -/
structure FlashOp where
  job : FlashJob
  op : Nat
  org : Option Origin
  seq : W32
  gap : Bool
  tick : Nat
  started : Bool
deriving DecidableEq, Repr, Inhabited

structure StoreSt where
  regions : List Region
  sess : List (Option Session)
  ops : List FlashOp
deriving DecidableEq, Repr, Inhabited

/-- A waiting MDIO transaction (18 R494, T18-6) with the reply it owes. -/
structure MdioOp where
  org : Origin
  seq : W32
  gap : Bool
  tick : Nat
  w3 : W32
  w4 : W32
deriving DecidableEq, Repr, Inhabited

end Sys2Proof.Machine
end

