-- ==== Sys2Proof/Machine/TAudio.lean ====
section
/-! DEFINITION. The state of the route engine with its delays, bridges, ASRC and generators (03), of the sample
dataflow of the tick (01), of the Caldera and of the meters (04). -/

namespace Sys2Proof.Machine
open Sys2Proof

/-- An entry of the route table (03 T3-2) with its delay slot, the last domain of its sink (R552), and whether a
ROUTE_CLEAR is fading it out (R80). -/
structure RouteEntry where
  sink : Nat
  src : Nat
  inv : Bool
  xfade : Nat
  delay : Nat
  slot : Option Nat
  lastDom : Option Nat
  clearing : Bool
deriving DecidableEq, Repr, Inhabited

/-- A term of a sink's signal (03 R79): a source with polarity, delay tap and slot, and a gain in units of 2^-30. -/
structure Term where
  src : Nat
  inv : Bool
  delay : Nat
  slot : Option Nat
  gain : Nat
deriving DecidableEq, Repr, Inhabited

/-- A running crossfade (03 R79): the outgoing set, oldest first, its length L, and the samples already made. -/
structure Fade where
  sink : Nat
  outgoing : List Term
  len : Nat
  k : Nat
deriving DecidableEq, Repr, Inhabited

/-- A delay slot in use (03 R75, R77): the source samples it has recorded, newest first. -/
structure Slot where
  num : Nat
  sink : Nat
  samples : List Sample
deriving DecidableEq, Repr, Inhabited

/-- A configured generator (03 T3-8). phase counts the samples since the phase was last restarted; ramp holds the old
level in units of 2^-128 and the samples of the level ramp already made (R93). -/
structure Gen where
  domain : Nat
  enable : Bool
  atten : Nat
  freq : Nat
  phase : Nat
  start : Nat
  ramp : Option (Int × Nat)
deriving DecidableEq, Repr, Inhabited

/-- An integer bridge in use (03 R85): source, target domain, whether BRIDGE_CONFIG holds it. -/
structure Bridge where
  src : Nat
  target : Nat
  held : Bool
deriving DecidableEq, Repr, Inhabited

/-- The state of a ratio tracker (03 R90). -/
inductive TrkMode where
  | idle | acquire | locked
deriving DecidableEq, Repr, Inhabited

structure Tracker where
  enable : Bool
  st : TrkMode
  kind : Nat
  ref : Nat
  num : Nat
  den : Nat
deriving DecidableEq, Repr, Inhabited

/-- An assigned ASRC channel (03 R87): its fade (true: in, false: out) with the output samples made so far. -/
structure Asrc where
  src : Nat
  tracker : Nat
  domain : Nat
  fade : Option (Bool × Nat)
deriving DecidableEq, Repr, Inhabited

structure RouteBlk where
  entries : List RouteEntry
  fades : List Fade
  slots : List Slot
  family44 : Bool
  famMute : Option Nat
  gens : List (Nat × Gen)
  bridges : List Bridge
  asrc : List (Nat × Asrc)
  trackers : List Tracker
deriving DecidableEq, Repr, Inhabited

/-- The samples in the engine (01 R10, R13). Lists are keyed by channel address; hist is newest first; muted are the sinks
that take zero for the rest of the tick after an error in their delay slot (03 R78). -/
structure AudBlk where
  cap : List (Nat × List Sample)
  src : List (Nat × List Sample)
  hist : List (Nat × List Sample)
  bridged : List (Nat × Nat × List Sample)
  sinks : List (Nat × List Sample)
  played : List (Nat × List Sample)
  muted : List Nat
  fadeIn : Nat
  dataTick : Nat
  cut : Bool
  running : Bool
deriving DecidableEq, Repr, Inhabited

/-! ## Caldera (04) -/

/-- A gain change that waits for a zero crossing, or ramps (04 R107): target in Q5.27, W, samples waited, and the
ramp's start value and samples made. -/
structure GainChange where
  target : Int
  wait : Nat
  waited : Nat
  ramp : Option (Int × Nat)
deriving DecidableEq, Repr, Inhabited

/-- A gain (04 R104): the settings last written, the linear value in force, the last detection sample. -/
structure GainSt where
  code : Nat
  inv : Bool
  lin : Int
  change : Option GainChange
  last : Int
deriving DecidableEq, Repr, Inhabited

/-- A final limiter (04 R114). g and req in units of 2^-30; xs and req newest first; taps are the delays that sound
with their weights in units of 2^-30 while a change of L fades, the newest last, with the samples of the fade made. -/
structure Lim where
  enable : Bool
  look : Nat
  thresh : Nat
  release : Nat
  g : Nat
  req : List Nat
  xs : List Int
  old : List (Nat × Nat)
  k : Nat
deriving DecidableEq, Repr, Inhabited

/-- A running bank ramp (04 R111): the old active coefficients, R and the samples made. -/
structure BankRamp where
  old : List (Nat × Nat)
  len : Nat
  k : Nat
deriving DecidableEq, Repr, Inhabited

structure CaldBlk where
  shape : Nat
  active : List (Nat × Nat)
  shadow : List (Nat × Nat)
  version : W32
  ramp : Option BankRamp
  lockEnd : Option Nat
  inG : List (Nat × GainSt)
  busG : List (Nat × GainSt)
  lims : List (Nat × Lim)
  sat : List Nat
  clip : List Nat
  gr : List (Nat × Nat)
  mutedBus : List Nat
  done : Bool
deriving DecidableEq, Repr, Inhabited

/-! ## Meters (04) -/

/-- A tap's configuration and measurement (04 T4-11, T4-12). Magnitudes in units of 2^-31; squares newest first; dom is
the domain it last measured in, quiet counts its last ticks of silence, up to 16. -/
structure Tap where
  rmsMs : Nat
  hold : Nat
  holdTp : Bool
  alarmEn : Bool
  alarm : Nat
  armed : Bool
  peak : Nat
  tpeak : Nat
  squares : List Nat
  holdLevel : Nat
  holdTick : Nat
  lastPeakTick : Nat
  dom : Nat
  quiet : Nat
deriving DecidableEq, Repr, Inhabited

/-- A published tap record: four levels as 16-bit codes and two ticks (04 T4-12). -/
structure TapRec where
  peak : Nat
  tpeak : Nat
  rms : Nat
  hold : Nat
  holdTick : Nat
  tick : Nat
deriving DecidableEq, Repr, Inhabited

/-- A publication that is made at the end of its tick and written after it (04 R119): the tick, the records of taps and
buses, and the data of the alarm events. -/
structure Pub where
  tick : Nat
  taps : List (Nat × TapRec)
  bus : List (Nat × W32)
  alarms : List (List W32)
deriving DecidableEq, Repr, Inhabited

structure MeterBlk where
  taps : List (Nat × Tap)
  period : Nat
  published : Bool
  pubTick : Nat
  pubTaps : List (Nat × TapRec)
  pubBus : List (Nat × W32)
  gen : W32
  due : Option Pub
deriving DecidableEq, Repr, Inhabited

end Sys2Proof.Machine
end

