-- ==== Sys2Proof/Machine/TLocal.lean ====
section
/-! DEFINITION. The state of the decimators and sense lanes (07), of the Geyser (08), and of the TDM ports (09). -/

namespace Sys2Proof.Machine
open Sys2Proof

/-! ## Decimators (07) -/

/-- A decimator context (07 T7-3, T7-4, T7-6). det* are the detector's settings, dc* the blocker's; settle is the tick
at which the settle time of the last restart ends, fade the samples of the fade-in made; block holds the stage 2
samples of the running detector block with their numbers from the epoch; bits holds the last bits of the fast path,
newest first; stuck is the value at which the input was last reported stuck. -/
structure DecCtx where
  enable : Bool
  preset : Nat
  domain : Nat
  scale : Nat
  rate : Nat
  det : Bool
  detReport : Bool
  detBlock : Nat
  detFreq : Nat
  detPresent : Nat
  clipEn : Bool
  stuckEn : Bool
  clipLevel : Nat
  dc : Bool
  dcFreeze : Bool
  dcCorner : Nat
  m : Int
  settle : Option Nat
  settling : Bool
  fade : Option Nat
  skipBlock : Bool
  block : List (Nat × Sample)
  present : Bool
  clipped : Bool
  clipQuietFrom : Option Nat
  stuck : Option Bool
  overTick : Option Nat
  fast : Sample
  bits : List Bool
deriving DecidableEq, Repr, Inhabited

/-- The state of a sense lane (07 R201). -/
inductive LaneMode where
  | off | hunt | locked
deriving DecidableEq, Repr, Inhabited

structure Lane where
  st : LaneMode
  valid : Nat
  bad : Nat
  invalid : Nat
  psOk : Bool
  otWarn : Bool
  railUv : Bool
  chFlt : Nat
  density : Nat
  rail : Sample
deriving DecidableEq, Repr, Inhabited

/-- The bank: syncs are the boundaries S that wait; contexts 512 + 2l and 513 + 2l are the rail slots of lane l, of
which only the fast path is used (07 Table 7-8). -/
structure DecBlk where
  clk : List Nat
  syncInEn : Bool
  syncs : List Nat
  ctxs : List DecCtx
  lanes : List Lane
deriving DecidableEq, Repr, Inhabited

/-! ## Geyser (08) -/

/-- The group states of 08 T8-4. -/
inductive GMode where
  | disarmed | stage | diag | rampUp | armed | rampDown | fault
deriving DecidableEq, Repr, Inhabited

def GMode.code : GMode → Nat
  | .disarmed => 0
  | .stage => 1
  | .diag => 2
  | .rampUp => 3
  | .armed => 4
  | .rampDown => 5
  | .fault => 6

/-- The channel states of 08 T8-13. -/
inductive CMode where
  | play | off | tripped | retry | latched | enter | leave | paused
deriving DecidableEq, Repr, Inhabited

def CMode.code : CMode → Nat
  | .play => 0
  | .off => 1
  | .tripped => 2
  | .retry => 3
  | .latched => 4
  | .enter => 5
  | .leave => 6
  | .paused => 7

/-- What a channel's diagnosis has measured so far (08 R221): mean currents of high and low pulses of legs A and B in
mA, Z in mOhm, the step, and the tick at which the running step began. -/
structure DiagSt where
  step : Nat
  since : Nat
  highA : Int
  lowA : Int
  highB : Int
  lowB : Int
  z : Option Nat
  trip : Option Nat
deriving DecidableEq, Repr, Inhabited

/-- A modulator channel. since is the tick at which its state began; failTick that of its last failure; dly delays its
audio by the boost look-ahead, dlyBack as it was before a change, for the samples of the tick before; fade is a running
fade (true: in) with the samples made. -/
structure GChan where
  st : CMode
  enabled : Bool
  fails : Nat
  cause : Nat
  clip : Bool
  result : Nat
  z : Nat
  leakA : Nat
  leakB : Nat
  origin : CMode
  since : Nat
  failTick : Nat
  playSince : Nat
  diag : Option DiagSt
  fromMod : Bool
  runDiag : Bool
  baseline : Nat
  dly : Lim
  dlyBack : Option Lim
  fade : Option (Bool × Nat)
deriving DecidableEq, Repr, Inhabited

/-- A modulator group: configuration (08 T8-2, T8-11, T8-12) and state (08 T8-4). tgt and vrail are in units of 10 mV,
env, duty and integ (volts) in units of 1, each times 2^128; peaks holds the largest magnitude of each sample of the
group's channels, newest first. -/
structure GGroup where
  domain : Nat
  carrier : Nat
  lc : Bool
  stagger : Bool
  minPulse : Nat
  maxMod : Nat
  vref : Nat
  lcFc : Nat
  lcQ : Nat
  iFs : Nat
  iTrip : Nat
  vFs : Nat
  railFs : Nat
  retryMs : Nat
  retries : Nat
  openPlay : Bool
  zOpen : Nat
  zShort : Nat
  iLeak : Nat
  zTol : Nat
  tLimit : Nat
  bst : Bool
  look : Nat
  bstDiv : Nat
  headroom : Nat
  release : Nat
  railMin : Nat
  railMax : Nat
  slewUp : Nat
  slewDn : Nat
  vin : Nat
  kp : Nat
  ki : Nat
  st : GMode
  since : Nat
  rampMs : Nat
  rampTicks : Nat
  withDiag : Bool
  diagRun : List Nat
  fading : Bool
  reversed : Bool
  redo : Bool
  psFlt : Bool
  psSince : Option Nat
  released : Option Nat
  hotSent : Bool
  tgt : Int
  vrail : Int
  env : Int
  integ : Int
  duty : Int
  peaks : List Nat
deriving DecidableEq, Repr, Inhabited

structure GeyBlk where
  groups : List GGroup
  chans : List GChan
deriving DecidableEq, Repr, Inhabited

/-- A decision that the active engine takes for both (14 Table 14-6, 08 R237, 07 R206, 09 R260). -/
inductive Decision where
  | stageReady (g : Nat)
  | stageTimeout (g : Nat)
  | diag (g : Nat) (runs : List (Nat × DiagSt))
  | trip (ch : Nat) (high : Bool)
  | pause (g : Nat) (flt : Bool)
  | chFlt (g : Nat) (mask : Nat)
  | resume (g : Nat) (flt : Bool)
  | pauseTimeout (g : Nat)
  | rail (g cause : Nat)
  | decSync (tick : Nat)
  | tdmQualify (g : Nat)
  | tdmLoss (g cause : Nat)
  | tdmSlip (port : Nat) (data : List W32)
  | tdmRestart (ports : Nat)
deriving DecidableEq, Repr, Inhabited

/-! ## TDM (09) -/

/-- The group states of 09 T9-2. -/
inductive TMode where
  | off | search | run
deriving DecidableEq, Repr, Inhabited

def TMode.code : TMode → Nat
  | .off => 0
  | .search => 1
  | .run => 2

/-- A TDM clock group (09 T9-1 form 0, T9-5). rate in units of 10 Hz, phase in units of 10 ns. -/
structure TGroup where
  enable : Bool
  sync : Nat
  domain : Nat
  format : Nat
  delay : Bool
  bclkInv : Bool
  fsInv : Bool
  mclk : Nat
  frameBits : Nat
  st : TMode
  goodFrames : Nat
  qualified : Bool
  badRun : Nat
  rate : Nat
  frameErr : Nat
  phase : Nat
  offset : Bool
deriving DecidableEq, Repr, Inhabited

/-- A TDM port (09 T9-1 form 1, T9-5). The FIFOs hold words between the BCLK side and the tick side, oldest first; words
are numbered sample index times SLOTS plus slot, inNext is the number of the next word from the wire, outNext that of the
next word to the wire, outEnd that after the last word of outFifo. The fills are in units of 10^-9 words at fillAt
(TB0 ns). muteTo is the tick from which slots sound again after a restart, aligning while that is still to come. -/
structure TPort where
  inEn : Bool
  outEn : Bool
  group : Nat
  slots : Nat
  width : Nat
  data : Nat
  pack3 : Bool
  inMask : W32
  outMask : W32
  inPend : W32
  outPend : W32
  inPendAt : Option Nat
  outPendAt : Option Nat
  inFifo : List Sample
  outFifo : List Sample
  inNext : Option Nat
  outNext : Option Nat
  outEnd : Nat
  inFill : Int
  outFill : Int
  fillAt : Nat
  slip : Bool
  muteFrom : Option Nat
  inRot : Nat
  outRot : Nat
  slips : Nat
  restart : Bool
  muteTo : Nat
  aligning : Bool
deriving DecidableEq, Repr, Inhabited

structure TdmBlk where
  groups : List TGroup
  ports : List TPort
deriving DecidableEq, Repr, Inhabited

end Sys2Proof.Machine
end

