-- ==== Sys2Proof/Machine/TNet.lean ====
section
/-! DEFINITION. The state of the network ports and queues (10, 15), of the stream engine (11), and of the Conduit with
its DMA engine (15). -/

namespace Sys2Proof.Machine
open Sys2Proof

/-- An Ethernet frame at the MAC (10 R264, R267): addresses of 48 bits, the 802.1Q tag's priority and VLAN, EtherType,
payload bytes, and what the PCS found. -/
structure Frame where
  dst : Nat
  src : Nat
  tag : Option (Nat × Nat)
  etype : Nat
  payload : List Byte
  fcsOk : Bool
  cut : Bool
deriving DecidableEq, Repr, Inhabited

/-- A packet in a queue: its words; for a transmit queue also the frames still to be sent. -/
structure Pkt where
  words : List W32
  frames : List Frame
  held : Bool
deriving DecidableEq, Repr, Inhabited

/-- A network queue (15 R425-R431). size in units of 4 KiB; read counts the words of the head packet already read. -/
structure Queue where
  size : Nat
  high : Nat
  low : Nat
  pkts : List Pkt
  read : Nat
  part : Option (List W32)
  discard : Bool
  truncated : Bool
  flag : Bool
deriving DecidableEq, Repr, Inhabited

/-- A gate list (10 T10-4): cycle in ticks, entries of gates and duration. -/
structure GateList where
  cycle : Nat
  entries : List (Nat × Nat)
deriving DecidableEq, Repr, Inhabited

/-- A paused unit (10 R279, R280): priority 0-7, or 8 for the whole port; end of the pause, start of the unbroken pause
and, after a watchdog break, the instant from which received pause is ignored, all in elapsed ns. -/
structure PauseUnit where
  unit : Nat
  stop : Nat
  since : Nat
  ignoring : Option Nat
deriving DecidableEq, Repr, Inhabited

/-- A network port (10). wire is the frame being sent: its queue and the elapsed ns at which it ends; half lists the
counters that reached half range in this tick. -/
structure Port where
  enable : Bool
  speed : Nat
  fec : Nat
  an : Bool
  loopback : Nat
  promisc : Bool
  mtu : Nat
  rxMap : W32
  txPcp : W32
  mode : Nat
  quanta : Nat
  wdLimit : Nat
  rxq : List Queue
  txq : List Queue
  gates : GateList
  gatesNext : Option GateList
  gateEntry : Nat
  linkUp : Bool
  lock : Bool
  sgmiiRate : Nat
  counters : List Nat
  half : List Nat
  pauses : List PauseUnit
  pausing : List Nat
  pauseAt : Nat
  lateAudio : Option Nat
  wire : Option (Nat × Nat × Frame)
  mac : Nat
  ip : Nat
  plen : Nat
  gateway : Nat
  streamMac : Nat
  streamIp : Nat
deriving DecidableEq, Repr, Inhabited

/-- A fragmented UDP datagram on NET_M that is being put together again (02 R55): its key (source, destination, IPv4
identification), the parts by offset, and its length once the last part is there. -/
structure Reasm where
  key : Nat × Nat × Nat
  parts : List (Nat × List Byte)
  total : Option Nat
deriving DecidableEq, Repr, Inhabited

/-- The ports, the multicast table (18 Table 18-7) and the resolved next hops: port, IPv4 address, MAC address. -/
structure NetBlk where
  ports : List Port
  mcast : List (Nat × Bool)
  arp : List (Nat × Nat × Nat)
  frags : List Reasm
deriving DecidableEq, Repr, Inhabited

/-! ## Streams (11) -/

/-- The states of receive slots (11 T11-5). -/
inductive RxMode where
  | closed | wait | run | lost
deriving DecidableEq, Repr, Inhabited

def RxMode.code : RxMode → Nat
  | .closed => 0
  | .wait => 1
  | .run => 2
  | .lost => 3

/-- The open parameters of a stream (11 T11-4). -/
structure StreamCfg where
  trunk : Bool
  useA : Bool
  useB : Bool
  domain : Nat
  conceal : Bool
  foreign : Bool
  l24 : Bool
  chans : Nat
  base : Nat
  offset : Nat
  depth : Nat
  destIp : Nat
  port : Nat
  ttl : Nat
  dscp : Nat
  idAny : Bool
  id : W32
  srcIp : W32
  pcp : Nat
  tagged : Bool
  vid : Nat
  pt : Nat
  destMac : Nat
  seq0 : Nat
deriving DecidableEq, Repr, Inhabited

/-- The samples that an on-time copy brought for one presentation tick: sequence number, position of the first in the
tick, deadline slack in us, samples by channel. -/
structure JitTick where
  ptick : Nat
  seq : Nat
  first : Nat
  slack : Nat
  samples : List (List Sample)
deriving DecidableEq, Repr, Inhabited

/-- A receive slot (11 T11-5, T11-6). buf holds the jitter buffer, seen the numbers of first copies, taken the
presentation ticks and numbers used, all newest first; last holds the last received sample of each position by channel; g is
the concealment gain; lastOn is the tick of the last on-time copy, lastA and lastB the TB0 time in ns of the last copy of each path. -/
structure RxSlot where
  st : RxMode
  cfg : StreamCfg
  openTick : Nat
  pathA : Bool
  pathB : Bool
  minSlack : Nat
  used : W32
  dup : W32
  late : W32
  missing : W32
  early : Nat
  badPkt : Nat
  buf : List JitTick
  seen : List Nat
  taken : List (Nat × Nat)
  last : List (List Sample)
  g : Nat
  lastOn : Nat
  lastA : Nat
  lastB : Nat
  lateTick : Option Nat
  consec : Nat
  packetTicks : Nat
deriving DecidableEq, Repr, Inhabited

/-- The states of transmit slots (11 T11-6). -/
inductive TxMode where
  | closed | send | silent
deriving DecidableEq, Repr, Inhabited

def TxMode.code : TxMode → Nat
  | .closed => 0
  | .send => 1
  | .silent => 2

/-- A transmit slot: the tick of its open, packets sent, last sequence number, data ticks gathered for the next AES67
packet, and the tick of a close that still owes a short packet. -/
structure TxSlot where
  st : TxMode
  cfg : StreamCfg
  openTick : Nat
  sent : W32
  lastSeq : W32
  seq : Nat
  acc : List (Nat × List (List Sample))
  closeTick : Option Nat
deriving DecidableEq, Repr, Inhabited

/-- The slots; oldRx are numbers and slots closed in the running tick, whose samples of the tick before are still to be presented,
oldTx closed transmit slots whose last data are still to be sent. -/
structure StrmBlk where
  rx : List RxSlot
  tx : List TxSlot
  oldRx : List (Nat × RxSlot)
  oldTx : List TxSlot
deriving DecidableEq, Repr, Inhabited

/-! ## Conduit and DMA (15) -/

/-- An address window (15 T15-3). base is the internal address, masters the mask of CM numbers. -/
structure Window where
  enable : Bool
  rd : Bool
  wr : Bool
  masters : Nat
  size : Nat
  base : Nat
  translate : Nat
deriving DecidableEq, Repr, Inhabited

/-- What a Conduit request asks for (15 R403): a read of some bytes, or a write of bytes. -/
inductive BusOp where
  | rd (bytes : Nat)
  | wr (data : List Byte)
deriving DecidableEq, Repr, Inhabited

/-- A request at a target's arbiter (15 R410, R413). -/
structure BusReq where
  target : Nat
  master : Nat
  addr : Nat
  op : BusOp
  stamp : Nat
  granted : Option Nat
  started : Bool
  lock : Bool
  release : Bool
  holder : Nat
  starved : Bool
deriving DecidableEq, Repr, Inhabited

/-- A held lock (15 R413, R415): its target, holder, master and the cycle at which it was acquired. -/
structure BusLock where
  target : Nat
  holder : Nat
  master : Nat
  since : Nat
deriving DecidableEq, Repr, Inhabited

structure CondBlk where
  wins : List Window
  classes : List (List Nat)
  starve : Nat
  lockWd : Nat
  reqs : List BusReq
  locks : List BusLock
  broken : List Nat
  cyc : Nat
deriving DecidableEq, Repr, Inhabited

/-- A DMA descriptor (15 T15-8). -/
structure Desc where
  last : Bool
  lock : Bool
  notify : Bool
  swap : Nat
  qmode : Nat
  length : Nat
  src : Nat
  dst : Nat
  next : Nat
  notifyAddr : Nat
deriving DecidableEq, Repr, Inhabited

/-- The states of a DMA channel (15 R423). -/
inductive DmaMode where
  | idle | run | stopping | halted
deriving DecidableEq, Repr, Inhabited

def DmaMode.code : DmaMode → Nat
  | .idle => 0
  | .run => 1
  | .stopping => 2
  | .halted => 3

structure DmaChan where
  enable : Bool
  buf : Nat
  outstanding : Nat
  st : DmaMode
  result : Nat
  inFlight : Nat
  errAddr : Nat
  descAddr : Nat
  remaining : Nat
deriving DecidableEq, Repr, Inhabited

end Sys2Proof.Machine
end

