-- ==== Sys2Proof/Machine/TPair.lean ====
section
/-! DEFINITION. The state of the pair engine, the Dweune cells and the ownership guard (14). -/

namespace Sys2Proof.Machine
open Sys2Proof

/-- The pair states of 14 T14-1. -/
inductive PairMode where
  | solo | start | active | alone | standby | cold
deriving DecidableEq, Repr, Inhabited

def PairMode.code : PairMode → Nat
  | .solo => 0
  | .start => 1
  | .active => 2
  | .alone => 3
  | .standby => 4
  | .cold => 5

def PairMode.ofCode : Nat → PairMode
  | 0 => .solo
  | 1 => .start
  | 2 => .active
  | 3 => .alone
  | 4 => .standby
  | _ => .cold

/-- A stream packet copy as a notice names it (14 R374). -/
structure CopyId where
  slot : Nat
  seq : Nat
  ptick : Nat
deriving DecidableEq, Repr, Inhabited

/-- The active's forwarded inputs of one tick (14 T14-6): samples by source address, sense values, and decisions. -/
structure PairInputs where
  tick : Nat
  samples : List (Nat × List Sample)
deriving DecidableEq, Repr, Inhabited

/-- What a Dweune cell carries (14 T14-3). The spec lays out the header and the heartbeat cell alone; the other
payloads are held as the data that their rules name. -/
inductive Cell where
  | heartbeat (state role : Nat) (owner fatal : Bool) (slot hbSeq : Nat) (tick stamp cfgVer : W32)
  | command (op target : Nat) (par : List W32)
  | forward (tag op : Nat) (applyTick : W32) (par : List W32)
  | result (tag status : Nat) (tick : W32) (data : List W32) (final : Bool)
  | retransmit (cls cseq : Nat)
  | trigger (trig bound : Nat)
  | decision (d : Decision)
  | notice (c : CopyId)
  | late (c : CopyId) (port tick stamp : Nat)
  | bitmap (ptick : Nat) (present : List CopyId)
  | digest (tick : Nat) (value : BitVec 64)
  | calibrate (t1 : Int)
  | calibrated (t1 t2 t3 : Int)
  | inputs (i : PairInputs)
  | patch (c : CopyId) (first : Nat) (samples : List (List Sample))
  | copy (phase unit : Nat) (words : List W32)
  | following (pair : Bool)
  | handover (tick : Nat) (revert : Bool)
deriving DecidableEq, Repr, Inhabited

/-- The class of a cell (14 T14-3). -/
def Cell.cls : Cell → Nat
  | .heartbeat .. => 0
  | .command .. => 1
  | .forward .. => 1
  | .result .. => 1
  | .retransmit .. => 1
  | .trigger .. => 1
  | .decision .. => 1
  | .notice .. => 3
  | .late .. => 3
  | .bitmap .. => 3
  | .digest .. => 5
  | .calibrate .. => 7
  | .calibrated .. => 7
  | .inputs .. => 2
  | .patch .. => 4
  | .copy .. => 6
  | .following .. => 1
  | .handover .. => 1

/-- A command that this standby forwarded and whose result it awaits (02 R61). -/
structure Fwd where
  tag : Nat
  op : Nat
  org : Origin
  seq : W32
  gap : Bool
  noReply : Bool
deriving DecidableEq, Repr, Inhabited

/-- A planned handover or revert at the boundary of a tick (14 R392, R394). -/
structure Handover where
  tick : Nat
  revert : Bool
deriving DecidableEq, Repr, Inhabited

/-- The partner as its last heartbeat cell showed it, and whether it told that its DPLL0 follows PAIR (14 R392). -/
structure Partner where
  state : Nat
  owner : Bool
  cfgVer : W32
  follows : Bool
deriving DecidableEq, Repr, Inhabited

/-- The pair engine. ka is the internal keepalive and kaStopped the instant at which it stopped, for the guard; lastKa the
last edge on KA_IN, startSince the last sign of an owner; hb tells that heartbeats are sent; slotSeen is the slot of the
last heartbeat cell, missing the consecutive ones that did not come; sent are the cells kept for retransmission; cal the
last measurements of the link delay, newest first; own and theirs the digests still to be compared; mismatching, runLength
and matched follow their comparison; notices, patches, frozen and bitmaps serve the union of receptions; fwd are the
commands forwarded and not yet answered. Instants are elapsed ns. -/
structure PairBlk where
  st : PairMode
  owner : Bool
  cold : Bool
  linkUp : Bool
  calibrated : Bool
  kaSeen : Bool
  kaLost : Bool
  partnerFatal : Bool
  fatalSinceKa : Bool
  phase : Nat
  partner : Option Partner
  progress : Nat
  linkDelay : Nat
  holdOff : Nat
  holdFrom : Option Nat
  diverge : W32
  lastMismatch : W32
  takeovers : Nat
  handovers : Nat
  lastTakeover : W32
  resyncs : Nat
  resyncFails : Nat
  cfgVer : W32
  ka : Bool
  kaStopped : Option Nat
  hb : Bool
  hbSeq : Nat
  startSince : Nat
  lastKa : Option Nat
  slotSeen : Option Nat
  missing : Nat
  cseqOut : List Nat
  cseqIn : List (Option Nat)
  sent : List (Nat × Nat × Cell)
  cal : List Int
  alignSince : Option Nat
  aligned : Bool
  phase1Done : Bool
  restarts : Nat
  failedAt : Option Nat
  hand : Option Handover
  own : List (Nat × BitVec 64)
  theirs : List (Nat × BitVec 64)
  mismatching : Bool
  runLength : Nat
  matched : Nat
  notices : List CopyId
  patches : List (CopyId × Nat × List (List Sample))
  frozen : List (Nat × List CopyId)
  bitmaps : List (Nat × List CopyId)
  inputs : List PairInputs
  trigBounds : List (Nat × Nat)
  fwd : List Fwd
  fwdTag : Nat
  nhEnable : Bool
  nhPort : Nat
  nhDscp : Nat
  nhUdp : Nat
  nhIp : Nat
  nhSeq : W32
deriving DecidableEq, Repr, Inhabited

end Sys2Proof.Machine
end

