-- ==== Sys2Proof/Machine/TTime.lean ====
section
/-! DEFINITION. The state of the references and DPLLs (12), and of PTP, time bases and triggers (13). -/

namespace Sys2Proof.Machine
open Sys2Proof

/-- The state of a reference (12 R316). -/
inductive QState where
  | absent | qualifying | qualified | blocked
deriving DecidableEq, Repr, Inhabited

def QState.code : QState → Nat
  | .absent => 0
  | .qualifying => 1
  | .qualified => 2
  | .blocked => 3

/-- A reference (12 T12-7, T12-9). rfreq is in units of 0.01 ppm; since is TB0's elapsed ns at which the running
re-qualification began. -/
structure RefSt where
  eligible : Bool
  rank : Nat
  bw : Nat
  param : Nat
  freqLim : Nat
  requal : Nat
  q : QState
  cause : Nat
  hist : Nat
  rfreq : Int
  since : Nat
deriving DecidableEq, Repr, Inhabited

/-- The state of a DPLL (12 T12-3). -/
inductive DpllMode where
  | freerun | acquire | locked | switch | holdover
deriving DecidableEq, Repr, Inhabited

def DpllMode.code : DpllMode → Nat
  | .freerun => 0
  | .acquire => 1
  | .locked => 2
  | .switch => 3
  | .holdover => 4

/-- A DPLL (12 T12-9). freq and held are in units of 10^-12, phase and bias in units of 0.1 ns, entered in elapsed
ns; samples are the 1 s frequency samples taken while LOCKED, newest first, with their instants. -/
structure Dpll where
  st : DpllMode
  source : Option Nat
  select : Nat
  expired : Bool
  hist : Nat
  freq : Int
  phase : Int
  bias : List (Nat × Int)
  held : Int
  samples : List (Nat × Int)
  entered : Nat
  e0 : Nat
  u0 : Nat
deriving DecidableEq, Repr, Inhabited

structure RefBlk where
  refs : List RefSt
  window : Nat
  mclk0 : Nat
  mclk1 : Nat
  dplls : List Dpll
  cls : Nat
  uTemp : Nat
  ageing : Nat
  limit : Nat
  hoAvg : Nat
  rate : W32
  resid : W32
  hours : W32
  disagree : List (Nat × Nat)
  agreeSince : List (Nat × Nat)
deriving DecidableEq, Repr, Inhabited

/-- A time base (13 R340-R344). val is its count in units of 10^-6 ns; err is the time error still to be removed, in
0.1 ns, of a privileged time base. -/
structure TimeBase where
  enable : Bool
  source : Nat
  slew : Nat
  offset : Int
  val : Int
  err : Int
  steering : Bool
  stepped : Bool
deriving DecidableEq, Repr, Inhabited

/-- The state of a PTP instance (13 T13-5). -/
inductive PtpMode where
  | disabled | listening | uncalibrated | slave | master | passive
deriving DecidableEq, Repr, Inhabited

def PtpMode.code : PtpMode → Nat
  | .disabled => 0
  | .listening => 1
  | .uncalibrated => 2
  | .slave => 3
  | .master => 4
  | .passive => 5

/-- What an Announce message says of a clock (IEEE 1588-2019 as 13 R348 uses it), in the order in which the best
master is chosen, with the port that received it. -/
structure PtpMaster where
  prio1 : Nat
  cls : Nat
  accuracy : Nat
  variance : Nat
  prio2 : Nat
  gmId : Nat
  steps : Nat
  sender : Nat
  port : Nat
deriving DecidableEq, Repr, Inhabited

/-- A PTP message as it arrives (13 R350): times in units of 0.1 ns. -/
inductive PtpMsg where
  | announce (m : PtpMaster)
  | sync (seq : Nat) (twoStep : Bool) (origin corr rx : Int)
  | followUp (seq : Nat) (origin corr : Int)
  | delayReq (seq sender : Nat) (rx : Int)
  | delayResp (seq : Nat) (rx corr : Int)
  | pdelayReq (seq sender : Nat) (rx : Int)
  | pdelayResp (seq : Nat) (reqRx corr rx : Int)
  | pdelayRespFollowUp (seq : Nat) (tx corr : Int)
deriving DecidableEq, Repr, Inhabited

/-- The messages a PTP instance sends of its own accord (row 272). -/
inductive PtpTx where
  | sync | announce | delayReq | pdelayReq
deriving DecidableEq, Repr, Inhabited

/-- A PTP instance: configuration (13 T13-6) and state. Times are in units of 0.1 ns. -/
structure PtpInst where
  enable : Bool
  profile : Nat
  ports : Nat
  ethernet : Bool
  oneStep : Bool
  slaveOnly : Bool
  domain : Nat
  prio1 : Nat
  prio2 : Nat
  logSync : Int
  logAnn : Int
  logDelay : Int
  annTo : Nat
  dscp : Nat
  st : PtpMode
  masters : List PtpMaster
  gm : Option PtpMaster
  lastAnn : Nat
  lastSync : Nat
  good : Nat
  err : Int
  freq : Int
  pathDelay : List (Nat × Int)
  offsets : List (Nat × Int)
  pendSync : Option (Nat × Int)
  pendPdelay : Option (Nat × Int × Int)
  reqTx : Option (Nat × Int)
  syncAt : Option (Int × Int)
  seqNo : Nat
deriving DecidableEq, Repr, Inhabited

/-- A port's calibration in units of 0.1 ns (13 T13-6 form 1). -/
structure PtpCal where
  ingress : Nat
  egress : Nat
  asym : Int
deriving DecidableEq, Repr, Inhabited

/-- A trigger (13 T13-8). due is the next firing instant on its time base, in ns, lateDue that it had passed when the
trigger was loaded or was skipped by a step; bound is the boundary B at which a fired action acts. -/
structure Trig where
  armed : Bool
  tb : Nat
  action : Nat
  start : Nat
  time : Nat
  period : Nat
  target : W32
  due : Option Nat
  lateDue : Bool
  loadTick : Nat
  late : Bool
  bound : Option Nat
deriving DecidableEq, Repr, Inhabited

/-- TB0 as tick and ns after its boundary; mono, the ns elapsed since reset; mute, the first data tick that sounds after a
step of TB0; stepTick, the boundary m + 1 at which blocks restart after it (13 T13-2); epoch, the bits [63:32] of TB0 last
announced. -/
structure TimeBlk where
  tick : Nat
  sub : Nat
  mono : Nat
  mute : Option Nat
  stepTick : Option Nat
  epoch : Nat
  bases : List TimeBase
  insts : List PtpInst
  cals : List PtpCal
  trigs : List Trig
  trigIn : List Nat
  latches : List (W32 × W32)
deriving DecidableEq, Repr, Inhabited

end Sys2Proof.Machine
end

