-- ==== Sys2Proof/Machine/TVent.lean ====
section
/-! DEFINITION. The state of the Vent cores and of the slot map (05, 06). Local data and instruction memories lie in
the engine's memory at the addresses of 05 T5-1. -/

namespace Sys2Proof.Machine
open Sys2Proof

/-- A hardware loop level (06 R175): body from first to last, iterations left. -/
structure Loop where
  first : Nat
  last : Nat
  left : Nat
deriving DecidableEq, Repr, Inhabited

/-- A register set (05 R147): D0-D31, A0-A7, MD0-MD7, AC0-AC3 with saturation locks, flags, loop levels innermost
first. -/
structure RegSet where
  d : List W32
  a : List W32
  md : List W32
  ac : List Acc
  lock : List Bool
  z : Bool
  n : Bool
  c : Bool
  v : Bool
  loops : List Loop
deriving DecidableEq, Repr, Inhabited

/-- What a result does when it retires (06 R179). acAdd adds to its accumulator at retirement, in issue order. -/
inductive Retire where
  | wrD (r : Nat) (v : W32)
  | wrA (r : Nat) (v : W32)
  | wrMd (r : Nat) (v : W32)
  | flags (z n : Bool) (c v : Option Bool)
  | acSet (r : Nat) (x : Int) (pc : Nat)
  | acAdd (r : Nat) (x : Int) (pc : Nat)
  | store (addr : Nat) (w : W32)
deriving DecidableEq, Repr, Inhabited

/-- A result in flight: the pipeline cycle from which it is seen, the order in which results of one cycle are kept
(05 R144: issue, then slot), the register set that issued it, and whether a stall or interrupt has fallen inside its
window (05 R143). -/
structure InFlight where
  due : Nat
  issue : Nat
  rank : Nat
  shadow : Bool
  stalled : Bool
  act : Retire
deriving DecidableEq, Repr, Inhabited

/-- The state of a core (05 T5-8). -/
inductive CoreMode where
  | empty | stopped | running | halted
deriving DecidableEq, Repr, Inhabited

def CoreMode.code : CoreMode → Nat
  | .empty => 0
  | .stopped => 1
  | .running => 2
  | .halted => 3

/-- Where a core stands in the tick (05 R134). -/
inductive CorePhase where
  | idle | waitStrip | strip | waitPost | post
deriving DecidableEq, Repr, Inhabited

/-- A transfer channel (05 T5-4). -/
structure Xfer where
  localA : W32
  remLo : W32
  ctl : W32
  busy : Bool
  err : Bool
deriving DecidableEq, Repr, Inhabited

/-- A taken branch: its target and the delay slots still to issue; taken is false for a branch not taken, whose delay
slots still forbid control operations (06 R176). -/
structure Branch where
  target : Nat
  slots : Nat
  taken : Bool
deriving DecidableEq, Repr, Inhabited

/-- Waiting parameter words of a VENT_PARAM_WRITE (05 R155). -/
structure ParamWr where
  tick : Nat
  off : Nat
  words : List W32
  notify : Bool
deriving DecidableEq, Repr, Inhabited

/-- A change of state that VENT_STOP or VENT_START has ordered for the data of a tick (05 R154). -/
inductive Turn where
  | stop | resume | fresh
deriving DecidableEq, Repr, Inhabited

structure Core where
  st : CoreMode
  main : RegSet
  shadow : RegSet
  pc : Nat
  handler : Option Nat
  retPc : Nat
  br : Option Branch
  infl : List InFlight
  cyc : Nat
  issue : Nat
  ph : CorePhase
  stripOver : Bool
  sat : Nat
  intEn : Nat
  intCause : Nat
  intPend : Nat
  xfers : List Xfer
  tick : W32
  ns1 : Nat
  ns2 : Nat
  ns4 : Nat
  phaseBit : Bool
  inBase : Nat
  outBase : Nat
  stripCyc : Nat
  postCyc : Nat
  stripMax : Nat
  postMax : Nat
  overruns : Nat
  eccCorr : Nat
  trap : Nat
  haltPc : Nat
  params : List ParamWr
  paramWords : Nat × Nat
  sched : List (Nat × Turn)
  lastStrip : Nat
  lastPost : Nat
  trig : List Nat
deriving DecidableEq, Repr, Inhabited

/-- A bound Vent slot (05 T5-5). -/
structure SlotMap where
  output : Bool
  slot : Nat
  core : Nat
  idx : Nat
  post : Bool
  domain : Nat
deriving DecidableEq, Repr, Inhabited

structure VentBlk where
  cores : List Core
  vmap : List SlotMap
  outs : List (Nat × List Sample)
  prevOuts : List (Nat × List Sample)
deriving DecidableEq, Repr, Inhabited

end Sys2Proof.Machine
end

