-- ==== Sys2Proof/Machine/TCopy.lean ====
section
/-! DEFINITION. What a resynchronisation copies from the active engine to the standby (14 T14-7), as the blocks that
hold it. -/

namespace Sys2Proof.Machine
open Sys2Proof

/-- The active's state as the class 6 cells of a resynchronisation carry it (14 R378, R379). cells are the bytes of the
Vent memories. -/
structure PairCopy where
  ref : RefBlk
  time : TimeBlk
  route : RouteBlk
  cald : CaldBlk
  meter : MeterBlk
  vent : VentBlk
  dec : DecBlk
  gey : GeyBlk
  tdm : TdmBlk
  net : NetBlk
  strm : StrmBlk
  cond : CondBlk
  dma : List DmaChan
  host : HostSt
  pair : PairBlk
  islands : List Island
  cells : List Host.Cell
deriving DecidableEq, Repr, Inhabited

end Sys2Proof.Machine
end

