-- ==== Sys2Proof/Syntax.lean ====
section
/-! DEFINITION. The commands of the block: one constructor per row of spec/opcode_table.json. Rows that are command
packets carry their header (or the stage of a state-changing command) and the parameter words from word 3; Vent
operations carry the core, their fields and the rest of their bundle; every other row is a happening at the engine's
pins, links, buses and timers, with t its nanosecond inside the running tick where it has an instant of its own. -/

namespace Sys2Proof
open Sys2Proof.Machine

inductive Instr where
  /-- NOP (R484). -/
  | nop (h : CmdHead) (p : List W32)
  /-- IDENTIFY (R490). -/
  | identify (h : CmdHead) (p : List W32)
  /-- SEQ_QUERY (R46). -/
  | seqQuery (h : CmdHead) (p : List W32)
  /-- STATE_GET (R491). -/
  | stateGet (h : CmdHead) (p : List W32)
  /-- BLOCK_RESET (R492). -/
  | blockReset (st : Stage) (p : List W32)
  /-- POWER_DOMAIN (R475). -/
  | powerDomain (st : Stage) (p : List W32)
  /-- TEMP_GET (R482). -/
  | tempGet (h : CmdHead) (p : List W32)
  /-- REF_CONFIG (R333). -/
  | refConfig (st : Stage) (p : List W32)
  /-- REF_SELECT (R334). -/
  | refSelect (st : Stage) (p : List W32)
  /-- REF_STATUS (R336). -/
  | refStatus (h : CmdHead) (p : List W32)
  /-- HOLDOVER_CONFIG (R335). -/
  | holdoverConfig (st : Stage) (p : List W32)
  /-- PTP_CONFIG (R353). -/
  | ptpConfig (st : Stage) (p : List W32)
  /-- PTP_DOMAIN_SELECT (R354). -/
  | ptpDomainSelect (st : Stage) (p : List W32)
  /-- TIMEBASE_CONFIG (R358). -/
  | timebaseConfig (st : Stage) (p : List W32)
  /-- TIMEBASE_ADJUST (R345). -/
  | timebaseAdjust (st : Stage) (p : List W32)
  /-- TRIGGER_SET (R355). -/
  | triggerSet (st : Stage) (p : List W32)
  /-- TIME_GET (R359). -/
  | timeGet (h : CmdHead) (p : List W32)
  /-- PORT_CONFIG (R265). -/
  | portConfig (st : Stage) (p : List W32)
  /-- MDIO_ACCESS (R494). -/
  | mdioAccess (h : CmdHead) (p : List W32)
  /-- GATE_LIST_LOAD (R273). -/
  | gateListLoad (st : Stage) (p : List W32)
  /-- FLOW_CONFIG (R277). -/
  | flowConfig (st : Stage) (p : List W32)
  /-- STATS_READ (R286). -/
  | statsRead (h : CmdHead) (p : List W32)
  /-- STREAM_RX_OPEN (R307). -/
  | streamRxOpen (st : Stage) (p : List W32)
  /-- STREAM_RX_CLOSE (R308). -/
  | streamRxClose (st : Stage) (p : List W32)
  /-- STREAM_TX_OPEN (R310). -/
  | streamTxOpen (st : Stage) (p : List W32)
  /-- STREAM_TX_CLOSE (R310). -/
  | streamTxClose (st : Stage) (p : List W32)
  /-- STREAM_STATUS (R311). -/
  | streamStatus (h : CmdHead) (p : List W32)
  /-- ADDRESS_CONFIG (R495). -/
  | addressConfig (st : Stage) (p : List W32)
  /-- ROUTE_SET (R66). -/
  | routeSet (st : Stage) (p : List W32)
  /-- ROUTE_CLEAR (R498). -/
  | routeClear (st : Stage) (p : List W32)
  /-- ROUTE_GET (R499). -/
  | routeGet (h : CmdHead) (p : List W32)
  /-- DOMAIN_CONFIG (R84). -/
  | domainConfig (st : Stage) (p : List W32)
  /-- BRIDGE_CONFIG (R501). -/
  | bridgeConfig (st : Stage) (p : List W32)
  /-- ASRC_CONFIG (R502). -/
  | asrcConfig (st : Stage) (p : List W32)
  /-- MIX_SHAPE (R98). -/
  | mixShape (st : Stage) (p : List W32)
  /-- XPOINT_WRITE (R110). -/
  | xpointWrite (st : Stage) (p : List W32)
  /-- GAIN_SET (R106). -/
  | gainSet (st : Stage) (p : List W32)
  /-- BANK_SWAP (R111). -/
  | bankSwap (st : Stage) (p : List W32)
  /-- LIMITER_SET (R114). -/
  | limiterSet (st : Stage) (p : List W32)
  /-- METER_CONFIG (R117). -/
  | meterConfig (st : Stage) (p : List W32)
  /-- METER_READ (R121). -/
  | meterRead (h : CmdHead) (p : List W32)
  /-- PEAK_RESET (R121). -/
  | peakReset (st : Stage) (p : List W32)
  /-- VENT_LOAD (R153). -/
  | ventLoad (st : Stage) (p : List W32)
  /-- VENT_START (R154). -/
  | ventStart (st : Stage) (p : List W32)
  /-- VENT_STOP (R154). -/
  | ventStop (st : Stage) (p : List W32)
  /-- VENT_PARAM_WRITE (R155). -/
  | ventParamWrite (st : Stage) (p : List W32)
  /-- VENT_STATUS (R156). -/
  | ventStatus (h : CmdHead) (p : List W32)
  /-- VENT_MAP (R132). -/
  | ventMap (st : Stage) (p : List W32)
  /-- DEC_CONFIG (R189). -/
  | decConfig (st : Stage) (p : List W32)
  /-- DEC_SYNC (R196). -/
  | decSync (st : Stage) (p : List W32)
  /-- DETECT_CONFIG (R193). -/
  | detectConfig (st : Stage) (p : List W32)
  /-- DCBLOCK_CONFIG (R195). -/
  | dcblockConfig (st : Stage) (p : List W32)
  /-- TDM_CONFIG (R242). -/
  | tdmConfig (st : Stage) (p : List W32)
  /-- TDM_SLOTMASK (R252). -/
  | tdmSlotmask (st : Stage) (p : List W32)
  /-- TDM_RESTART (R256). -/
  | tdmRestart (st : Stage) (p : List W32)
  /-- MOD_CONFIG (R216). -/
  | modConfig (st : Stage) (p : List W32)
  /-- MOD_ARM (R218). -/
  | modArm (st : Stage) (p : List W32)
  /-- MOD_DISARM (R220). -/
  | modDisarm (st : Stage) (p : List W32)
  /-- LOAD_DIAG_RUN (R223). -/
  | loadDiagRun (st : Stage) (p : List W32)
  /-- LOAD_DIAG_RESULT (R224). -/
  | loadDiagResult (h : CmdHead) (p : List W32)
  /-- PROTECT_CONFIG (R232). -/
  | protectConfig (st : Stage) (p : List W32)
  /-- BOOST_CONFIG (R227). -/
  | boostConfig (st : Stage) (p : List W32)
  /-- MOD_CHANNEL_ENABLE (R233). -/
  | modChannelEnable (st : Stage) (p : List W32)
  /-- PAIR_CONFIG (R396). -/
  | pairConfig (st : Stage) (p : List W32)
  /-- PAIR_STATUS (R397). -/
  | pairStatus (h : CmdHead) (p : List W32)
  /-- PAIR_HANDOVER (R392). -/
  | pairHandover (st : Stage) (p : List W32)
  /-- PAIR_RESYNC (R378). -/
  | pairResync (st : Stage) (p : List W32)
  /-- HEARTBEAT_CONFIG (R399). -/
  | heartbeatConfig (st : Stage) (p : List W32)
  /-- FAULT_STATUS (R445). -/
  | faultStatus (h : CmdHead) (p : List W32)
  /-- FAULT_HISTORY (R447). -/
  | faultHistory (h : CmdHead) (p : List W32)
  /-- FAULT_CLEAR (R446). -/
  | faultClear (st : Stage) (p : List W32)
  /-- FAULT_REACTION (R439). -/
  | faultReaction (st : Stage) (p : List W32)
  /-- JOURNAL_READ (R450). -/
  | journalRead (h : CmdHead) (p : List W32)
  /-- STORE_WRITE (R504). -/
  | storeWrite (h : CmdHead) (p : List W32)
  /-- STORE_READ (R506). -/
  | storeRead (h : CmdHead) (p : List W32)
  /-- STORE_STATUS (R507). -/
  | storeStatus (h : CmdHead) (p : List W32)
  /-- SCENE_LOAD (R462). -/
  | sceneLoad (st : Stage) (p : List W32)
  /-- FW_UPDATE (R468). -/
  | fwUpdate (h : CmdHead) (p : List W32)
  /-- DMA_CHANNEL_CONFIG (R423). -/
  | dmaChannelConfig (st : Stage) (p : List W32)
  /-- DMA_START (R423). -/
  | dmaStart (st : Stage) (p : List W32)
  /-- DMA_STATUS (R424). -/
  | dmaStatus (h : CmdHead) (p : List W32)
  /-- WINDOW_CONFIG (R408). -/
  | windowConfig (st : Stage) (p : List W32)
  /-- ARB_CONFIG (R417). -/
  | arbConfig (st : Stage) (p : List W32)
  /-- PENDING_COMMAND_APPLY (R37). -/
  | pendingCommandApply
  /-- CMD_WPTR_WRITE (R516). -/
  | cmdWptrWrite (v : W32) (slots : List (Nat × List W32))
  /-- COMMAND_RING_TAKE (R48). -/
  | commandRingTake (t : Nat)
  /-- PCIE_DOWNLOAD_LENGTH (R470). -/
  | pcieDownloadLength (image : List W32) (len : W32)
  /-- RPL_RPTR_WRITE (R516). -/
  | rplRptrWrite (v : W32)
  /-- EVT_RPTR_WRITE (R516). -/
  | evtRptrWrite (v : W32)
  /-- INT_STATUS_WRITE (R523). -/
  | intStatusWrite (v setNow : W32)
  /-- INT_MASK_WRITE (R517). -/
  | intMaskWrite (v : W32)
  /-- INT_FORCE_WRITE (R515). -/
  | intForceWrite (v : W32)
  /-- TIME_NS_READ (R519). -/
  | timeNsRead (t : Nat) (rq : Requester)
  /-- QFC_MAP_WRITE (R430). -/
  | qfcMapWrite (v : W32)
  /-- REGISTER_WRITE (R513). -/
  | registerWrite (rq : Requester) (off : Nat) (v : W32) (whole : Bool)
  /-- SPI_WRITE_COMMAND (R52). -/
  | spiWriteCommand (t n : Nat) (words : List W32) (early : Bool)
  /-- SPI_READ_PACKET (R53). -/
  | spiReadPacket (ack : Bool) (n : Nat)
  /-- SPI_READ_STATUS (R51). -/
  | spiReadStatus
  /-- SPI_DOWNLOAD_APPEND (R470). -/
  | spiDownloadAppend (n : Nat) (words : List W32) (early : Bool)
  /-- SPI_DOWNLOAD_LENGTH (R470). -/
  | spiDownloadLength (n : Nat) (words : List W32) (early : Bool)
  /-- SPI_REGISTER_READ (R514). -/
  | spiRegisterRead (t n addr : Nat)
  /-- SPI_REGISTER_WRITE (R514). -/
  | spiRegisterWrite (n addr : Nat) (words : List W32) (early : Bool)
  /-- TICK_BOUNDARY (R11). -/
  | tickBoundary
  /-- INPUT_CUTOFF (R13). -/
  | inputCutoff
  /-- STRIP_DEADLINE (R136). -/
  | stripDeadline
  /-- POST_DEADLINE (R136). -/
  | postDeadline
  /-- CALDERA_COMPLETE (R14). -/
  | calderaComplete (t : Nat)
  /-- VENT_STRIP_START (R134). -/
  | ventStripStart (t core : Nat)
  /-- VENT_POST_START (R134). -/
  | ventPostStart (t core : Nat)
  /-- VENT_INTERRUPT_ENTRY (R146). -/
  | ventInterruptEntry (t core : Nat)
  /-- VENT_TRANSFER_COMPLETE (R131). -/
  | ventTransferComplete (t core ch : Nat) (err : Bool)
  /-- VENT_TRANSFER_GO (R131). -/
  | ventTransferGo (core ch : Nat)
  /-- VENT_INT_CAUSE_CLEAR (R145). -/
  | ventIntCauseClear (core : Nat) (bits : W32)
  /-- VENT_SAT_CLEAR (R140). -/
  | ventSatClear (core : Nat) (bits : W32)
  /-- MNOP (R166). -/
  | vMnop (core : Nat) (rest : MacRest)
  /-- MAC (R166). -/
  | vMac (core : Nat) (ds : BitVec 5) (q : BitVec 3) (skip : BitVec 4) (rest : MacRest)
  /-- MSU (R166). -/
  | vMsu (core : Nat) (ds : BitVec 5) (q : BitVec 3) (skip : BitVec 4) (rest : MacRest)
  /-- MPY (R166). -/
  | vMpy (core : Nat) (ds : BitVec 5) (q : BitVec 3) (skip : BitVec 4) (rest : MacRest)
  /-- MPYN (R166). -/
  | vMpyn (core : Nat) (ds : BitVec 5) (q : BitVec 3) (skip : BitVec 4) (rest : MacRest)
  /-- MACS (R167). -/
  | vMacs (core : Nat) (ds : BitVec 5) (q : BitVec 3) (skip : BitVec 4) (dt : BitVec 5) (rest : MacRest)
  /-- MSUS (R167). -/
  | vMsus (core : Nat) (ds : BitVec 5) (q : BitVec 3) (skip : BitVec 4) (dt : BitVec 5) (rest : MacRest)
  /-- ACLR (R166). -/
  | vAclr (core : Nat) (mask : BitVec 4) (rest : MacRest)
  /-- ACSH (R168). -/
  | vAcsh (core : Nat) (acs acd : BitVec 2) (sh : BitVec 5) (rest : MacRest)
  /-- ACADD (R168). -/
  | vAcadd (core : Nat) (acs acd : BitVec 2) (sh : BitVec 5) (rest : MacRest)
  /-- ACSUB (R168). -/
  | vAcsub (core : Nat) (acs acd : BitVec 2) (sh : BitVec 5) (rest : MacRest)
  /-- ACWR (R166). -/
  | vAcwr (core : Nat) (acd : BitVec 2) (q : BitVec 3) (rest : MacRest)
  /-- ACRD (R166). -/
  | vAcrd (core : Nat) (acs : BitVec 2) (q : BitVec 3) (rest : MacRest)
  /-- ACRND (R166). -/
  | vAcrnd (core : Nat) (acs : BitVec 2) (sh dd : BitVec 5) (rest : MacRest)
  /-- ADD (R168). -/
  | vAdd (core : Nat) (dd da db : BitVec 5) (imm : Bool) (rest : MacRest)
  /-- SUB (R168). -/
  | vSub (core : Nat) (dd da db : BitVec 5) (imm : Bool) (rest : MacRest)
  /-- ADDS (R168). -/
  | vAdds (core : Nat) (dd da db : BitVec 5) (imm : Bool) (rest : MacRest)
  /-- SUBS (R168). -/
  | vSubs (core : Nat) (dd da db : BitVec 5) (imm : Bool) (rest : MacRest)
  /-- AND (R168). -/
  | vAnd (core : Nat) (dd da db : BitVec 5) (imm : Bool) (rest : MacRest)
  /-- OR (R168). -/
  | vOr (core : Nat) (dd da db : BitVec 5) (imm : Bool) (rest : MacRest)
  /-- XOR (R168). -/
  | vXor (core : Nat) (dd da db : BitVec 5) (imm : Bool) (rest : MacRest)
  /-- SHL (R168). -/
  | vShl (core : Nat) (dd da db : BitVec 5) (imm : Bool) (rest : MacRest)
  /-- ASR (R168). -/
  | vAsr (core : Nat) (dd da db : BitVec 5) (imm : Bool) (rest : MacRest)
  /-- LSR (R168). -/
  | vLsr (core : Nat) (dd da db : BitVec 5) (imm : Bool) (rest : MacRest)
  /-- MIN (R168). -/
  | vMin (core : Nat) (dd da db : BitVec 5) (imm : Bool) (rest : MacRest)
  /-- MAX (R168). -/
  | vMax (core : Nat) (dd da db : BitVec 5) (imm : Bool) (rest : MacRest)
  /-- ABS (R168). -/
  | vAbs (core : Nat) (dd da : BitVec 5) (rest : MacRest)
  /-- CMP (R168). -/
  | vCmp (core : Nat) (da db : BitVec 5) (imm : Bool) (rest : MacRest)
  /-- MOVFX (R168). -/
  | vMovfx (core : Nat) (dd : BitVec 5) (xa : BitVec 4) (rest : MacRest)
  /-- MOVTX (R168). -/
  | vMovtx (core : Nat) (xd : BitVec 4) (da : BitVec 5) (rest : MacRest)
  /-- LIT (R169). -/
  | vLit (core : Nat) (dest : LitDest) (value : W32) (mac : MacOp)
  /-- LDW (R170). -/
  | vLdw (core : Nat) (r : BitVec 5) (an : BitVec 3) (am : AddrMode) (rest : LsRest)
  /-- LDL (R170). -/
  | vLdl (core : Nat) (rp : BitVec 4) (an : BitVec 3) (am : AddrMode) (rest : LsRest)
  /-- STW (R170). -/
  | vStw (core : Nat) (r : BitVec 5) (an : BitVec 3) (am : AddrMode) (rest : LsRest)
  /-- STL (R170). -/
  | vStl (core : Nat) (rp : BitVec 4) (an : BitVec 3) (am : AddrMode) (rest : LsRest)
  /-- LDX (R170). -/
  | vLdx (core : Nat) (x : BitVec 4) (an : BitVec 3) (am : AddrMode) (rest : LsRest)
  /-- STX (R170). -/
  | vStx (core : Nat) (x : BitVec 4) (an : BitVec 3) (am : AddrMode) (rest : LsRest)
  /-- STAC (R170). -/
  | vStac (core : Nat) (ac : BitVec 2) (sh : BitVec 3) (an : BitVec 3) (am : AddrMode) (rest : LsRest)
  /-- CNOP (R174). -/
  | vCnop (core : Nat) (rest : CnopRest)
  /-- YIELD (R178). -/
  | vYield (core : Nat) (rest : ShortRest)
  /-- RETI (R146). -/
  | vReti (core : Nat) (rest : ShortRest)
  /-- LEXIT (R177). -/
  | vLexit (core : Nat) (rest : ShortRest)
  /-- JR (R176). -/
  | vJr (core : Nat) (n : BitVec 5) (rest : ShortRest)
  /-- BR (R176). -/
  | vBr (core : Nat) (c : Cond) (target : BitVec 13) (rest : LongRest)
  /-- CALL (R176). -/
  | vCall (core : Nat) (target : BitVec 13) (dl : BitVec 5) (rest : LongRest)
  /-- LOOPI (R175). -/
  | vLoopi (core : Nat) (count : BitVec 16) (last : BitVec 13) (rest : LongRest)
  /-- LOOPR (R175). -/
  | vLoopr (core : Nat) (dc : BitVec 5) (last : BitVec 13) (rest : LongRest)
  /-- LDA (R174). -/
  | vLda (core : Nat) (an : BitVec 3) (imm : BitVec 18) (rest : LongRest)
  /-- CROSSFADE_COMPLETE (R79). -/
  | crossfadeComplete (t sink : Nat)
  /-- GAIN_TIMEOUT (R107). -/
  | gainTimeout (t : Nat) (bus : Bool) (idx : Nat)
  /-- BANK_LOCK_END (R112). -/
  | bankLockEnd
  /-- METER_PUBLICATION (R119). -/
  | meterPublication (t : Nat)
  /-- FAMILY_CHANGE_MUTE_END (R84). -/
  | familyChangeMuteEnd
  /-- ASRC_LOCK (R90). -/
  | asrcLock (t tracker : Nat)
  /-- ASRC_UNLOCK (R90). -/
  | asrcUnlock (t tracker : Nat)
  /-- DEC_SYNC_IN_EDGE (R196). -/
  | decSyncInEdge (t : Nat)
  /-- DECIMATOR_SYNC (R197). -/
  | decimatorSync
  /-- DEC_SETTLE_END (R197). -/
  | decSettleEnd (ctx : Nat)
  /-- DETECTOR_BLOCK_END (R192). -/
  | detectorBlockEnd (t ctx : Nat)
  /-- STUCK_DETECT (R194). -/
  | stuckDetect (t ctx : Nat) (value : Bool)
  /-- FAST_PATH_VALUE (R191). -/
  | fastPathValue (t ctx : Nat) (bits : List Bool)
  /-- SENSE_STATUS_WORD (R201). -/
  | senseStatusWord (t lane : Nat) (w : W32) (density : Nat)
  /-- STAGE_READY (R218). -/
  | stageReady (g : Nat)
  /-- STAGE_TIMEOUT (R218). -/
  | stageTimeout (t g : Nat)
  /-- DIAG_STEP_END (R221). -/
  | diagStepEnd (g : Nat) (meas : List (Nat × Int × Int))
  /-- DIAG_COMPLETE (R222). -/
  | diagComplete (t g : Nat)
  /-- RAMP_UP_COMPLETE (R219). -/
  | rampUpComplete (g : Nat)
  /-- DISARM_FADE_COMPLETE (R220). -/
  | disarmFadeComplete (g : Nat)
  /-- RAMP_DOWN_COMPLETE (R220). -/
  | rampDownComplete (g : Nat)
  /-- OVERCURRENT_TRIP (R229). -/
  | overcurrentTrip (t ch : Nat) (high : Bool)
  /-- PS_FLT_ASSERT (R230). -/
  | psFltAssert (t g : Nat)
  /-- PS_FLT_RELEASE (R230). -/
  | psFltRelease (t g : Nat)
  /-- PS_FAULT_TIMEOUT (R230). -/
  | psFaultTimeout (t g : Nat)
  /-- CHANNEL_RETRY_START (R231). -/
  | channelRetryStart (ch : Nat)
  /-- FAILURE_COUNT_RESET (R231). -/
  | failureCountReset (ch : Nat)
  /-- CHANNEL_ENTER_COMPLETE (R232). -/
  | channelEnterComplete (ch : Nat)
  /-- CHANNEL_LEAVE_COMPLETE (R232). -/
  | channelLeaveComplete (ch : Nat)
  /-- BOOST_OVERVOLTAGE (R228). -/
  | boostOvervoltage (t g : Nat)
  /-- BOOST_UNDERVOLTAGE (R228). -/
  | boostUndervoltage (t g : Nat)
  /-- TDM_FRAME_START (R244). -/
  | tdmFrameStart (t g bclks rate : Nat) (din : List (Nat × List W32))
  /-- TDM_GROUP_QUALIFY (R249). -/
  | tdmGroupQualify (g : Nat)
  /-- TDM_GROUP_LOSS (R250). -/
  | tdmGroupLoss (t g cause : Nat)
  /-- FRAME_RECEIVE (R267). -/
  | frameReceive (t port : Nat) (f : Frame)
  /-- PAUSE_TIMER_EXPIRE (R279). -/
  | pauseTimerExpire (t port unit : Nat)
  /-- PAUSE_REPEAT (R278). -/
  | pauseRepeat (t port unit : Nat)
  /-- PAUSE_WATCHDOG (R280). -/
  | pauseWatchdog (t port unit : Nat)
  /-- FRAME_TRANSMIT (R274). -/
  | frameTransmit (t port : Nat)
  /-- GATE_ENTRY_BOUNDARY (R272). -/
  | gateEntryBoundary (t port : Nat)
  /-- LINK_UP (R266). -/
  | linkUp (t port rate : Nat)
  /-- LINK_DOWN (R266). -/
  | linkDown (t port : Nat)
  /-- QUEUE_DATA_READ (R427). -/
  | queueDataRead (t master q : Nat)
  /-- QUEUE_DATA_WRITE (R427). -/
  | queueDataWrite (t master q : Nat) (w : W32)
  /-- QUEUE_COMMIT (R427). -/
  | queueCommit (t master q : Nat) (w : W32)
  /-- QUEUE_REWIND (R427). -/
  | queueRewind (t master q : Nat)
  /-- STREAM_PACKET_COMMIT (R302). -/
  | streamPacketCommit (t port : Nat)
  /-- STREAM_PATH_DOWN (R303). -/
  | streamPathDown (t slot port : Nat)
  /-- STREAM_LOST (R308). -/
  | streamLost (t slot : Nat)
  /-- REF_DISQUALIFY (R318). -/
  | refDisqualify (t ref cause : Nat)
  /-- REF_QUALIFYING (R316). -/
  | refQualifying (t ref : Nat)
  /-- REF_QUALIFIED (R316). -/
  | refQualified (t ref : Nat)
  /-- REF_FREQUENCY_MEASURE (R320). -/
  | refFrequencyMeasure (t : Nat) (rfreq dfreq dphase : List Int)
  /-- DPLL_LOCK (R326). -/
  | dpllLock (t dpll refTime : Nat)
  /-- DPLL_SWITCH_COMPLETE (R324). -/
  | dpllSwitchComplete (t dpll : Nat) (offset : Int) (refTime : Nat)
  /-- HOLDOVER_EXPIRED (R329). -/
  | holdoverExpired (t dpll : Nat)
  /-- AGEING_LEARN (R330). -/
  | ageingLearn (t : Nat) (rate resid hours : W32)
  /-- ISLAND_CLOCK_FAIL (R9). -/
  | islandClockFail (t island : Nat)
  /-- TIME_STEER_END (R343). -/
  | timeSteerEnd (t tb : Nat)
  /-- STEP_MUTE_END (R345). -/
  | stepMuteEnd
  /-- EVENT_TIME_EPOCH (R346). -/
  | eventTimeEpoch (t : Nat)
  /-- PTP_MESSAGE_RECEIVE (R350). -/
  | ptpMessageReceive (t which port : Nat) (m : PtpMsg)
  /-- PTP_SAMPLE (R348). -/
  | ptpSample (t which : Nat) (err pred freq : Int)
  /-- PTP_CALIBRATED (R351). -/
  | ptpCalibrated (t which : Nat)
  /-- PTP_DOMAIN_LOST (R351). -/
  | ptpDomainLost (t which cause : Nat)
  /-- TRIG_IN_EDGE (R356). -/
  | trigInEdge (t pin : Nat)
  /-- TRIGGER_FIRE (R355). -/
  | triggerFire (t trig : Nat)
  /-- HEARTBEAT_SEND (R369). -/
  | heartbeatSend (t k : Nat)
  /-- HEARTBEAT_CHECK (R385). -/
  | heartbeatCheck (t k : Nat)
  /-- KA_IN_EDGE (R384). -/
  | kaInEdge (t : Nat)
  /-- KA_LOST (R384). -/
  | kaLost (t : Nat)
  /-- GUARD_RELEASE (R389). -/
  | guardRelease (t : Nat)
  /-- STARTUP_WAIT_EXPIRE (R365). -/
  | startupWaitExpire (t : Nat)
  /-- DWEUNE_LINK_UP (R367). -/
  | dweuneLinkUp (t : Nat)
  /-- DWEUNE_LINK_DOWN (R367). -/
  | dweuneLinkDown (t : Nat)
  /-- DWEUNE_CELL_RECEIVE (R368). -/
  | dweuneCellReceive (t cseq : Nat) (crcOk : Bool) (c : Cell)
  /-- LINK_CALIBRATION (R371). -/
  | linkCalibration (t : Nat) (d : Int)
  /-- PATCH_SEND (R374). -/
  | patchSend (t : Nat) (c : CopyId)
  /-- HAVE_SET_FREEZE (R374). -/
  | haveSetFreeze (t ptick : Nat)
  /-- DIGEST_COMPARE (R377). -/
  | digestCompare (t tick : Nat)
  /-- RESYNC_PHASE_COMPLETE (R378). -/
  | resyncPhaseComplete (t : Nat) (c : Option PairCopy)
  /-- RESYNC_RETRY (R380). -/
  | resyncRetry (t : Nat)
  /-- HOLD_OFF_EXPIRE (R394). -/
  | holdOffExpire (t : Nat)
  /-- HANDOVER_INSTANT (R392). -/
  | handoverInstant (t : Nat)
  /-- NETWORK_HEARTBEAT_SEND (R399). -/
  | networkHeartbeatSend (t : Nat)
  /-- CONDUIT_REQUEST (R410). -/
  | conduitRequest (t master addr : Nat) (op : BusOp) (lock release : Bool) (holder : Nat)
  /-- TRANSACTION_COMPLETE (R403). -/
  | transactionComplete (t target : Nat) (ok : Bool)
  /-- BUS_TIMEOUT (R409). -/
  | busTimeout (t target : Nat)
  /-- STARVATION (R414). -/
  | starvation (t target master : Nat)
  /-- LOCK_TIMEOUT (R415). -/
  | lockTimeout (t target : Nat)
  /-- DMA_DESCRIPTOR_COMPLETE (R421). -/
  | dmaDescriptorComplete (t ch : Nat)
  /-- DMA_XFER_ERR (R422). -/
  | dmaXferErr (t ch moved : Nat) (fetch notify : Bool)
  /-- ISLAND_DRAIN_COMPLETE (R432). -/
  | islandDrainComplete (t island forced : Nat)
  /-- ISLAND_START_COMPLETE (R476). -/
  | islandStartComplete (island : Nat)
  /-- FAULT_MESSAGE_RECEIVE (R437). -/
  | faultMessageReceive (t : Nat) (m : FaultMsg)
  /-- FIRST_FAULT_CLOSE (R443). -/
  | firstFaultClose (t : Nat)
  /-- FLASH_OPERATION_COMPLETE (R459). -/
  | flashOperationComplete (t : Nat) (readBack : Bool)
  /-- FLASH_OPERATION_TIMEOUT (R459). -/
  | flashOperationTimeout (t : Nat)
  /-- STORE_SESSION_TIMEOUT (R459). -/
  | storeSessionTimeout (t region : Nat)
  /-- COLD_RESET (R473). -/
  | coldReset
  /-- WARM_RESET (R473). -/
  | warmReset
  /-- RESET_RELEASE (R469). -/
  | resetRelease (boot role : Nat) (host : Bool) (vddioA : Nat)
  /-- BOOT_COMPLETE (R471). -/
  | bootComplete (t : Nat)
  /-- PERST_ASSERT (R526). -/
  | perstAssert
  /-- PERST_RELEASE (R526). -/
  | perstRelease (t : Nat)
  /-- PWRGD_FALL (R531). -/
  | pwrgdFall
  /-- PCIE_LINK_DOWN (R436). -/
  | pcieLinkDown (t : Nat)
  /-- SUPPLY_FAULT (R478). -/
  | supplyFault (t index supply mv : Nat)
  /-- THERMAL_SAMPLE (R479). -/
  | thermalSample (t : Nat) (temps : List Int)
  /-- PAUSE_IGNORE_END (R280). -/
  | pauseIgnoreEnd (t port unit : Nat)
  /-- PTP_MESSAGE_TRANSMIT (R351). -/
  | ptpMessageTransmit (t which port : Nat) (k : PtpTx)
  /-- STANDBY_ALIGNED (R382). -/
  | standbyAligned (t : Nat)
  /-- CTRL_WATCHDOG (R33). -/
  | ctrlWatchdog (t : Nat)
  /-- MDIO_TRANSACTION_COMPLETE (R494). -/
  | mdioTransactionComplete (t : Nat) (data : W16)
  /-- MSIX_MASK_CLEAR (R517). -/
  | msixMaskClear (vec : Option Nat)
  /-- PCIE_LINK_UP (R436). -/
  | pcieLinkUp (t : Nat)
  /-- IO_SUPPLY_LOSS (R532). -/
  | ioSupplyLoss (modGroup : Bool)
  /-- FUSE_PROGRAMMING (R466). -/
  | fuseProgramming (words : List W32)
deriving DecidableEq, Repr

end Sys2Proof
end

