-- ==== Sys2Proof/Decode.lean ====
section
/-! DEFINITION. The decoder of the command table: no row of spec/opcode_table.json gives its command any bits, so no
word spells a command. The bundles of the Vent cores have their own decoder in Machine/VentCode.lean. -/

namespace Sys2Proof

/-- The command that a word spells by the table's bits: none, since the table gives bits to no row. -/
def decodeTableWord (_nbits _w : Nat) : Option Instr := none

end Sys2Proof
end

