-- ==== Sys2Proof/Machine/Crypto.lean ====
section
/-! DEFINITION. The checks that the spec names by their standards: CRC-32C (02 R52, 17 R456), SHA-256 (FIPS 180-4) and
HMAC-SHA-256 (RFC 2104) of 02 R57 and 17 R467. -/

namespace Sys2Proof.Machine
open Sys2Proof

/-- One bit of a reflected CRC of 32 bits with the given reflected polynomial. -/
def crcBit (poly : W32) (c : W32) : W32 := if c.getLsbD 0 then (c >>> 1) ^^^ poly else c >>> 1

/-- One byte of CRC-32C (polynomial 0x1EDC6F41, reflected). -/
def crc32cByte (c : W32) (b : Byte) : W32 :=
  let c := c ^^^ b.zeroExtend 32
  let k := crcBit 0x82F63B78
  k (k (k (k (k (k (k (k c)))))))

/-- CRC-32C of bytes in transmitted order: start and final exclusive-or all ones. -/
def crc32c (bs : List Byte) : W32 := (bs.foldl crc32cByte 0xFFFFFFFF) ^^^ 0xFFFFFFFF

/-- CRC-32C over words sent most significant byte first, as on the SPI channel (02 R51, R52). -/
def crc32cBE (ws : List W32) : W32 := crc32c (ws.flatMap wordBytesBE)

/-- CRC-32C over words stored least significant byte first, as in the flash (17 R456). -/
def crc32cLE (ws : List W32) : W32 := crc32c (ws.flatMap wordBytes)

def rotr (w : W32) (n : Nat) : W32 := (w >>> n) ||| (w <<< (32 - n))

/-- The round constants of SHA-256. -/
def shaK : List W32 := [
  0x428a2f98, 0x71374491, 0xb5c0fbcf, 0xe9b5dba5, 0x3956c25b, 0x59f111f1, 0x923f82a4, 0xab1c5ed5,
  0xd807aa98, 0x12835b01, 0x243185be, 0x550c7dc3, 0x72be5d74, 0x80deb1fe, 0x9bdc06a7, 0xc19bf174] ++ [
  0xe49b69c1, 0xefbe4786, 0x0fc19dc6, 0x240ca1cc, 0x2de92c6f, 0x4a7484aa, 0x5cb0a9dc, 0x76f988da,
  0x983e5152, 0xa831c66d, 0xb00327c8, 0xbf597fc7, 0xc6e00bf3, 0xd5a79147, 0x06ca6351, 0x14292967] ++ [
  0x27b70a85, 0x2e1b2138, 0x4d2c6dfc, 0x53380d13, 0x650a7354, 0x766a0abb, 0x81c2c92e, 0x92722c85,
  0xa2bfe8a1, 0xa81a664b, 0xc24b8b70, 0xc76c51a3, 0xd192e819, 0xd6990624, 0xf40e3585, 0x106aa070] ++ [
  0x19a4c116, 0x1e376c08, 0x2748774c, 0x34b0bcb5, 0x391c0cb3, 0x4ed8aa4a, 0x5b9cca4f, 0x682e6ff3,
  0x748f82ee, 0x78a5636f, 0x84c87814, 0x8cc70208, 0x90befffa, 0xa4506ceb, 0xbef9a3f7, 0xc67178f2]

/-- The eight working words of SHA-256. -/
structure Sha where
  a : W32
  b : W32
  c : W32
  d : W32
  e : W32
  f : W32
  g : W32
  h : W32
deriving DecidableEq, Repr, Inhabited

def Sha.add (x y : Sha) : Sha :=
  ⟨x.a + y.a, x.b + y.b, x.c + y.c, x.d + y.d, x.e + y.e, x.f + y.f, x.g + y.g, x.h + y.h⟩

/-- The initial hash value of SHA-256. -/
def shaInit : Sha := ⟨0x6a09e667, 0xbb67ae85, 0x3c6ef372, 0xa54ff53a, 0x510e527f, 0x9b05688c, 0x1f83d9ab, 0x5be0cd19⟩

def shaRound (s : Sha) (kw : W32) : Sha :=
  let t1 := s.h + (rotr s.e 6 ^^^ rotr s.e 11 ^^^ rotr s.e 25) + ((s.e &&& s.f) ^^^ (~~~s.e &&& s.g)) + kw
  let t2 := (rotr s.a 2 ^^^ rotr s.a 13 ^^^ rotr s.a 22) + ((s.a &&& s.b) ^^^ (s.a &&& s.c) ^^^ (s.b &&& s.c))
  ⟨t1 + t2, s.a, s.b, s.c, s.d + t1, s.e, s.f, s.g⟩

/-- The message schedule: words in reverse order, extended n times. -/
def shaExtend : Nat → List W32 → List W32
  | 0, ws => ws
  | n + 1, ws =>
    let w15 := ws.getD 14 0
    let w2 := ws.getD 1 0
    let s0 := rotr w15 7 ^^^ rotr w15 18 ^^^ (w15 >>> 3)
    let s1 := rotr w2 17 ^^^ rotr w2 19 ^^^ (w2 >>> 10)
    shaExtend n ((ws.getD 15 0 + s0 + ws.getD 6 0 + s1) :: ws)

def shaBlock (s : Sha) (block : List W32) : Sha :=
  let ws := (shaExtend 48 block.reverse).reverse
  s.add ((List.zipWith (· + ·) shaK ws).foldl shaRound s)

/-- The blocks of sixteen words of a padded message, at most n of them. -/
def shaBlocks : Nat → List W32 → Sha → Sha
  | 0, _, s => s
  | n + 1, ws, s => if ws.isEmpty then s else shaBlocks n (ws.drop 16) (shaBlock s (ws.take 16))

/-- The padding of a message of len bytes: 0x80, zeros, and the length in bits as 64 bits. -/
def shaPad (len : Nat) : List Byte :=
  (0x80 : Byte) :: List.replicate ((119 - len % 64) % 64) 0 ++
    (wordBytesBE (w32 (len * 8 / 2 ^ 32)) ++ wordBytesBE (w32 (len * 8)))

/-- SHA-256 (FIPS 180-4) as eight words. -/
def sha256 (bs : List Byte) : List W32 :=
  let ws := wordsBE (bs ++ shaPad bs.length)
  let s := shaBlocks (ws.length / 16 + 1) ws shaInit
  [s.a, s.b, s.c, s.d, s.e, s.f, s.g, s.h]

/-- HMAC-SHA-256 (RFC 2104) with a key of at most 64 bytes. -/
def hmacSha256 (key bs : List Byte) : List W32 :=
  let k := key ++ List.replicate (64 - key.length) 0
  let inner := sha256 (k.map (· ^^^ 0x36) ++ bs)
  sha256 (k.map (· ^^^ 0x5c) ++ inner.flatMap wordBytesBE)

/-- The UDP channel's tag: the first 128 bits of the HMAC over the packet's bytes as transmitted (02 R57). -/
def udpTag (key : List W32) (ws : List W32) : List W32 :=
  (hmacSha256 (key.flatMap wordBytesBE) (ws.flatMap wordBytesBE)).take 4

end Sys2Proof.Machine
end

