-- ==== Sys2Proof/Machine/Mem.lean ====
section
/-! DEFINITION. Memory as a canonical list of listed bytes: addresses strictly rising, and no listed byte equal to 0,
which is what an unlisted address reads as (log 9). Words are little-endian (19 R520). -/

namespace Sys2Proof.Machine
open Sys2Proof

/-- The canonical form. -/
def memWf : List Host.Cell → Bool
  | [] => true
  | [c] => c.2 != 0
  | c :: d :: t => c.2 != 0 && decide (c.1 < d.1) && memWf (d :: t)

/-- The byte at an address; an unlisted one reads 0. -/
def memRead (m : List Host.Cell) (a : Nat) : Byte :=
  match m with
  | [] => 0
  | c :: t => if c.1 == a then c.2 else memRead t a

/-- Adds or replaces a byte, keeping addresses rising. -/
def memSet (m : List Host.Cell) (a : Nat) (b : Byte) : List Host.Cell :=
  match m with
  | [] => [(a, b)]
  | c :: t => if a < c.1 then (a, b) :: c :: t else if a == c.1 then (a, b) :: t else c :: memSet t a b

/-- Unlists an address. -/
def memUnset (m : List Host.Cell) (a : Nat) : List Host.Cell :=
  match m with
  | [] => []
  | c :: t => if c.1 == a then t else c :: memUnset t a

/-- Writes one byte. -/
def memWrite (m : List Host.Cell) (a : Nat) (b : Byte) : List Host.Cell :=
  if b = 0 then memUnset m a else memSet m a b

/-- Writes bytes at consecutive addresses, the first at a. -/
def memWrites (m : List Host.Cell) (a : Nat) : List Byte → List Host.Cell
  | [] => m
  | b :: t => memWrites (memWrite m a b) (a + 1) t

/-- Unlists every address from lo up to hi, hi not included. -/
def memClear (m : List Host.Cell) (lo hi : Nat) : List Host.Cell :=
  match m with
  | [] => []
  | c :: t => if lo ≤ c.1 ∧ c.1 < hi then memClear t lo hi else c :: memClear t lo hi

/-- Replaces what lies from lo up to hi by bytes at offsets from lo; offsets beyond are ignored. -/
def memReplace (m : List Host.Cell) (lo hi : Nat) (cells : List (Nat × Byte)) : List Host.Cell :=
  (cells.filter (fun c => decide (lo + c.1 < hi))).foldl (fun m c => memWrite m (lo + c.1) c.2) (memClear m lo hi)

def memReads (m : List Host.Cell) (a n : Nat) : List Byte := (List.range n).map (fun i => memRead m (a + i))

def memReadW (m : List Host.Cell) (a : Nat) : W32 :=
  bytesWord (memRead m a) (memRead m (a + 1)) (memRead m (a + 2)) (memRead m (a + 3))

def memWriteW (m : List Host.Cell) (a : Nat) (w : W32) : List Host.Cell := memWrites m a (wordBytes w)

/-- Writes words at consecutive word addresses. -/
def memWriteWs (m : List Host.Cell) (a : Nat) : List W32 → List Host.Cell
  | [] => m
  | w :: t => memWriteWs (memWriteW m a w) (a + 4) t

end Sys2Proof.Machine
end

