-- ==== Sys2Proof/Config.lean ====
section
/-! DEFINITION. What the spec leaves open, as constants with no body: nothing in Lean can see their values, so a claim
holds whatever they are. Each free function takes the number of the free value (State.fresh, log 2); the havoc constants
stand for a block left unpredictable by a host error (01 R23, log 10). -/

namespace Sys2Proof.Config
open Sys2Proof Sys2Proof.Machine

/-- A free 32-bit word. -/
opaque freeWord : Nat → W32
/-- A free truth value. -/
opaque freeBool : Nat → Bool
/-- A free integer: a sample's value before it is saturated to Q1.31. -/
opaque freeInt : Nat → Nat → Int
/-- A free natural number. -/
opaque freeNat : Nat → Nat
/-- ECDSA P-256 verification (17 R467 step 4) of public key, digest and signature (log 13). -/
opaque ecdsaOk : List W32 → List W32 → List W32 → Bool

/-- What an unpredictable memory holds: offsets and bytes. -/
opaque havocMem : Nat → List (Nat × Byte)
opaque havocRoute : Nat → RouteBlk
opaque havocCald : Nat → CaldBlk
opaque havocMeter : Nat → MeterBlk
opaque havocCore : Nat → Core
opaque havocVmap : Nat → List SlotMap
opaque havocDec : Nat → DecBlk
opaque havocGey : Nat → GeyBlk
opaque havocTdm : Nat → TdmBlk
opaque havocPort : Nat → Port
opaque havocStrm : Nat → StrmBlk
opaque havocRef : Nat → RefBlk
opaque havocBase : Nat → TimeBase
opaque havocInst : Nat → PtpInst
opaque havocTrig : Nat → Trig
opaque havocCal : Nat → PtpCal
opaque havocDma : Nat → DmaChan
opaque havocCond : Nat → CondBlk
opaque havocJournal : Nat → List FltRec
opaque havocReacts : Nat → List ReactEntry
opaque havocSlots : Nat → List (Nat × List W32)
opaque havocStore : Nat → StoreSt

end Sys2Proof.Config
end

