-- ==== Sys2Proof/Machine/TOut.lean ====
section
/-! DEFINITION. What leaves the engine at its pins, links and buses (State.out), and the names of the blocks that a host
error can leave unpredictable (01 R23). -/

namespace Sys2Proof.Machine
open Sys2Proof

/-- The pins on which single pulses are sent. -/
inductive PulsePin where
  | ppsOut | trigOut (i : Nat) | decSyncOut
deriving DecidableEq, Repr, Inhabited

/-- Something that left the engine. A datagram of the UDP channel carries L, above which it is fragmented (02 R55). -/
inductive Out where
  | miso (status : W32) (data : List W32)
  | udp (ip port : Nat) (words tag : List W32) (limit : Nat)
  | msix (vec : Nat)
  | read (rq : Requester) (off : Nat) (v : W32)
  | mdio (w3 w4 : W32)
  | frame (port : Nat) (f : Frame)
  | cut (port : Nat)
  | pauseFrame (port : Nat) (prios : List Nat) (quanta : Nat) (pfc : Bool)
  | cell (cseq : Nat) (c : Cell)
  | pulse (pin : PulsePin) (tick ns width : Nat)
  | tdm (port : Nat) (words : List (Option W32))
  | ptp (which port : Nat) (k : PtpTx) (seq : Nat) (stamp : Int)
  | ptpReply (which port seq : Nat) (rx : Int)
  | bus (master addr : Nat) (ok : Bool) (data : List Byte)
  | queueData (master q : Nat) (valid : Bool) (w : W32)
  | hostWrite (addr : Nat) (data : List Byte)
deriving DecidableEq, Repr, Inhabited

/-- The blocks of the engine that a host error or a reset names. -/
inductive Blk where
  | core (n : Nat)
  | vmap | caldera | meters | decimators | geyser | tdm
  | port (n : Nat)
  | streams | references
  | timeBase (n : Nat)
  | ptp (n : Nat)
  | trigger (n : Nat)
  | pair
  | dma (n : Nat)
  | conduit | pcie | journal | reactions | routing | store | delay
deriving DecidableEq, Repr, Inhabited

end Sys2Proof.Machine
end

