-- ==== Sys2Proof/Machine/Defaults.lean ====
section
/-! DEFINITION. The default states of the blocks, from the default-state tables of the chapters. -/

namespace Sys2Proof.Machine
open Sys2Proof

/-! ## Command service, Fumarole, store (02, 16, 17, 19) -/

def ChanSt.init : ChanSt := ⟨none, 0, 0, [], []⟩

/-- 19 T19-2, T19-5, 02 R43, R56. -/
def HostSt.init : HostSt where
  intStatus := 0
  intMask := 0x7FF
  msixFn := false
  msixVec := 0
  msixPend := 0
  msixTab := []
  cmdW := 0
  cmdR := 0
  rplW := 0
  rplR := 0
  evtW := 0
  evtR := 0
  cmdSlots := []
  rplSlots := []
  evtSlots := []
  heldRpl := []
  perst := false
  linkUp := false
  chPcie := ChanSt.init
  chSpi := ChanSt.init
  chUdp := ChanSt.init
  spiWait := []
  lastBad := false
  spiRead := false
  allow := []
  key := none
  keyNext := none
  evtIp := 0
  evtPort := 0
  cmdMtu := 1500
  qfcMap := 0
  cmds := []

/-- 16 T16-8: a cold reset clears it whole. -/
def FltSt.init : FltSt where
  fatal := false
  hasCorr := false
  histLost := false
  actLost := false
  evtLost := false
  corrCount := 0
  first := none
  firstOpen := false
  firstAt := 0
  active := []
  hist := []
  reacts := []
  journal := []
  next := 0
  evtInTick := 0

/-- An erased bank: every word all ones, no payload. -/
def Bank.erased : Bank := ⟨0xFFFFFFFF, 0xFFFFFFFF, 0xFFFFFFFF, 0xFFFFFFFF, []⟩

def StoreSt.init : StoreSt where
  regions := List.replicate 4 ⟨Bank.erased, Bank.erased⟩
  sess := List.replicate 4 none
  ops := []

/-- Islands after a cold reset (17 R475): ON, PAIR OFF in the solo role (01 R9), DDR OFF without memory (20 R544). -/
def Island.initAll (solo : Bool) (ext : Nat) : List Island :=
  (List.range 16).map (fun i =>
    ⟨if (i == 11 && solo) || (i == 15 && ext == 0) then .off else .on, 0, none⟩)

/-! ## References and time (12 T12-11, 13 R362) -/

def RefSt.init (i : Nat) : RefSt where
  eligible := i ≤ 1
  rank := [0, 1, 2, 3, 4, 5, 5, 6, 0].getD i 0
  bw := [0, 0, 2, 1, 0, 1, 1, 2, 3].getD i 0
  param := if i == 2 then 1 else 0
  freqLim := 100
  requal := 20
  q := .absent
  cause := 0
  hist := 0
  rfreq := 0
  since := 0

def Dpll.init : Dpll where
  st := .freerun
  source := none
  select := 14
  expired := false
  hist := 0
  freq := 0
  phase := 0
  bias := []
  held := 0
  samples := []
  entered := 0
  e0 := 0
  u0 := 0

def RefBlk.init : RefBlk where
  refs := (List.range 9).map RefSt.init
  window := 200
  mclk0 := 0
  mclk1 := 0
  dplls := [Dpll.init, Dpll.init]
  cls := 0
  uTemp := 0
  ageing := 0
  limit := 100
  hoAvg := 30
  rate := 0
  resid := 0
  hours := 0
  disagree := []
  agreeSince := []

def TimeBase.init (i : Nat) : TimeBase where
  enable := i ≤ 1
  source := 0
  slew := 100
  offset := 0
  val := 0
  err := 0
  steering := false
  stepped := false

def PtpInst.init (b : Bool) : PtpInst where
  enable := !b
  profile := 2
  ports := 3
  ethernet := false
  oneStep := false
  slaveOnly := true
  domain := if b then 1 else 0
  prio1 := 128
  prio2 := 128
  logSync := -3
  logAnn := 1
  logDelay := -3
  annTo := 3
  dscp := 46
  st := if b then .disabled else .listening
  masters := []
  gm := none
  lastAnn := 0
  lastSync := 0
  good := 0
  err := 0
  freq := 0
  pathDelay := []
  offsets := []
  pendSync := none
  pendPdelay := none
  reqTx := none
  syncAt := none
  seqNo := 0

def Trig.init : Trig := ⟨false, 0, 0, 0, 0, 0, 0, none, false, 0, false, none⟩

def TimeBlk.init : TimeBlk where
  tick := 0
  sub := 0
  mono := 0
  mute := none
  stepTick := none
  epoch := 0
  bases := (List.range 8).map TimeBase.init
  insts := [PtpInst.init false, PtpInst.init true]
  cals := List.replicate 3 ⟨0, 0, 0⟩
  trigs := List.replicate 16 Trig.init
  trigIn := List.replicate 4 0
  latches := List.replicate 3 (0, 0)

/-! ## Pair (14 T14-11, R402) -/

/-- The pair engine in reset (14 T14-11): nothing is owned, neither the keepalive nor a heartbeat runs (17 R474). -/
def PairBlk.init : PairBlk where
  st := .solo
  owner := false
  cold := false
  linkUp := false
  calibrated := false
  kaSeen := false
  kaLost := false
  partnerFatal := false
  fatalSinceKa := false
  phase := 0
  partner := none
  progress := 0
  linkDelay := 0
  holdOff := 20
  holdFrom := none
  diverge := 0
  lastMismatch := 0
  takeovers := 0
  handovers := 0
  lastTakeover := 0
  resyncs := 0
  resyncFails := 0
  cfgVer := 0
  ka := false
  kaStopped := none
  hb := false
  hbSeq := 0
  startSince := 0
  lastKa := none
  slotSeen := none
  missing := 0
  cseqOut := List.replicate 8 0
  cseqIn := List.replicate 8 none
  sent := []
  cal := []
  alignSince := none
  aligned := false
  phase1Done := false
  restarts := 0
  failedAt := none
  hand := none
  own := []
  theirs := []
  mismatching := false
  runLength := 0
  matched := 0
  notices := []
  patches := []
  frozen := []
  bitmaps := []
  inputs := []
  trigBounds := []
  fwd := []
  fwdTag := 0
  nhEnable := false
  nhPort := 2
  nhDscp := 46
  nhUdp := 0
  nhIp := 0
  nhSeq := 0

/-- The pair engine from the release of reset (14 R363, R364, R383): SOLO and owner with the keepalive in the solo role,
otherwise START with heartbeats. -/
def PairBlk.release (solo : Bool) (now : Nat) : PairBlk :=
  { PairBlk.init with
    st := if solo then .solo else .start
    owner := solo
    ka := solo
    hb := !solo
    startSince := now }

/-! ## Routing and audio (03) -/

def Tracker.init : Tracker := ⟨false, .idle, 0, 0, 0, 0⟩

def RouteBlk.init : RouteBlk where
  entries := []
  fades := []
  slots := []
  family44 := false
  famMute := none
  gens := []
  bridges := []
  asrc := []
  trackers := List.replicate 16 Tracker.init

def AudBlk.init : AudBlk where
  cap := []
  src := []
  hist := []
  bridged := []
  sinks := []
  played := []
  muted := []
  fadeIn := 0
  dataTick := 0
  cut := false
  running := false

/-! ## Caldera and meters (04 T4-14) -/

/-- 0.00 dB, not inverted: 2^27 in Q5.27 (04 R104). -/
def GainSt.init : GainSt := ⟨0, false, 134217728, none, 0⟩

def Lim.init : Lim := ⟨false, 0, 0, 100, 1073741824, [], [], [], 0⟩

def CaldBlk.init : CaldBlk where
  shape := 0
  active := []
  shadow := []
  version := 0
  ramp := none
  lockEnd := none
  inG := []
  busG := []
  lims := []
  sat := []
  clip := []
  gr := []
  mutedBus := []
  done := false

def Tap.init : Tap := ⟨300, 0, false, false, 0, true, 0, 0, [], 0, 0, 0, 0, 16⟩

def MeterBlk.init : MeterBlk where
  taps := []
  period := 24
  published := false
  pubTick := 0
  pubTaps := []
  pubBus := []
  gen := 0
  due := none

/-! ## Vent (05 T5-3, T5-8) -/

def RegSet.init : RegSet where
  d := List.replicate 32 0
  a := List.replicate 8 0
  md := List.replicate 8 0
  ac := List.replicate 4 0
  lock := List.replicate 4 false
  z := false
  n := false
  c := false
  v := false
  loops := []

def Xfer.init : Xfer := ⟨0, 0, 0, false, false⟩

def Core.init : Core where
  st := .empty
  main := RegSet.init
  shadow := RegSet.init
  pc := 0
  handler := none
  retPc := 0
  br := none
  infl := []
  cyc := 0
  issue := 0
  ph := .idle
  stripOver := false
  sat := 0
  intEn := 0
  intCause := 0
  intPend := 0
  xfers := List.replicate 4 Xfer.init
  tick := 0
  ns1 := 0
  ns2 := 0
  ns4 := 0
  phaseBit := false
  inBase := 0x38000
  outBase := 0x3C000
  stripCyc := 0
  postCyc := 0
  stripMax := 0
  postMax := 0
  overruns := 0
  eccCorr := 0
  trap := 0
  haltPc := 0
  params := []
  paramWords := (0, 0)
  sched := []
  lastStrip := 0
  lastPost := 0
  trig := []

def VentBlk.init : VentBlk := ⟨List.replicate 64 Core.init, [], [], []⟩

/-! ## Decimators (07 T7-10) -/

def DecCtx.init : DecCtx where
  enable := false
  preset := 1
  domain := 1
  scale := 0
  rate := 0
  det := false
  detReport := true
  detBlock := 24
  detFreq := 1000
  detPresent := 600
  clipEn := false
  stuckEn := false
  clipLevel := 10
  dc := false
  dcFreeze := false
  dcCorner := 100
  m := 0
  settle := none
  settling := false
  fade := none
  skipBlock := true
  block := []
  present := false
  clipped := false
  clipQuietFrom := none
  stuck := none
  overTick := none
  fast := 0
  bits := []

def Lane.init : Lane := ⟨.off, 0, 0, 0, false, false, false, 0, 0, 0⟩

def DecBlk.init : DecBlk where
  clk := List.replicate 4 0
  syncInEn := false
  syncs := []
  ctxs := List.replicate 560 DecCtx.init
  lanes := List.replicate 24 Lane.init

/-! ## Geyser (08 T8-15) -/

def GChan.init : GChan where
  st := .off
  enabled := true
  fails := 0
  cause := 0
  clip := false
  result := 0
  z := 0
  leakA := 0
  leakB := 0
  origin := .off
  since := 0
  failTick := 0
  playSince := 0
  diag := none
  fromMod := false
  runDiag := false
  baseline := 0
  dly := Lim.init
  dlyBack := none
  fade := none

def GGroup.init : GGroup where
  domain := 1
  carrier := 1
  lc := false
  stagger := true
  minPulse := 8
  maxMod := 980
  vref := 4800
  lcFc := 400
  lcQ := 70
  iFs := 4000
  iTrip := 3000
  vFs := 10000
  railFs := 10000
  retryMs := 10
  retries := 3
  openPlay := true
  zOpen := 10000
  zShort := 1000
  iLeak := 200
  zTol := 0
  tLimit := 110
  bst := false
  look := 16
  bstDiv := 1
  headroom := 10
  release := 50
  railMin := 2000
  railMax := 8000
  slewUp := 4000
  slewDn := 500
  vin := 4800
  kp := 64
  ki := 8
  st := .disarmed
  since := 0
  rampMs := 100
  rampTicks := 0
  withDiag := false
  diagRun := []
  fading := false
  reversed := false
  redo := false
  psFlt := false
  psSince := none
  released := none
  hotSent := false
  tgt := 2000 * 2 ^ 128
  vrail := 0
  env := 0
  integ := 0
  duty := 0
  peaks := []

def GeyBlk.init : GeyBlk := ⟨List.replicate 24 GGroup.init, List.replicate 192 GChan.init⟩

/-! ## TDM (09 T9-8) -/

def TGroup.init : TGroup where
  enable := false
  sync := 0
  domain := 1
  format := 0
  delay := false
  bclkInv := false
  fsInv := false
  mclk := 0
  frameBits := 512
  st := .off
  goodFrames := 0
  qualified := false
  badRun := 0
  rate := 0
  frameErr := 0
  phase := 0
  offset := false

def TPort.init (p : Nat) : TPort where
  inEn := false
  outEn := false
  group := p / 4
  slots := 16
  width := 2
  data := 2
  pack3 := false
  inMask := 0xFFFFFFFF
  outMask := 0xFFFFFFFF
  inPend := 0xFFFFFFFF
  outPend := 0xFFFFFFFF
  inPendAt := none
  outPendAt := none
  inFifo := []
  outFifo := []
  inNext := none
  outNext := none
  outEnd := 0
  inFill := 0
  outFill := 0
  fillAt := 0
  slip := false
  muteFrom := none
  inRot := 0
  outRot := 0
  slips := 0
  restart := false
  muteTo := 0
  aligning := false

def TdmBlk.init : TdmBlk := ⟨List.replicate 8 TGroup.init, (List.range 32).map TPort.init⟩

/-! ## Network (10 T10-3, T10-12) and streams (11) -/

def Queue.init (size high low : Nat) : Queue := ⟨size, high, low, [], 0, none, false, false, false⟩

/-- 10 T10-3, in units of 4 KiB. -/
def Port.rxSize (p q : Nat) : Nat := if p == 2 then 4 else if q == 7 then 64 else if q == 6 then 4 else 16

def Port.txSize (p q : Nat) : Nat := if p == 2 then 4 else if q == 7 then 40 else if q == 6 then 4 else 8

def GateList.init : GateList := ⟨1, [(0xFF, 16384)]⟩

/-- Priorities 0-5 to queues 0-5, 6 and 7 to queue 5. -/
def Port.mapInit : W32 := pack ((List.range 8).map (fun p => (min p 5, 3 * p)))

def Port.pcpInit : W32 := pack ((List.range 8).map (fun q => (q, 3 * q)))

def Port.init (p : Nat) : Port where
  enable := p == 2
  speed := 0
  fec := if p == 2 then 0 else 2
  an := p == 2
  loopback := 0
  promisc := false
  mtu := 1500
  rxMap := Port.mapInit
  txPcp := Port.pcpInit
  mode := if p == 2 then 1 else 2
  quanta := 65535
  wdLimit := 20
  rxq := (List.range 8).map (fun q => Queue.init (Port.rxSize p q) 75 50)
  txq := (List.range 8).map (fun q => Queue.init (Port.txSize p q) 75 50)
  gates := GateList.init
  gatesNext := none
  gateEntry := 0
  linkUp := false
  lock := false
  sgmiiRate := 0
  counters := List.replicate 48 0
  half := []
  pauses := []
  pausing := []
  pauseAt := 0
  lateAudio := none
  wire := none
  mac := 0
  ip := 0
  plen := 0
  gateway := 0
  streamMac := 0
  streamIp := 0

def NetBlk.init : NetBlk := ⟨(List.range 3).map Port.init, List.replicate 64 (0, false), [], []⟩

def StreamCfg.blank : StreamCfg where
  trunk := false
  useA := false
  useB := false
  domain := 0
  conceal := false
  foreign := false
  l24 := false
  chans := 0
  base := 0
  offset := 0
  depth := 0
  destIp := 0
  port := 0
  ttl := 0
  dscp := 0
  idAny := false
  id := 0
  srcIp := 0
  pcp := 0
  tagged := false
  vid := 0
  pt := 0
  destMac := 0
  seq0 := 0

def RxSlot.init : RxSlot where
  st := .closed
  cfg := StreamCfg.blank
  openTick := 0
  pathA := false
  pathB := false
  minSlack := 0x3FFF
  used := 0
  dup := 0
  late := 0
  missing := 0
  early := 0
  badPkt := 0
  buf := []
  seen := []
  taken := []
  last := []
  g := 0
  lastOn := 0
  lastA := 0
  lastB := 0
  lateTick := none
  consec := 0
  packetTicks := 1

def TxSlot.init : TxSlot := ⟨.closed, StreamCfg.blank, 0, 0, 0, 0, [], none⟩

def StrmBlk.init : StrmBlk := ⟨List.replicate 256 RxSlot.init, List.replicate 256 TxSlot.init, [], []⟩

/-! ## Conduit and DMA (15 T15-15) -/

def Window.off : Window := ⟨false, false, false, 0, 0, 0, 0⟩

/-- Masters CM2 and CM3. -/
def Window.dma (wr : Bool) (base size : Nat) : Window := ⟨true, true, wr, 0xC, size, base, 0⟩

def CondBlk.init : CondBlk where
  wins := [Window.dma true 0x10000000 21, Window.dma true 0x20000000 24, Window.dma true 0x21000000 22,
    Window.dma true 0x21400000 21, Window.dma false 0x21600000 21] ++ List.replicate 11 Window.off
  classes := List.replicate 13 [1, 1, 0, 0, 2, 2, 2, 2, 3, 3, 2, 3, 3]
  starve := 4096
  lockWd := 65536
  reqs := []
  locks := []
  broken := []
  cyc := 0

def DmaChan.init : DmaChan := ⟨true, 2, 4, .idle, 0, 0, 0, 0, 0⟩

end Sys2Proof.Machine
end

