-- ==== Sys2Proof/Machine/TBack.lean ====
section
/-! DEFINITION. The configuration under which the samples of the previous tick are still processed after a boundary: a
command with apply tick T governs the samples of tick T onward (03 R68, R79), while the samples of tick T - 1 are
processed during tick T (01 R13). -/

namespace Sys2Proof.Machine
open Sys2Proof

structure Back where
  route : RouteBlk
  cald : CaldBlk
  meter : MeterBlk
  vmap : List SlotMap
  islands : List Island
deriving DecidableEq, Repr, Inhabited

end Sys2Proof.Machine
end

