-- ==== Sys2Proof/Machine/State.lean ====
section
/-! DEFINITION. The state of the engine: every register, memory, queue, counter, mode and pin that the spec gives it,
block by block, with the queue of waiting commands; the two ways a step can stop; and the state right after reset. -/

namespace Sys2Proof.Machine
open Sys2Proof

/-- Why a step stops with a fault. -/
inductive Fault where
  /-- Raised by a happening that names a unit the engine does not have (core 64, port 3, group 24 ...). Safe: the spec
  gives no such unit, so nothing of the hardware is hidden. -/
  | noSuchUnit
deriving DecidableEq, Repr

/-- Why a step is refused. -/
inductive Refusal where
  /-- Raised for a command that has no meaning yet. Safe: nothing can be proved about what it does. -/
  | notModelled (mnemonic : String)
deriving DecidableEq, Repr

structure State where
  pending : List Instr
  fresh : Nat
  out : List Out
  unpred : List Blk
  sys : SysSt
  time : TimeBlk
  ref : RefBlk
  host : HostSt
  flt : FltSt
  route : RouteBlk
  aud : AudBlk
  cald : CaldBlk
  meter : MeterBlk
  vent : VentBlk
  dec : DecBlk
  gey : GeyBlk
  tdm : TdmBlk
  net : NetBlk
  strm : StrmBlk
  pair : PairBlk
  cond : CondBlk
  dma : List DmaChan
  store : StoreSt
  mdio : List MdioOp
  back : Option Back
  lateOps : List (Nat × List W32)
  mem : List Host.Cell
deriving DecidableEq, Repr

/-- The system block under a cold reset (17 T17-6, R471, R475), with the board's values of log 4: solo role, PCIe
enabled, boot from flash, 16 GiB of external memory. -/
def SysSt.reset : SysSt where
  phase := .reset
  ctrlAlive := true
  bootSel := 0
  pairRole := 0
  hostSel := true
  fallback := false
  slotB := false
  downloaded := false
  resetKind := 1
  fuses := List.replicate 19 0
  grade := 0
  dieId := 0
  fwSvn := 0
  fwCrc := 0
  islands := Island.initAll true 16
  dlWords := 0
  dlBytes := none
  extGiB := 16
  ioLostA := false
  ioLostMod := false
  pwrgd := true
  faultN := false
  warmAt := none
  sensors := List.replicate 8 Sensor.init
  vddioA := 1800

/-- The engine under a cold reset, before the release: nothing waits, no island works yet for anyone, the flash is
empty (log 8) and memory lists nothing (log 9). -/
def State.reset : State where
  pending := []
  fresh := 0
  out := []
  unpred := []
  sys := SysSt.reset
  time := TimeBlk.init
  ref := RefBlk.init
  host := HostSt.init
  flt := FltSt.init
  route := RouteBlk.init
  aud := AudBlk.init
  cald := CaldBlk.init
  meter := MeterBlk.init
  vent := VentBlk.init
  dec := DecBlk.init
  gey := GeyBlk.init
  tdm := TdmBlk.init
  net := NetBlk.init
  strm := StrmBlk.init
  pair := PairBlk.init
  cond := CondBlk.init
  dma := List.replicate 32 DmaChan.init
  store := StoreSt.init
  mdio := []
  back := none
  lateOps := []
  mem := []

end Sys2Proof.Machine
end

