-- ==== Sys2Proof/Machine/Ops.lean ====
section
/-! DEFINITION. The operations that every block shares: time and stamps (01, 13), free values, interrupts (19), events
(02, 18), replies (02), fault messages with the reactions of the Fumarole and the fatal path (16), and host errors
(01 R23). -/

namespace Sys2Proof.Machine
open Sys2Proof

/-! ## Roles and islands -/

/-- The reserved strap value acts as solo (14 R363). -/
def State.solo (s : State) : Bool := s.sys.pairRole == 0 || s.sys.pairRole == 3

/-- An engine of a pair that is not the owner. -/
def State.isStandby (s : State) : Bool := !s.solo && !s.pair.owner

/-- The pair is in step (14 R366). -/
def State.inStep (s : State) : Bool :=
  (s.pair.st == .standby && s.pair.linkUp) ||
    (s.pair.st == .active && s.pair.linkUp && (s.pair.partner.map (·.state)) == some 4)

/-- The power state of island i in a list of the islands. -/
def pwrOf (l : List Island) (i : Nat) : Pwr := (l.getD i ⟨.off, 0, none⟩).pwr

def State.islandOn (s : State) (i : Nat) : Bool := (s.sys.islands.getD i ⟨.off, 0, none⟩).pwr == .on

/-- Commands are serviced from READY onward while the control core runs (02 R33). -/
def State.serviced (s : State) : Bool :=
  s.sys.ctrlAlive && (s.sys.phase == .ready || s.sys.phase == .running || s.sys.phase == .halted)

/-! ## Time -/

/-- The stamp of the boundary of tick n: the first whole nanosecond at or after it (01 R11). -/
def boundaryNs (n : Nat) : Nat := ceilDiv (n * 125000) 3

/-- The tick that contains a stamp. -/
def tickOf (ns : Nat) : Nat := 3 * ns / 125000

/-- TB0 in whole nanoseconds (13 R340). -/
def State.now (s : State) : Nat := boundaryNs s.time.tick + s.time.sub

def State.tick32 (s : State) : W32 := w32 s.time.tick

/-- Bits [15:0] of the tick, as fault contexts carry it. -/
def State.tick16 (s : State) : Nat := s.time.tick % 65536

/-- The rate of a privileged time base against OSC_IN in units of 10^-12, steering included (13 R343). -/
def State.baseRate (s : State) (i : Nat) : Int :=
  let b := s.time.bases.getD i (TimeBase.init i)
  let d := s.ref.dplls.getD i Dpll.init
  d.freq + (if b.steering then (if b.err < 0 then -(b.slew : Int) else (b.slew : Int)) * 1000000 else 0)

/-- A general time base's target in units of 10^-6 ns, or none while its source is lost (13 R344). -/
def State.baseTarget (s : State) (b : TimeBase) : Option Int :=
  let src : Option Int :=
    match b.source with
    | 0 => some ((s.now : Int) * 1000000)
    | 1 => some (s.time.bases.getD 1 (TimeBase.init 1)).val
    | 2 => if (s.time.insts.getD 0 (PtpInst.init false)).st == .slave
           then some ((s.now : Int) * 1000000 + (s.time.insts.getD 0 (PtpInst.init false)).err * 100000) else none
    | 3 => if (s.time.insts.getD 1 (PtpInst.init true)).st == .slave
           then some ((s.now : Int) * 1000000 + (s.time.insts.getD 1 (PtpInst.init true)).err * 100000) else none
    | _ => some ((s.time.mono : Int) * 1000000)
  src.map (· + b.offset * 1000000)

/-- One time base after dt ns of TB0 (13 R342-R344). s is the state with TB0 already advanced. -/
def State.baseStep (s : State) (dt : Nat) (i : Nat) (b : TimeBase) : TimeBase :=
  if i == 0 then
    { b with val := (s.now : Int) * 1000000, err := if b.steering then b.err - (if b.err < 0 then -1 else 1) * ((dt * b.slew / 100000 : Nat) : Int) else b.err }
  else if i == 1 then
    { b with val := b.val + (dt : Int) * 1000000 + (dt : Int) * (s.baseRate 1 - s.baseRate 0) / 1000000, err := if b.steering then b.err - (if b.err < 0 then -1 else 1) * ((dt * b.slew / 100000 : Nat) : Int) else b.err }
  else if b.enable then
    let nat := b.val + (dt : Int) * 1000000
    match s.baseTarget b with
    | none => { b with val := nat, steering := false }
    | some tg =>
      let lim : Int := ((b.slew * dt : Nat) : Int)
      { b with val := nat + clamp (-lim) lim (tg - nat), steering := decide (lim < tg - nat ∨ tg - nat < -lim) }
  else b

/-- Time moves on by dt ns to tick n, sub ns after its boundary. -/
def State.setTime (s : State) (n sub dt : Nat) : State :=
  let s1 := { s with time := { s.time with tick := n, sub := sub, mono := s.time.mono + dt } }
  { s1 with time := { s1.time with bases := s1.time.bases.mapIdx (s1.baseStep dt) } }

/-- Time moves on to t ns inside the running tick; it never runs backward and stays inside the tick (log 15). -/
def State.goto (s : State) (t : Nat) : State :=
  let t' := min t (boundaryNs (s.time.tick + 1) - boundaryNs s.time.tick - 1)
  if t' ≤ s.time.sub then s else s.setTime s.time.tick t' (t' - s.time.sub)

/-! ## Free values (log 2) -/

/-- The number of the next free value, and the state in which it is used up. -/
def State.take (s : State) : Nat × State := (s.fresh, { s with fresh := s.fresh + 1 })

def State.emit (s : State) (o : Out) : State := { s with out := s.out ++ [o] }

/-! ## Port counters (10 R284), and the datagrams of the UDP channel (02 R55, 18 R496) -/

/-- Adds to counter c of a port. A counter never passes 0xFFFF_FFFF; reaching half range is noted for R285. -/
def Port.count (p : Port) (c n : Nat) : Port :=
  let old := p.counters.getD c 0
  let new := min 0xFFFFFFFF (old + n)
  { p with
    counters := p.counters.set c new
    half := if old < 2 ^ 31 ∧ 2 ^ 31 ≤ new ∧ c ∉ p.half then p.half ++ [c] else p.half }

def State.port (s : State) (i : Nat) : Port := s.net.ports.getD i (Port.init i)

def State.setPort (s : State) (i : Nat) (p : Port) : State := { s with net := { s.net with ports := s.net.ports.set i p } }

def State.countPort (s : State) (i c n : Nat) : State := s.setPort i ((s.port i).count c n)

/-- A datagram of the UDP channel leaves: one to an off-subnet destination with no gateway is dropped (18 R496). -/
def State.emitUdp (s : State) (ip port : Nat) (ws tag : List W32) : State :=
  let p := s.port 2
  let hop := ip / 2 ^ (32 - p.plen) == p.ip / 2 ^ (32 - p.plen) || p.gateway != 0
  if hop then s.emit (.udp ip port ws tag (min s.host.cmdMtu p.mtu)) else s.countPort 2 45 1

/-! ## Interrupts (19 R515-R523) -/

/-- Sends MSI-X vector n, or holds it as a pending bit while a mask is set (19 R517). -/
def State.sendVec (s : State) (n : Nat) : State :=
  if s.host.msixFn || s.host.msixVec.getLsbD n then
    { s with host := { s.host with msixPend := s.host.msixPend ||| (1 <<< n) } }
  else s.emit (.msix n)

/-- Sets INT_STATUS bit n; a transition sends the vector unless masked (19 R517). Bits 0 and 1 are never set with
HOST_SEL = 0 (19 T19-7). -/
def State.setInt (s : State) (n : Nat) : State :=
  if (n ≤ 1 && !s.sys.hostSel) || s.host.intStatus.getLsbD n then s
  else
    let s1 := { s with host := { s.host with intStatus := s.host.intStatus ||| (1 <<< n) } }
    if s.host.intMask.getLsbD n then s1 else s1.sendVec n

/-! ## Channels (02) -/

def State.chan (s : State) (c : ChanId) : ChanSt :=
  match c with
  | .pcie => s.host.chPcie
  | .spi => s.host.chSpi
  | .udp => s.host.chUdp

def State.setChan (s : State) (c : ChanId) (x : ChanSt) : State :=
  match c with
  | .pcie => { s with host := { s.host with chPcie := x } }
  | .spi => { s with host := { s.host with chSpi := x } }
  | .udp => { s with host := { s.host with chUdp := x } }

/-- The rings can be written: PCIe is present, not in PERST_N, and the map of 19 T19-8 is in force. -/
def State.ringsUp (s : State) : Bool :=
  s.sys.hostSel && !s.host.perst &&
    (s.sys.phase == .ready || s.sys.phase == .running || s.sys.phase == .halted)

/-- The tag of an outgoing datagram (02 R57): present while a key is. -/
def State.tagOf (s : State) (ws : List W32) : List W32 :=
  match s.host.key with
  | none => []
  | some k => udpTag k ws

/-- A reply is written at RPL_WPTR, and INT_STATUS bit 0 is set (02 R49, 19 R524). -/
def State.ringReply (s : State) (ws : List W32) : State :=
  let h := s.host
  let s1 := { s with host := { h with rplSlots := kset h.rplSlots (h.rplW.toNat % 64) ws, rplW := h.rplW + 1 } }
  s1.setInt 0

def State.rplFull (s : State) : Bool := s.host.rplW - s.host.rplR == 64

/-- Delivers a reply packet on a channel: to the ring, or held while the ring is full or cannot be written (02 R49, 19
R526); to the SPI queue; or in a datagram to the command's source (02 R55). -/
def State.deliverReply (s : State) (c : ChanId) (src : UdpSrc) (ws : List W32) : State :=
  match c with
  | .pcie =>
    if !s.ringsUp || s.rplFull || !s.host.heldRpl.isEmpty then
      { s with host := { s.host with heldRpl := s.host.heldRpl ++ [ws] } }
    else s.ringReply ws
  | .spi => { s with host := { s.host with spiWait := s.host.spiWait ++ [⟨true, ws⟩] } }
  | .udp => s.emitUdp src.ip src.port ws (s.tagOf ws)

/-- The words of a reply packet (02 T2-2). -/
def replyWords (op status : Nat) (seq dev tick : W32) (data : List W32) : List W32 :=
  [pack [(op, 24), (status, 16), (4 + data.length, 0)], seq, dev, tick] ++ data

/-- Sends a numbered reply on a channel and keeps it with its host number, with the copies that repeats asked for
before it (02 R40, R43). held is false for a refusal that leaves the channel's numbers alone. -/
def State.sendReply (s : State) (c : ChanId) (src : UdpSrc) (op status : Nat) (seq tick : W32) (data : List W32)
    (held : Bool) : State :=
  let ch := s.chan c
  let ws := replyWords op status seq ch.dev tick data
  let owed := if held then ((ch.nos.find? (fun n => n.seq == seq)).map (·.copies)).getD [] else []
  let nos := if held then ch.nos.map (fun n => if n.seq == seq then { n with reply := some ws, copies := [] } else n)
    else ch.nos
  let s1 := (s.setChan c { ch with dev := ch.dev + 1, nos := nos }).deliverReply c src ws
  owed.foldl (fun s d => s.deliverReply c d ws) s1

/-- Sends a cell over an up link: numbers it in its class and keeps it for retransmission for 20.0 us (14 R368, R370). -/
def State.sendCell (s : State) (c : Cell) : State :=
  if s.pair.linkUp then
    let n := s.pair.cseqOut.getD c.cls 0
    let s1 := { s with pair := { s.pair with
      cseqOut := s.pair.cseqOut.set c.cls ((n + 1) % 65536)
      sent := s.pair.sent.filter (fun (e : Nat × Nat × Cell) => decide (s.time.mono ≤ e.1 + 20000)) ++ [(s.time.mono, n, c)] } }
    s1.emit (.cell n c)
  else s

/-- A reply to wherever the command came from: a channel, the partner that forwarded it, or nowhere. -/
def State.answer (s : State) (o : Origin) (op status : Nat) (seq tick : W32) (data : List W32) (final : Bool) : State :=
  match o with
  | .host c src => s.sendReply c src op status seq tick data true
  | .partner tag => s.sendCell (.result tag status tick data final)
  | .mirror => s

/-! ## The journal and events (16 R448, R449; 02 R43-R50; 18 R510) -/

/-- Appends a journal record; the last 4,096 are kept (16 R448). -/
def State.journal (s : State) (stamp : Nat) (msgH msgL : W32) : State :=
  let r : FltRec := ⟨w32 stamp, w32 (tickOf stamp), msgH, msgL⟩
  { s with flt := { s.flt with journal := lastN 4096 (s.flt.journal ++ [r]), next := s.flt.next + 1 } }

/-- A Fumarole notice of source 0x00 (16 R449). -/
def State.notice (s : State) (kind : Nat) (ctx : W32) : State := s.journal s.now (pack [(kind, 8)]) ctx

/-- A notice of class 0 that another block names (16 R449). -/
def State.noticeOf (s : State) (src inst kind : Nat) (ctx : W32) : State :=
  s.journal s.now (pack [(src, 24), (inst % 256, 16), (kind, 8)]) ctx

/-- An event written at EVT_WPTR; a full ring loses its oldest unread slot (02 R50). -/
def State.ringEvent (s : State) (ws : List W32) : State :=
  let h := s.host
  let r := if h.evtW - h.evtR == 256 then h.evtR + 1 else h.evtR
  let s1 := { s with host := { h with evtSlots := kset h.evtSlots (h.evtW.toNat % 256) ws, evtW := h.evtW + 1, evtR := r } }
  s1.setInt 1

/-- Drops the oldest waiting event when more than 256 wait (02 R54). -/
def spiTrim (l : List SpiPkt) : List SpiPkt :=
  if (l.filter (fun p => !p.isReply)).length > 256 then l.eraseP (fun p => !p.isReply) else l

def State.deliverEvent (s : State) (c : ChanId) (ws : List W32) : State :=
  match c with
  | .pcie => if s.ringsUp then s.ringEvent ws else s
  | .spi => { s with host := { s.host with spiWait := spiTrim (s.host.spiWait ++ [⟨false, ws⟩]) } }
  | .udp => if s.host.evtIp == 0 then s else s.emitUdp s.host.evtIp s.host.evtPort ws (s.tagOf ws)

/-- Numbers an event on one channel, holds it for replay and delivers it (02 R43-R45). -/
def State.eventOn (s : State) (c : ChanId) (op stamp : Nat) (data : List W32) : State :=
  let ch := s.chan c
  let ws := [pack [(op, 24), (4 + data.length, 0)], 0, ch.dev, w32 stamp] ++ data
  (s.setChan c { ch with dev := ch.dev + 1, evts := lastN 256 (ch.evts ++ [ws]) }).deliverEvent c ws

/-- The further INT_STATUS bit of an event (18 T18-13). EVENT_FAULT's bit is set by the message's class. -/
def eventBit (op : Nat) : Option Nat :=
  match op with
  | 0xE1 => some 6
  | 0xE2 => some 5
  | 0xE3 => some 7
  | 0xE5 => some 8
  | 0xE9 => some 9
  | 0xEB => some 10
  | _ => none

/-- Sends an event with a given stamp: on all three channels, into the journal once, with its interrupt bit. -/
def State.eventAt (s : State) (op stamp : Nat) (data : List W32) : State :=
  let s1 := [ChanId.pcie, .spi, .udp].foldl (fun s c => s.eventOn c op stamp data) s
  let s2 := s1.journal stamp (pack [(op, 8)]) (data.headD 0)
  match eventBit op with
  | some b => s2.setInt b
  | none => s2

def State.event (s : State) (op : Nat) (data : List W32) : State := s.eventAt op s.now data

/-! ## Faults (16) -/

/-- The default class of a kind (16 T16-3): 1 corrected, 2 contained, 3 fatal. -/
def defaultClass (src kind : Nat) : Nat :=
  if kind ∈ [0x01, 0x06, 0x0E, 0x13, 0x14, 0x16, 0x1D, 0x1E, 0x22] then 1
  else if kind ∈ [0x1F, 0x20, 0x21, 0x23, 0x24] then 3
  else if kind == 0x02 && src == 1 then 3
  else 2

/-- The reaction entry that governs a message: one for its source before one for every source; ECC_UNCORRECTED from
the control core is not governed by the latter (16 R439). -/
def State.reactOf (s : State) (src kind : Nat) : Option ReactEntry :=
  match s.flt.reacts.find? (fun e => e.src == src && e.kind == kind) with
  | some e => some e
  | none =>
    if kind == 2 && src == 1 then none else s.flt.reacts.find? (fun e => e.src == 0xFF && e.kind == kind)

/-- Class and flags IRQ, EVENT, HIST of a message (16 R437, T16-5). fixed keeps the given class, as STREAM_LATE does
when another copy was used (16 R439). -/
def State.reaction (s : State) (src kind dflt : Nat) (fixed : Bool) : Nat × Bool × Bool × Bool :=
  match s.reactOf src kind with
  | some e => (if fixed then dflt else e.cls, e.irq, e.event, e.hist)
  | none => (dflt, true, dflt != 1, dflt != 1)

def FltSt.firstBefore (a b : FirstFault) : Bool :=
  decide (a.stamp < b.stamp ∨ (a.stamp = b.stamp ∧ (a.src < b.src ∨ (a.src = b.src ∧ a.inst < b.inst))))

/-- The first-fault record under a new message (16 R443). -/
def FltSt.offerFirst (f : FltSt) (n : FirstFault) : FltSt :=
  match f.first with
  | none => { f with first := some n, firstOpen := true, firstAt := n.stamp }
  | some o =>
    if o.cls < n.cls ∨ (o.cls = n.cls ∧ f.firstOpen = true ∧ FltSt.firstBefore n o = true) then
      { f with first := some n, firstOpen := true, firstAt := n.stamp }
    else f

/-- Appends to the history of 32 (16 R447). -/
def FltSt.addHist (f : FltSt) (r : FltRec) : FltSt :=
  if f.hist.length < 32 then { f with hist := f.hist ++ [⟨r, false⟩] }
  else
    { f with
      hist := f.hist.drop 1 ++ [⟨r, false⟩]
      histLost := f.histLost || !(f.hist.headD ⟨r, true⟩).seen }

/-- Step 6 for a contained message: opens an active entry, or counts it, or finds the table full (16 R444). -/
def FltSt.openEntry (f : FltSt) (m : FaultMsg) (r : FltRec) : FltSt :=
  if f.active.length < 256 then { f with active := f.active ++ [⟨m.source, m.inst, m.kind, r, 1⟩] }
  else { f with actLost := true }

def FltSt.isOpen (f : FltSt) (m : FaultMsg) : Bool :=
  f.active.any (fun e => e.src == m.source && e.inst == m.inst && e.kind == m.kind)

def FltSt.countEntry (f : FltSt) (m : FaultMsg) : FltSt :=
  { f with active := f.active.map (fun e =>
      if e.src == m.source && e.inst == m.inst && e.kind == m.kind then { e with occur := min 65535 (e.occur + 1) } else e) }

/-- Word 4 of PAIR_STATUS, which PAIR_STATE reads (14 T14-11). -/
def State.pairWord (s : State) : W32 :=
  let p := s.pair
  pack [(p.st.code, 28), (if s.solo then 0 else s.sys.pairRole, 26), (b2n p.owner, 25), (b2n s.inStep, 24), (b2n p.cold, 23),
    (b2n p.linkUp, 22), (b2n p.calibrated, 21), (b2n p.kaSeen, 20), (b2n p.partnerFatal, 19), (p.phase, 16),
    ((p.partner.map (·.state)).getD 15, 12), (p.progress % 256, 0)]

/-- A heartbeat cell for slot k (14 T14-4). -/
def State.hbCell (s : State) (k : Nat) (fatal : Bool) : Cell :=
  .heartbeat s.pair.st.code (if s.solo then 0 else s.sys.pairRole) s.pair.owner fatal k (s.pair.hbSeq % 65536) s.tick32
    (w32 (ceilDiv (3 * 32 * boundaryNs s.time.tick + k * 125000) 96)) s.pair.cfgVer

/-- This engine takes the owner's inputs and decisions in place of its own (14 R372). -/
def State.follows (s : State) : Bool := s.isStandby && s.pair.linkUp

/-- This engine's inputs and decisions go to the other (14 R372). -/
def State.leads (s : State) : Bool := s.pair.owner && !s.solo && s.pair.linkUp

/-- A decision of this engine: it acts, and the partner is told; an engine that follows decides nothing. -/
def State.decideFor (s : State) (d : Decision) (act : State → State) : State :=
  if s.follows then s
  else
    let s1 := act s
    if s1.leads then s1.sendCell (.decision d) else s1

/-- The internal keepalive stops; the guard follows 1.0 us later (14 R383, R389). -/
def State.stopKa (s : State) : State :=
  if s.pair.ka then { s with pair := { s.pair with ka := false, kaStopped := some s.time.mono } } else s

/-- The fatal path (16 R438): the keepalive and the heartbeats stop after one heartbeat with FATAL = 1, FAULT_N is low,
SYS_STATE is HALTED, a planned handover is cancelled (14 R395), and the snapshot waits for the flash if the control core
runs its firmware, abandoning every session (17 R460). -/
def State.fatalPath (s : State) (snapshot : Bool) : State :=
  let s1 := s.stopKa
  let s2 := if s1.pair.hb then (s1.sendCell (s1.hbCell (s1.time.sub * 96 / 125000) true)) else s1
  let s3 := { s2 with
    pair := { s2.pair with hb := false, hand := none }
    sys := { s2.sys with faultN := true, phase := .halted } }
  if snapshot && s.sys.ctrlAlive && (s.sys.phase == .ready || s.sys.phase == .running) then
    { s3 with store := { s3.store with
        sess := s3.store.sess.map (fun _ => none)
        ops := s3.store.ops ++ [⟨.snapshot, 0, none, 0, false, s3.time.tick, false⟩] } }
  else s3

/-- The interrupt bit of a class (16 R437 step 4). -/
def classBit (cls : Nat) : Nat := if cls == 1 then 4 else if cls == 2 then 3 else 2

/-- EVENT_FAULT, at most 64 a tick (16 R441, T16-7). -/
def State.faultEvent (s : State) (stamp : Nat) (r : FltRec) : State :=
  if s.flt.evtInTick < 64 then
    let s1 := { s with flt := { s.flt with evtInTick := s.flt.evtInTick + 1 } }
    s1.eventAt 0xE0 stamp [r.msgH, r.msgL, r.tick, 1]
  else { s with flt := { s.flt with evtLost := true } }

/-- The Fumarole handles a message of class cls with its flags, in the steps of 16 R437. -/
def State.fumarole (s : State) (m : FaultMsg) (stamp cls : Nat) (irq event hist : Bool) : State :=
  let hw := pack [(m.source % 256, 24), (m.inst % 256, 16), (m.kind % 256, 8), (cls, 6)]
  let r : FltRec := ⟨w32 stamp, w32 (tickOf stamp), hw, m.ctx⟩
  let s1 := s.journal stamp hw m.ctx
  let f1 := if hist then s1.flt.addHist r else s1.flt
  let f2 := FltSt.offerFirst
    { f1 with
      fatal := f1.fatal || cls == 3
      hasCorr := f1.hasCorr || cls == 1
      corrCount := if cls == 1 then min 65535 (f1.corrCount + 1) else f1.corrCount }
    ⟨cls, stamp, m.source, m.inst, r⟩
  let s2 := { s1 with flt := f2 }
  if cls == 2 && s2.flt.isOpen m then { s2 with flt := s2.flt.countEntry m }
  else
    let s3 := if irq then s2.setInt (classBit cls) else s2
    let s4 := if event then s3.faultEvent stamp r else s3
    if cls == 2 then { s4 with flt := s4.flt.openEntry m r }
    else if cls == 3 then s4.fatalPath (m.kind != 0x23)
    else s4

/-- A block raises a fault at a given stamp with a given default class (16 R435-R440). -/
def State.raiseWith (s : State) (stamp src inst kind : Nat) (ctx : W32) (dflt : Nat) (fixed : Bool) : State :=
  let r := s.reaction src kind dflt fixed
  s.fumarole ⟨src, inst, kind, ctx⟩ stamp r.1 r.2.1 r.2.2.1 r.2.2.2

/-- A block raises a fault now, with the default class of its kind. -/
def State.raise (s : State) (src inst kind : Nat) (ctx : W32) : State :=
  s.raiseWith s.now src inst kind ctx (defaultClass src kind) false

/-- The class a message of this source and kind has now, for blocks whose containment follows it (16 R440). -/
def State.classNow (s : State) (src kind : Nat) : Nat := (s.reaction src kind (defaultClass src kind) false).1

/-! ## Changes that no apply tick governs (log 19) -/

/-- The configuration that governs the samples still to be processed. -/
def State.governing (s : State) : Back := s.back.getD ⟨s.route, s.cald, s.meter, s.vent.vmap, s.sys.islands⟩

/-- A change of the routes that holds for the samples still to be processed too. -/
def State.onRoutes (s : State) (f : RouteBlk → RouteBlk) : State :=
  { s with route := f s.route, back := s.back.map (fun (b : Back) => { b with route := f b.route }) }

/-- The same of the Caldera. -/
def State.onCald (s : State) (f : CaldBlk → CaldBlk) : State :=
  { s with cald := f s.cald, back := s.back.map (fun (b : Back) => { b with cald := f b.cald }) }

/-- The same of the meters. -/
def State.onMeters (s : State) (f : MeterBlk → MeterBlk) : State :=
  { s with meter := f s.meter, back := s.back.map (fun (b : Back) => { b with meter := f b.meter }) }

/-! ## Host errors (01 R23, log 10) -/

/-- The named block's state becomes a free value. -/
def State.havoc (s : State) (b : Blk) : State :=
  let n := s.fresh
  let s := { s with fresh := n + 1 }
  match b with
  | .core i =>
    let d := 0x40000000 + i * 0x40000
    let q := 0x41000000 + i * 0x10000
    { s with
      fresh := n + 2
      vent := { s.vent with cores := s.vent.cores.set i (Config.havocCore n) }
      mem := memReplace (memReplace s.mem d (d + 0x40000) (Config.havocMem n)) q (q + 0x10000) (Config.havocMem (n + 1)) }
  | .vmap => { s with
      vent := { s.vent with vmap := Config.havocVmap n }
      back := s.back.map (fun (b : Back) => { b with vmap := Config.havocVmap n }) }
  | .caldera => s.onCald (fun _ => Config.havocCald n)
  | .meters => s.onMeters (fun _ => Config.havocMeter n)
  | .decimators => { s with dec := Config.havocDec n }
  | .geyser => { s with gey := Config.havocGey n }
  | .tdm => { s with tdm := Config.havocTdm n }
  | .port i => { s with net := { s.net with ports := s.net.ports.set i (Config.havocPort n) } }
  | .streams => { s with strm := Config.havocStrm n }
  | .references => { s with ref := Config.havocRef n }
  | .timeBase i => { s with time := { s.time with bases := s.time.bases.set i (Config.havocBase n) } }
  | .ptp i => { s with time := { s.time with insts := s.time.insts.set i (Config.havocInst n) } }
  | .trigger i => { s with time := { s.time with trigs := s.time.trigs.set i (Config.havocTrig n) } }
  | .pair => { s with pair := { s.pair with holdOff := Config.freeNat n, nhEnable := Config.freeBool n } }
  | .dma i => { s with dma := s.dma.set i (Config.havocDma n) }
  | .conduit => { s with cond := Config.havocCond n }
  | .pcie => { s with host := { s.host with cmdSlots := Config.havocSlots n, rplSlots := Config.havocSlots (n + 1), evtSlots := Config.havocSlots (n + 2), cmdW := (Config.freeWord n).truncate 16, rplR := (Config.freeWord (n + 1)).truncate 16, evtR := (Config.freeWord (n + 2)).truncate 16 } }
  | .journal => { s with flt := { s.flt with journal := Config.havocJournal n } }
  | .reactions => { s with flt := { s.flt with reacts := Config.havocReacts n } }
  | .routing => s.onRoutes (fun _ => Config.havocRoute n)
  | .store => { s with store := Config.havocStore n }
  | .delay => s.onRoutes (fun r => { r with slots := (Config.havocRoute n).slots })

/-- A host error: the affected block is unpredictable (01 R23) and is listed as such until 01 R26 ends it. -/
def State.hostError (s : State) (b : Blk) : State :=
  let s1 := s.havoc b
  { s1 with unpred := if s1.unpred.contains b then s1.unpred else s1.unpred ++ [b] }

/-- A host error that affects several blocks. -/
def State.hostErrors (s : State) (bs : List Blk) : State := bs.foldl State.hostError s

/-- A block's unpredictable state ends (01 R26). -/
def State.predictable (s : State) (bs : List Blk) : State := { s with unpred := s.unpred.filter (fun b => !bs.contains b) }

/-! ## Answers of commands -/

/-- What a state-changing command or a query answers: a status of 02 T2-4, the reply data, and the state. A command whose
status is not OK changes nothing (18 R487). -/
structure Ans where
  status : Nat
  data : List W32
  s : State

def Ans.ok (s : State) : Ans := ⟨0, [], s⟩

def Ans.okData (d : List W32) (s : State) : Ans := ⟨0, d, s⟩

/-- Refused with a status; nothing changes. -/
def Ans.refuse (st : Nat) (s : State) : Ans := ⟨st, [], s⟩

def stResource : Nat := 8
def stState : Nat := 9
def stStoreFail : Nat := 10

end Sys2Proof.Machine
end

