-- ==== Sys2Proof/Machine/Table.lean ====
section
/-! DEFINITION. 18 Table 18-1: for each opcode its kind, its pair class and the lengths that the framing check accepts. -/

namespace Sys2Proof.Machine
open Sys2Proof

/-- The kinds of 18 R485: query, state-changing, immediate. -/
inductive OpKind where
  | query | state | immediate
deriving DecidableEq, Repr, Inhabited

/-- The pair handling classes of 02 Table 2-9. -/
inductive OpClass where
  | loc | mirrored | pairControl
deriving DecidableEq, Repr, Inhabited

/-- A row of 18 Table 18-1; lens holds the first and last of each range of lengths in words. -/
structure OpRow where
  op : Nat
  kind : OpKind
  cls : OpClass
  lens : List (Nat × Nat)
deriving DecidableEq, Repr, Inhabited

/-- Opcodes 0x00 to 0x30. -/
def opRowsSystem : List OpRow :=
  [⟨0x00, .query, .loc, [(3, 3)]⟩,
   ⟨0x01, .query, .loc, [(3, 3)]⟩,
   ⟨0x02, .query, .loc, [(5, 5)]⟩,
   ⟨0x03, .query, .loc, [(4, 4)]⟩,
   ⟨0x04, .state, .mirrored, [(4, 4)]⟩,
   ⟨0x06, .state, .mirrored, [(4, 4)]⟩,
   ⟨0x07, .query, .loc, [(3, 3)]⟩,
   ⟨0x10, .state, .mirrored, [(5, 5), (6, 6)]⟩,
   ⟨0x11, .state, .mirrored, [(4, 4)]⟩,
   ⟨0x12, .query, .loc, [(4, 4)]⟩,
   ⟨0x13, .state, .mirrored, [(6, 6)]⟩,
   ⟨0x14, .state, .mirrored, [(6, 6)]⟩,
   ⟨0x15, .state, .mirrored, [(4, 4)]⟩,
   ⟨0x16, .state, .mirrored, [(6, 6)]⟩,
   ⟨0x17, .state, .mirrored, [(6, 6)]⟩,
   ⟨0x18, .state, .mirrored, [(8, 8)]⟩,
   ⟨0x19, .query, .loc, [(3, 3)]⟩,
   ⟨0x20, .state, .mirrored, [(5, 5), (7, 7)]⟩,
   ⟨0x21, .state, .mirrored, [(5, 260)]⟩,
   ⟨0x22, .state, .mirrored, [(21, 21)]⟩,
   ⟨0x23, .query, .loc, [(4, 4)]⟩,
   ⟨0x24, .state, .mirrored, [(12, 12)]⟩,
   ⟨0x25, .state, .mirrored, [(4, 4)]⟩,
   ⟨0x26, .state, .mirrored, [(12, 12)]⟩,
   ⟨0x27, .state, .mirrored, [(4, 4)]⟩,
   ⟨0x28, .query, .loc, [(4, 4)]⟩,
   ⟨0x29, .state, .mirrored, [(6, 132)]⟩,
   ⟨0x30, .state, .mirrored, [(6, 1024)]⟩]

/-- Opcodes 0x31 to 0x70. -/
def opRowsAudio : List OpRow :=
  [⟨0x31, .state, .mirrored, [(5, 1024)]⟩,
   ⟨0x32, .query, .loc, [(4, 4)]⟩,
   ⟨0x33, .state, .mirrored, [(4, 4)]⟩,
   ⟨0x34, .state, .mirrored, [(4, 4)]⟩,
   ⟨0x35, .state, .mirrored, [(5, 68)]⟩,
   ⟨0x40, .state, .mirrored, [(4, 4)]⟩,
   ⟨0x41, .state, .mirrored, [(6, 1024)]⟩,
   ⟨0x42, .state, .mirrored, [(6, 1024)]⟩,
   ⟨0x43, .state, .mirrored, [(4, 4)]⟩,
   ⟨0x44, .state, .mirrored, [(5, 5)]⟩,
   ⟨0x45, .state, .mirrored, [(7, 7)]⟩,
   ⟨0x46, .query, .loc, [(4, 4)]⟩,
   ⟨0x47, .state, .mirrored, [(4, 4)]⟩,
   ⟨0x50, .state, .mirrored, [(6, 1024)]⟩,
   ⟨0x51, .state, .mirrored, [(4, 4)]⟩,
   ⟨0x52, .state, .mirrored, [(4, 4)]⟩,
   ⟨0x53, .state, .mirrored, [(6, 1024)]⟩,
   ⟨0x54, .query, .loc, [(4, 4)]⟩,
   ⟨0x55, .state, .mirrored, [(5, 1024)]⟩,
   ⟨0x60, .state, .mirrored, [(4, 4), (5, 5)]⟩,
   ⟨0x61, .state, .mirrored, [(4, 4)]⟩,
   ⟨0x62, .state, .mirrored, [(7, 7)]⟩,
   ⟨0x63, .state, .mirrored, [(5, 5)]⟩,
   ⟨0x64, .state, .mirrored, [(5, 5)]⟩,
   ⟨0x65, .state, .mirrored, [(7, 100)]⟩,
   ⟨0x66, .state, .mirrored, [(4, 4)]⟩,
   ⟨0x70, .state, .mirrored, [(7, 7)]⟩]

/-- Opcodes 0x71 to 0xB4. -/
def opRowsRest : List OpRow :=
  [⟨0x71, .state, .mirrored, [(5, 5)]⟩,
   ⟨0x72, .state, .mirrored, [(5, 5)]⟩,
   ⟨0x73, .state, .mirrored, [(9, 9)]⟩,
   ⟨0x74, .query, .loc, [(4, 4)]⟩,
   ⟨0x75, .state, .mirrored, [(9, 9)]⟩,
   ⟨0x76, .state, .mirrored, [(8, 8)]⟩,
   ⟨0x77, .state, .mirrored, [(16, 16)]⟩,
   ⟨0x80, .state, .mirrored, [(4, 4)]⟩,
   ⟨0x81, .query, .loc, [(4, 4)]⟩,
   ⟨0x82, .state, .pairControl, [(3, 3)]⟩,
   ⟨0x83, .state, .pairControl, [(3, 3)]⟩,
   ⟨0x84, .state, .mirrored, [(5, 5)]⟩,
   ⟨0x90, .query, .loc, [(3, 3)]⟩,
   ⟨0x91, .query, .loc, [(4, 4)]⟩,
   ⟨0x92, .state, .loc, [(4, 4)]⟩,
   ⟨0x93, .state, .loc, [(4, 4)]⟩,
   ⟨0x94, .query, .loc, [(5, 5)]⟩,
   ⟨0xA0, .immediate, .loc, [(6, 1024)]⟩,
   ⟨0xA1, .immediate, .loc, [(6, 6)]⟩,
   ⟨0xA2, .immediate, .loc, [(3, 3)]⟩,
   ⟨0xA3, .state, .mirrored, [(4, 4)]⟩,
   ⟨0xA4, .immediate, .loc, [(6, 1024)]⟩,
   ⟨0xB0, .state, .mirrored, [(4, 4)]⟩,
   ⟨0xB1, .state, .mirrored, [(6, 6)]⟩,
   ⟨0xB2, .query, .loc, [(4, 4)]⟩,
   ⟨0xB3, .state, .mirrored, [(7, 7)]⟩,
   ⟨0xB4, .state, .mirrored, [(5, 5), (6, 6)]⟩]

/-- 18 Table 18-1, whole. PORT_CONFIG has one row for its two forms, which word 3 bit [31] tells apart (18 R494). -/
def opTable : List OpRow := opRowsSystem ++ opRowsAudio ++ opRowsRest

def opRow (op : Nat) : Option OpRow := opTable.find? (fun r => r.op == op)

/-- A LENGTH that step 2 of 02 R32 accepts for an opcode. -/
def lenAllowed (op n : Nat) : Bool :=
  match opRow op with
  | none => false
  | some r => r.lens.any (fun l => decide (l.1 ≤ n ∧ n ≤ l.2))

end Sys2Proof.Machine
end

