-- ==== Sys2Proof/Machine/Accept.lean ====
section
/-! DEFINITION. The command service (02): the framing check, the sequence numbers, the resolution of apply ticks, the
handling of commands in a pair, and the application of a pending command. The meaning of each opcode comes in as a
function; the family files hold those functions. -/

namespace Sys2Proof.Machine
open Sys2Proof

/-! ## Accepted commands -/

/-- A command that has passed the framing check. -/
structure Cmd where
  chan : ChanId
  src : UdpSrc
  op : Nat
  seq : W32
  applyTick : W32
  mirror : Bool
  noReply : Bool
  par : List W32
  gap : Bool

def Cmd.origin (c : Cmd) : Origin := .host c.chan c.src

/-- The words of a command packet (02 Table 2-1). -/
def commandWords (h : CmdHead) (op : Nat) (p : List W32) : List W32 :=
  [pack [(op, 24), (b2n h.noReply, 17), (b2n h.mirror, 16), (3 + p.length, 0)], h.seq, h.applyTick] ++ p

/-- The block that a host error in the header of an opcode's packet affects. -/
def opBlock (op : Nat) : Blk :=
  if op < 0x10 then .pcie
  else if op < 0x14 then .references
  else if op < 0x16 then .ptp 0
  else if op < 0x18 then .timeBase 0
  else if op < 0x20 then .trigger 0
  else if op < 0x24 then .port 0
  else if op < 0x29 then .streams
  else if op < 0x30 then .port 2
  else if op < 0x40 then .routing
  else if op < 0x45 then .caldera
  else if op < 0x50 then .meters
  else if op < 0x60 then .vmap
  else if op < 0x64 then .decimators
  else if op < 0x70 then .tdm
  else if op < 0x80 then .geyser
  else if op < 0x90 then .pair
  else if op < 0xA0 then .reactions
  else if op < 0xB0 then .store
  else if op < 0xB3 then .dma 0
  else .conduit

/-- Commands accepted on a channel and not yet finally answered (02 R39). -/
def State.outstanding (s : State) (c : ChanId) : Nat :=
  let mine : Origin → Bool := fun o => match o with
    | .host d _ => d == c
    | .partner _ => false
    | .mirror => false
  (s.host.cmds.filter (fun p => mine p.org)).length
    + (s.store.ops.filter (fun o => match o.org with
        | some g => mine g
        | none => false)).length
    + (s.mdio.filter (fun o => mine o.org)).length
    + (s.pair.fwd.filter (fun f => mine f.org)).length

/-- A source that an allow-list entry covers (02 R56). -/
def allowed (allow : List (Nat × Nat)) (ip : Nat) : Bool :=
  allow.any (fun e => e.1 / 2 ^ (32 - e.2) == ip / 2 ^ (32 - e.2))

/-- The checks that a datagram passes before the framing check (02 R56, R57): source, size and tag. -/
def State.udpAdmits (s : State) (src : UdpSrc) (ws : List W32) : Bool :=
  allowed s.host.allow src.ip && !ws.isEmpty && fld (ws.headD 0) 15 0 == ws.length &&
    (match s.host.key with
     | none => src.tag.isEmpty
     | some k => src.tag == udpTag k ws)

/-! ## Sequence numbers (02 R40-R42) -/

/-- What the sequence rules make of a host number. -/
inductive SeqRes where
  | drop
  | again (n : HeldNo)
  | run (gap : Bool) (ch : ChanSt)

/-- The channel with a number held from now on. -/
def ChanSt.hold (ch : ChanSt) (seq : W32) : ChanSt :=
  { ch with nos := ch.nos.filter (fun n => n.seq != seq) ++ [⟨seq, none, false, []⟩] }

def ChanSt.check (ch : ChanSt) (auth : Bool) (seq : W32) : SeqRes :=
  match ch.expect with
  | none => .run false { ch.hold seq with expect := some (seq + 1) }
  | some e =>
    let k := (seq - e).toNat
    if k = 0 then .run false { ch.hold seq with expect := some (e + 1) }
    else if 2 ^ 32 - 64 ≤ k then
      match ch.nos.find? (fun n => n.seq == seq) with
      | some n => .again n
      | none => .run true (ch.hold seq)
    else if auth ∧ 2 ^ 31 ≤ k then .drop
    else .run true { ch.hold seq with expect := some (seq + 1), gaps := ch.gaps + 1 }

/-- A repeat: a copy of the last reply, or a copy owed after the first reply (02 R40, 18 R489). -/
def State.repeatReply (s : State) (c : ChanId) (src : UdpSrc) (n : HeldNo) : State :=
  match n.reply with
  | some ws => s.deliverReply c src ws
  | none =>
    if n.suppressed then s
    else
      let ch := s.chan c
      s.setChan c { ch with nos := ch.nos.map (fun m => if m.seq == n.seq then { m with copies := m.copies ++ [src] } else m) }

/-! ## Reception -/

/-- The tick word of a reply to a command that was refused before anything fixed one is open (log 16). -/
def State.freeTick (s : State) : W32 × State := (Config.freeWord s.fresh, { s with fresh := s.fresh + 1 })

/-- Refuses a packet with a reply that leaves the channel's numbers alone. -/
def State.refuse (s : State) (c : ChanId) (src : UdpSrc) (op status : Nat) (seq : W32) : State :=
  let f := s.freeTick
  f.2.sendReply c src op status seq f.1 [] false

/-- Opcodes answered in HALTED (02 R33). -/
def answeredHalted (op : Nat) : Bool := op ∈ [0x01, 0x02, 0x03, 0x90, 0x91, 0x94]

/-- BLOCK_RESET of the whole engine or of the pair engine (18 R493). -/
def localReset (op : Nat) (par : List W32) : Bool :=
  op == 0x04 && (fld (par.headD 0) 31 24 == 0 || fld (par.headD 0) 31 24 == 9)

def mirroredOp (op : Nat) (par : List W32) : Bool :=
  (match opRow op with
   | some r => r.cls == .mirrored
   | none => false) && !localReset op par

/-- A mirrored command reaches an engine that is not the owner, with no link to forward it (02 R61). -/
def State.notOwner (s : State) (op : Nat) (mirror : Bool) (par : List W32) : Bool :=
  s.isStandby && !s.pair.linkUp && mirror && mirroredOp op par

/-- The framing check of 02 R32 and the rules R31, R33, R39-R42 on the words that a channel carried; run is what an accepted
command then does. -/
def State.framing (s : State) (c : ChanId) (src : UdpSrc) (ws : List W32) (run : Cmd → State → State) : State :=
  match ws with
  | [] => s.refuse c src 0 4 0
  | w0 :: t =>
    let op := fld w0 31 24
    let seq := t.headD 0
    match opRow op with
    | none => s.refuse c src op 3 seq
    | some r =>
      let len := fld w0 15 0
      if len ≠ ws.length ∨ lenAllowed op len = false then s.refuse c src op 4 seq
      else
        let s := if fld w0 23 18 == 0 then s else s.hostError (opBlock op)
        let mk (gap : Bool) : Cmd :=
          { chan := c, src := src, op := op, seq := seq, applyTick := t.getD 1 0, mirror := bit w0 16,
            noReply := bit w0 17 && r.kind == .state, par := t.drop 2, gap := gap }
        if op == 0x02 then run (mk false) s
        else
          match (s.chan c).check (c == .udp && s.host.key.isSome) seq with
          | .drop => s
          | .again n => s.repeatReply c src n
          | .run gap ch =>
            if 64 ≤ s.outstanding c then s.refuse c src op 2 seq
            else
              let s1 := s.setChan c ch
              if s1.sys.phase == .halted && !answeredHalted op then
                let f := s1.freeTick
                f.2.sendReply c src op (if s1.notOwner op (bit w0 16) (t.drop 2) then 7 else 0x0B) seq f.1 [] true
              else run (mk gap) s1

/-- A key that STORE_WRITE left takes effect for the first UDP command accepted after its final reply (18 R509). -/
def State.keyTurn (s : State) (c : ChanId) : State :=
  match s.host.keyNext with
  | some k => if c == .udp then { s with host := { s.host with key := k, keyNext := none } } else s
  | none => s

/-- A command's words reach the engine on a channel (02 R33, R55-R57; 19 T19-7). -/
def State.receive (s : State) (c : ChanId) (src : UdpSrc) (ws : List W32) (run : Cmd → State → State) : State :=
  if !s.serviced || (c == .pcie && (!s.sys.hostSel || s.host.perst)) then s
  else
    let s := s.keyTurn c
    if c == .udp && !s.udpAdmits src ws then s.countPort 2 25 1
    else s.framing c src ws run

/-! ## Queries and immediate commands -/

/-- The status that goes with an executed command (02 R31). -/
def doneStatus (late gap : Bool) : Nat := if late then 6 else if gap then 5 else 0

/-- A query executes and is answered (02 R38, 18 R489). SEQ_QUERY is not held under a number (02 R42). -/
def State.answerQuery (s : State) (c : Cmd) (run : List W32 → State → Ans) : State :=
  let a := run c.par s
  let st := if a.status ≠ 0 then a.status else doneStatus false c.gap
  a.s.sendReply c.chan c.src c.op st c.seq s.tick32 a.data (c.op != 0x02)

/-- The row of a query packet. -/
def State.query (s : State) (op : Nat) (h : CmdHead) (p : List W32) (run : List W32 → State → Ans) : State :=
  (s.goto h.t).receive h.chan h.src (commandWords h op p) (fun c s => s.answerQuery c run)

/-! ## State-changing commands -/

/-- The target tick of 02 R34: none beyond the horizon, else the tick and whether the command is late. -/
def resolveTick (stamp lead : Nat) (applyTick : W32) : Option (Nat × Bool) :=
  let first := ceilDiv (3 * (stamp + lead)) 125000
  let current := tickOf stamp
  if applyTick = 0 then some (first, false)
  else
    let d := (applyTick - w32 current).toNat
    if d = 0 ∨ 2 ^ 31 ≤ d then some (first, true)
    else if 2 ^ 24 < d then none
    else if current + d < first then some (first, true)
    else some (current + d, false)

/-- The first eligible boundary at least lead after stamp. -/
def firstTick (stamp lead : Nat) : Nat := ceilDiv (3 * (stamp + lead)) 125000

/-- L of 02 R34, in ns. -/
def State.lead (s : State) : Nat := if s.solo then 20000 else 30000

/-- Puts a command into the pending queue in the order of its stamp, and answers ACCEPTED when the target lies beyond the
first eligible boundary (02 R34, R35). A scene is first read from the flash (17 R462). With share set, a copy goes to the standby (02 R60). -/
def State.schedule (s : State) (o : Origin) (op : Nat) (applyTick : W32) (par : List W32) (seq : W32)
    (gap noReply share : Bool) : State :=
  match resolveTick s.now s.lead applyTick with
  | none =>
    let f := s.freeTick
    f.2.answer o op stResource seq f.1 [] true
  | some (target, late) =>
    let q : Pend := ⟨op, par, target, s.now, o, seq, late, gap, noReply⟩
    let s1 := if op == 0xA3 then
        { s with store := { s.store with ops := s.store.ops ++ [⟨.scene q (fld (par.headD 0) 5 0), op, some o, seq, gap, s.time.tick, s.store.ops.isEmpty⟩] } }
      else { s with host := { s.host with cmds := s.host.cmds ++ [q] } }
    let s2 := if share then s1.sendCell (.command op target par) else s1
    if target = firstTick s.now s.lead ∨ noReply = true then s2
    else s2.answer o op 1 seq (w32 target) [] false

/-- PAIR_HANDOVER and PAIR_RESYNC are accepted by either engine, whatever MIRROR says (02 Table 2-9, 14 R398). -/
def pairControl (op : Nat) : Bool := op == 0x82 || op == 0x83

/-- An accepted state-changing command: scheduled here, mirrored, or forwarded to the active engine (02 R59-R61). Of
SCENE_LOAD the packets are mirrored at its tick, not the command (17 R483). A pair control command that cannot be forwarded
is answered with STATE at its tick (14 R398). -/
def State.takeState (s : State) (c : Cmd) : State :=
  if s.solo || !((c.mirror && mirroredOp c.op c.par) || pairControl c.op) then
    s.schedule c.origin c.op c.applyTick c.par c.seq c.gap c.noReply false
  else if s.pair.owner then s.schedule c.origin c.op c.applyTick c.par c.seq c.gap c.noReply (c.op != 0xA3)
  else if s.pair.linkUp then
    let tag := s.pair.fwdTag
    let s1 := { s with pair := { s.pair with
      fwdTag := tag + 1
      fwd := s.pair.fwd ++ [(⟨tag, c.op, c.origin, c.seq, c.gap, c.noReply⟩ : Fwd)] } }
    s1.sendCell (.forward tag c.op c.applyTick c.par)
  else if pairControl c.op then s.schedule c.origin c.op c.applyTick c.par c.seq c.gap c.noReply false
  else
    let f := s.freeTick
    f.2.sendReply c.chan c.src c.op 7 c.seq f.1 [] true

/-- Opcodes whose setting governs the samples of their apply tick onward, while those of the tick before are still being
processed (log 19). -/
def audioOp (op : Nat) (par : List W32) : Bool :=
  decide (0x30 ≤ op ∧ op ≤ 0x35 ∨ 0x40 ≤ op ∧ op ≤ 0x47) || op == 0x55 || (op == 0x04 && fld (par.headD 0) 31 24 == 2)

/-- Keeps the configuration of before for the samples that are still to be processed. The islands that POWER_DOMAIN
switches belong to it (01 R10). -/
def State.keepBack (s before : State) (op : Nat) (par : List W32) : State :=
  if audioOp op par then
    { s with
      back := some before.governing
      lateOps := s.lateOps ++ [(op, par)] }
  else if op == 0x06 then { s with back := some before.governing }
  else s

/-- A state-changing command took effect: the configuration version counts it (14 R375), and READY becomes RUNNING
(17 R471). -/
def State.applied (s : State) : State :=
  { s with
    pair := { s.pair with cfgVer := s.pair.cfgVer + 1 }
    sys := { s.sys with phase := if s.sys.phase == .ready then .running else s.sys.phase } }

/-- A command applies now, with no reply (02 R60): whole, or not at all (18 R487). -/
def State.applyNow (s : State) (op : Nat) (run : List W32 → State → Ans) (par : List W32) : State :=
  let a := run par s
  if a.status = 0 then (a.s.keepBack s op par).applied else s

/-- The number of a suppressed reply is marked, so that a repeat gets no reply (18 R489). -/
def State.suppress (s : State) (o : Origin) (seq : W32) : State :=
  match o with
  | .host c _ =>
    let ch := s.chan c
    s.setChan c { ch with nos := ch.nos.map (fun n => if n.seq == seq then { n with suppressed := true, copies := [] } else n) }
  | .partner tag => s.sendCell (.result tag 0 0 [] true)
  | .mirror => s

/-- The final reply of a state-changing command (02 R35, 18 R489). -/
def State.finalReply (s : State) (p : Pend) (status : Nat) (data : List W32) : State :=
  if p.noReply && status == 0 then s.suppress p.org p.seq
  else s.answer p.org p.op status p.seq (w32 p.target) data true

/-- A pending command applies at its target and is finally answered. In HALTED it is answered FAULTED (02 R33). -/
def State.applyPend (s : State) (p : Pend) (run : List W32 → State → Ans) : State :=
  if s.sys.phase == .halted then s.finalReply p 0x0B []
  else
    let a := run p.par s
    if a.status = 0 then (a.s.keepBack s p.op p.par).applied.finalReply p (doneStatus p.late p.gap) a.data
    else s.finalReply p a.status a.data

/-- The row of a state-changing packet: it arrives, or its target tick has come. -/
def State.command (s : State) (op : Nat) (st : Stage) (p : List W32) (run : List W32 → State → Ans) : State :=
  match st with
  | .arrive h => (s.goto h.t).receive h.chan h.src (commandWords h op p) (fun c s => s.takeState c)
  | .apply => s.applyNow op run p

end Sys2Proof.Machine
end

