-- ==== Sys2Proof/Machine/Regs.lean ====
section
/-! DEFINITION. The register file MW0 (19 R513-R519), the ring pointers (19 R516), PERST_N (19 R526), the PCIe link, the
MSI-X masks and the read-only view of MW2 (19 Table 19-8). -/

namespace Sys2Proof.Machine
open Sys2Proof

/-- A command row that names existing units gives the next state; one that does not ends in a fault. -/
def onUnit (ok : Bool) (s : State) : Host.Outcome State Fault Refusal :=
  if ok then .next s else .fault .noSuchUnit

/-! ## The words of the registers -/

/-- SYS_STRAPS (17 Table 17-6). -/
def State.strapsWord (s : State) : W32 :=
  let f := s.sys.fuses.getD 18 0
  pack [(b2n (bit f 0), 15), (b2n (bit f 3), 14), (b2n (bit f 4), 13), (b2n s.sys.fallback, 12), (b2n s.sys.slotB, 11),
    (b2n s.sys.downloaded, 10), (s.sys.resetKind, 8), (b2n s.sys.hostSel, 4), (s.sys.pairRole, 2), (s.sys.bootSel, 0)]

/-- FLT_STATUS (16 Table 16-8). -/
def FltSt.status (f : FltSt) : W32 :=
  pack [(b2n f.fatal, 31), (b2n (!f.active.isEmpty), 30), (b2n f.hasCorr, 29), (b2n f.histLost, 28), (b2n f.actLost, 27),
    (b2n f.evtLost, 26), ((f.first.map (·.cls)).getD 0, 24), (min 255 f.active.length, 16), (f.corrCount, 0)]

/-- The four words of a record as 16 Table 16-9 orders them: the message, then stamp and tick. -/
def FltSt.firstWords (f : FltSt) : List W32 :=
  match f.first with
  | none => [0, 0, 0, 0]
  | some r => [r.entry.msgH, r.entry.msgL, r.entry.stamp, r.entry.tick]

def Requester.index : Requester → Nat
  | .pcie => 0
  | .spi => 1
  | .ctrl => 2

/-- A read of TIME_NS, which latches for its requester (19 R519). -/
def State.readTimeNs (s : State) (rq : Requester) : W32 × State :=
  (w32 s.now, { s with time := { s.time with
    latches := s.time.latches.set rq.index (s.tick32, w32 (s.now / 2 ^ 32)) } })

/-- BOOT with PCIe download (19 R522). -/
def State.pcieDownload (s : State) : Bool :=
  s.sys.phase == .boot && s.sys.bootSel == 1 && s.sys.hostSel && !bit (s.sys.fuses.getD 18 0) 4

/-- The MSI-X table and pending-bit array (19 Table 19-1). Each vector has four words; bit 0 of the last is its mask. -/
def State.msixWord (s : State) (off : Nat) : W32 :=
  if off = 0x9000 then s.host.msixPend
  else
    let i := (off - 0x8000) / 4
    if i % 4 = 3 then pack [(b2n (s.host.msixVec.getLsbD (i / 4)), 0)] else kgetD s.host.msixTab i 0

/-- The register at a word offset; unlisted offsets read 0 (19 R513). -/
def State.regWord (s : State) (rq : Requester) (off : Nat) : W32 :=
  let latch := s.time.latches.getD rq.index (0, 0)
  if s.pcieDownload && rq == .pcie && off ∉ [0x0000, 0x0004, 0x0008, 0x000C, 0x0100] then 0
  else if 0x8000 ≤ off ∧ off < 0x8200 ∨ off = 0x9000 then s.msixWord off
  else
    match off with
    | 0x0000 => 0x1F3C9216
    | 0x0004 => 0xA1
    | 0x0008 => w32 s.sys.phase.code
    | 0x000C => s.strapsWord
    | 0x0100 => s.host.cmdW.zeroExtend 32
    | 0x0104 => s.host.cmdR.zeroExtend 32
    | 0x0108 => s.host.rplW.zeroExtend 32
    | 0x010C => s.host.rplR.zeroExtend 32
    | 0x0110 => s.host.evtW.zeroExtend 32
    | 0x0114 => s.host.evtR.zeroExtend 32
    | 0x0200 => s.host.intStatus
    | 0x0204 => s.host.intMask
    | 0x0300 => s.flt.status
    | 0x0304 => s.flt.firstWords.getD 0 0
    | 0x0308 => s.flt.firstWords.getD 1 0
    | 0x030C => s.flt.firstWords.getD 2 0
    | 0x0310 => s.flt.firstWords.getD 3 0
    | 0x0400 => w32 s.now
    | 0x0404 => s.tick32
    | 0x0408 => latch.1
    | 0x040C => latch.2
    | 0x0500 => s.pairWord
    | 0x0600 => s.host.qfcMap
    | _ => 0

/-- A read of a register with its effect: TIME_NS latches. -/
def State.regRead (s : State) (rq : Requester) (off : Nat) : W32 × State :=
  let w := s.regWord rq (off / 4 * 4)
  if off / 4 * 4 = 0x0400 then (w, (s.readTimeNs rq).2) else (w, s)

/-! ## The view of MW2 (19 Table 19-8) -/

/-- The level codes of a published tap record (04 Table 4-12). -/
def TapRec.words (r : TapRec) : List W32 :=
  [pack [(r.peak, 16), (r.tpeak, 0)], pack [(r.rms, 16), (r.hold, 0)], w32 r.holdTick, w32 r.tick]

/-- The published record of a tap: 0 before the first publication, silence for a tap that never had a route (04 R117). -/
def MeterBlk.tapWords (m : MeterBlk) (k : Nat) : List W32 :=
  if !m.published then [0, 0, 0, 0]
  else
    match kget m.pubTaps k with
    | some r => r.words
    | none => [0x80008000, 0x80008000, 0, w32 m.pubTick]

/-- A journal record as 16 Table 16-11 lays it out. -/
def FltRec.words (r : FltRec) : List W32 := [r.stamp, r.tick, r.msgH, r.msgL]

/-- Record number n of the journal, if it is still held: the last 4,096 before NEXT (16 R448). -/
def FltSt.recordAt (f : FltSt) (n : W32) : Option FltRec :=
  let back := (f.next - n).toNat
  if 1 ≤ back ∧ back ≤ f.journal.length then f.journal[f.journal.length - back]? else none

/-- The record in a slot of the journal ring: the newest number with that slot. -/
def FltSt.slotRecord (f : FltSt) (slot : Nat) : Option FltRec :=
  let last := (f.next - 1).toNat
  f.recordAt (w32 (last + 4096 - (last + 4096 - slot) % 4096 + 2 ^ 32 - 4096))

/-- The word at an offset of MW2; the TDM port buffers (09 R257) lie in memory. -/
def State.mw2Word (s : State) (off : Nat) : W32 :=
  let ring (l : List (Nat × List W32)) (o size : Nat) : W32 := (kgetD l (o / size) []).getD (o % size / 4) 0
  if off < 0x40000 then ring s.host.cmdSlots off 0x1000
  else if off < 0x80000 then ring s.host.rplSlots (off - 0x40000) 0x1000
  else if off < 0x90000 then ring s.host.evtSlots (off - 0x80000) 0x100
  else if off < 0x100000 then 0
  else if off < 0x110000 then (s.meter.tapWords ((off - 0x100000) / 16)).getD (off % 16 / 4) 0
  else if off < 0x110400 then kgetD s.meter.pubBus ((off - 0x110000) / 4) 0
  else if off < 0x110404 then s.meter.gen
  else if off < 0x1A0000 then 0
  else if off < 0x1B0000 then
    match s.flt.slotRecord ((off - 0x1A0000) / 16) with
    | some r => r.words.getD (off % 16 / 4) 0
    | none => 0
  else if off < 0x1B0004 then s.flt.next
  else if off < 0x1C0000 then 0
  else if off < 0x200000 then memReadW s.mem (0x21600000 + off)
  else 0

/-! ## Writes -/

/-- Held replies go to the ring while it can be written and has room (02 R49, 19 R526); fuel is their number. -/
def State.drainHeld : Nat → State → State
  | 0, s => s
  | n + 1, s =>
    match s.host.heldRpl with
    | [] => s
    | ws :: t => if !s.ringsUp || s.rplFull then s else State.drainHeld n ({ s with host := { s.host with heldRpl := t } }.ringReply ws)

/-- Slots that the host may write: all but those from CMD_RPTR up to CMD_WPTR (02 R48). -/
def State.slotIsHost (s : State) (i : Nat) : Bool :=
  let used := (s.host.cmdW - s.host.cmdR).toNat
  !((List.range used).any (fun k => (s.host.cmdR.toNat + k) % 64 == i))

/-- The host writes packets into slots of the command ring. -/
def State.writeSlots (s : State) (slots : List (Nat × List W32)) : State :=
  slots.foldl (fun s e =>
    if e.1 < 64 && s.slotIsHost e.1 then { s with host := { s.host with cmdSlots := kset s.host.cmdSlots e.1 e.2 } }
    else s.hostError .pcie) s

/-- CMD_WPTR (19 R516). -/
def State.writeCmdPtr (s : State) (v : W32) : State :=
  let p : W16 := v.truncate 16
  if p = s.host.cmdW then s
  else if 1 ≤ (p - s.host.cmdR).toNat ∧ (p - s.host.cmdR).toNat ≤ 64 then { s with host := { s.host with cmdW := p } }
  else s.hostError .pcie

/-- RPL_RPTR (19 R516); room in the ring lets held replies out. -/
def State.writeRplPtr (s : State) (v : W32) : State :=
  let p : W16 := v.truncate 16
  if (s.host.rplW - p).toNat ≤ 64 ∧ (p - s.host.rplR).toNat < 2 ^ 15 then
    { s with host := { s.host with rplR := p } }.drainHeld s.host.heldRpl.length
  else s.hostError .pcie

/-- EVT_RPTR (19 R516); a backward write is discarded. -/
def State.writeEvtPtr (s : State) (v : W32) : State :=
  let p : W16 := v.truncate 16
  if 2 ^ 15 ≤ (p - s.host.evtR).toNat then s
  else if (s.host.evtW - p).toNat ≤ 256 then { s with host := { s.host with evtR := p } }
  else s.hostError .pcie

/-- INT_STATUS, write 1 to clear; a bit set in the same cycle stays 1 and counts as a transition (19 R523). -/
def State.writeIntStatus (s : State) (v setNow : W32) : State :=
  let s1 := { s with host := { s.host with intStatus := s.host.intStatus &&& ~~~v } }
  (maskBits 11 setNow.toNat).foldl (fun s n => s.setInt n) s1

/-- INT_MASK; clearing a bit whose INT_STATUS bit is 1 sends its vector (19 R517). -/
def State.writeIntMask (s : State) (v : W32) : State :=
  let m := v &&& 0x7FF
  let opened := s.host.intMask &&& ~~~m &&& s.host.intStatus
  let s1 := { s with host := { s.host with intMask := m } }
  (maskBits 11 opened.toNat).foldl (fun s n => s.sendVec n) s1

/-- INT_FORCE (19 Table 19-5). -/
def State.writeIntForce (s : State) (v : W32) : State := (maskBits 11 v.toNat).foldl (fun s n => s.setInt n) s

/-- Pending vectors whose masks are clear are sent (19 R517). -/
def State.releaseVecs (s : State) : State :=
  if s.host.msixFn then s
  else
    (maskBits 32 (s.host.msixPend &&& ~~~s.host.msixVec).toNat).foldl
      (fun s n => { s with host := { s.host with msixPend := s.host.msixPend &&& ~~~((1 : W32) <<< n) } }.emit (.msix n)) s

/-- The MSI-X table: a vector's mask is bit 0 of its fourth word. -/
def State.writeMsix (s : State) (off : Nat) (v : W32) : State :=
  let i := (off - 0x8000) / 4
  if i % 4 = 3 then
    let m : W32 := (1 : W32) <<< (i / 4)
    { s with host := { s.host with msixVec := if bit v 0 then s.host.msixVec ||| m else s.host.msixVec &&& ~~~m } }.releaseVecs
  else { s with host := { s.host with msixTab := kset s.host.msixTab i v } }

/-- QFC_MAP (15 R430): SEL 48-63 is reserved. -/
def State.writeQfc (s : State) (v : W32) : State :=
  let bad := [0, 8, 16, 24].any (fun k => 48 ≤ fld v (k + 5) k)
  let s1 := { s with host := { s.host with qfcMap := v } }
  if bad then s1.hostError .conduit else s1

/-- A write of a whole aligned word; one that does not cover it is discarded, as is one over SPI to the ring pointers
(19 R513, R514). -/
def State.regWrite (s : State) (rq : Requester) (off : Nat) (v : W32) (whole : Bool) : State :=
  if !whole || off % 4 ≠ 0 then s
  else if 0x0100 ≤ off ∧ off ≤ 0x0114 ∧ rq = .spi then s
  else if s.pcieDownload && rq == .pcie && off ≠ 0x0100 then s
  else if 0x8000 ≤ off ∧ off < 0x8200 then s.writeMsix off v
  else
    match off with
    | 0x0100 => s.writeCmdPtr v
    | 0x010C => s.writeRplPtr v
    | 0x0114 => s.writeEvtPtr v
    | 0x0200 => s.writeIntStatus v 0
    | 0x0204 => s.writeIntMask v
    | 0x0208 => s.writeIntForce v
    | 0x0600 => s.writeQfc v
    | _ => s

/-! ## PERST_N and the PCIe link -/

/-- PERST_N falls (19 R526). -/
def State.perstFall (s : State) : State := { s with host := { s.host with perst := true } }

/-- PERST_N rises: the PCIe function stands at its reset values and held replies go out from slot 0 (19 R526). -/
def State.perstRise (s : State) : State :=
  let h := s.host
  let s1 := { s with host := { h with
    perst := false
    cmdW := 0
    cmdR := 0
    rplW := 0
    rplR := 0
    evtW := 0
    evtR := 0
    cmdSlots := []
    rplSlots := []
    evtSlots := []
    msixFn := false
    msixVec := 0
    msixPend := 0
    msixTab := []
    intStatus := h.intStatus &&& 0xFFFFFFFC } }
  s1.drainHeld s1.host.heldRpl.length

/-! ## The meanings of the rows -/

def execCmdWptrWrite (v : W32) (slots : List (Nat × List W32)) (s : State) : Host.Outcome State Fault Refusal :=
  .next (if !s.sys.hostSel || s.host.perst then s else (s.writeSlots slots).writeCmdPtr v)

def execRplRptrWrite (v : W32) (s : State) : Host.Outcome State Fault Refusal :=
  .next (if !s.sys.hostSel || s.host.perst then s else s.writeRplPtr v)

def execEvtRptrWrite (v : W32) (s : State) : Host.Outcome State Fault Refusal :=
  .next (if !s.sys.hostSel || s.host.perst then s else s.writeEvtPtr v)

def execIntStatusWrite (v setNow : W32) (s : State) : Host.Outcome State Fault Refusal := .next (s.writeIntStatus v setNow)

def execIntMaskWrite (v : W32) (s : State) : Host.Outcome State Fault Refusal := .next (s.writeIntMask v)

def execIntForceWrite (v : W32) (s : State) : Host.Outcome State Fault Refusal := .next (s.writeIntForce v)

/-- 19 R519. -/
def execTimeNsRead (t : Nat) (rq : Requester) (s : State) : Host.Outcome State Fault Refusal :=
  let r := (s.goto t).readTimeNs rq
  .next (r.2.emit (.read rq 0x0400 r.1))

def execQfcMapWrite (v : W32) (s : State) : Host.Outcome State Fault Refusal := .next (s.writeQfc v)

def execRegisterWrite (rq : Requester) (off : Nat) (v : W32) (whole : Bool) (s : State) :
    Host.Outcome State Fault Refusal :=
  .next (if rq == .pcie && (!s.sys.hostSel || s.host.perst) then s else s.regWrite rq off v whole)

def execPerstAssert (s : State) : Host.Outcome State Fault Refusal := .next s.perstFall

def execPerstRelease (t : Nat) (s : State) : Host.Outcome State Fault Refusal := .next (s.goto t).perstRise

/-- The link trains only with HOST_SEL = 1 (17 Table 17-5). -/
def execPcieLinkUp (t : Nat) (s : State) : Host.Outcome State Fault Refusal :=
  let s := s.goto t
  .next (if s.sys.hostSel then { s with host := { s.host with linkUp := true } } else s)

/-- 16 Table 16-3 kind 0x25, source 0x13. -/
def execPcieLinkDown (t : Nat) (s : State) : Host.Outcome State Fault Refusal :=
  let s := s.goto t
  .next (if s.sys.hostSel && s.host.linkUp then
    ({ s with host := { s.host with linkUp := false } }).raise 0x13 0 0x25 0 else s)

/-- The function mask (no vector named) or a vector's own mask clears (19 R517). -/
def execMsixMaskClear (vec : Option Nat) (s : State) : Host.Outcome State Fault Refusal :=
  match vec with
  | none => .next { s with host := { s.host with msixFn := false } }.releaseVecs
  | some n => onUnit (n < 32)
      { s with host := { s.host with msixVec := s.host.msixVec &&& ~~~((1 : W32) <<< n) } }.releaseVecs

end Sys2Proof.Machine
end

