-- ==== Sys2Proof/Machine/Clock.lean ====
section
/-! DEFINITION. References, their qualification and selection, the DPLLs and holdover (12). The locks, which may step a
time base, are in Machine/TimeStep.lean. -/

namespace Sys2Proof.Machine
open Sys2Proof

/-! ## Units of the clock block -/

def State.rfc (s : State) (i : Nat) : RefSt := s.ref.refs.getD i (RefSt.init i)

def State.setRef (s : State) (i : Nat) (r : RefSt) : State := { s with ref := { s.ref with refs := s.ref.refs.set i r } }

def State.dpll (s : State) (i : Nat) : Dpll := s.ref.dplls.getD i Dpll.init

def State.setDpll (s : State) (i : Nat) (d : Dpll) : State := { s with ref := { s.ref with dplls := s.ref.dplls.set i d } }

def State.inst (s : State) (i : Nat) : PtpInst := s.time.insts.getD i (PtpInst.init (i == 1))

/-- A reference that carries time (12 R324). -/
def carriesTime (r : Nat) : Bool := r == 0 || r == 1 || r == 4 || r == 8

def State.qualified (s : State) (r : Nat) : Bool := (s.rfc r).q == .qualified

/-! ## Holdover (12 R327-R329) -/

/-- The square root of a number below 2^96, rounded down. -/
def isqrt (n : Nat) : Nat :=
  (List.range 48).foldl (fun r i => let c := r + 2 ^ (47 - i); if c * c ≤ n then c else r) 0

/-- A learned ageing value exists (17 R463). -/
def RefBlk.learned (b : RefBlk) : Bool := b.hours != 0

/-- U_T in units of 10^-12 (12 Table 12-5). -/
def RefBlk.uT (b : RefBlk) : Nat := match b.cls with
  | 0 => 50000
  | 1 => 1000
  | _ => b.uTemp * 10

/-- A in units of 10^-12 a day. -/
def RefBlk.ageA (b : RefBlk) : Nat :=
  if b.learned then b.resid.toNat
  else match b.cls with
    | 0 => 5000
    | 1 => 500
    | _ => b.ageing

/-- E(t) scaled: E(t) in ns is this number divided by 1728 x 10^23 (12 R328). -/
def State.predictNum (s : State) (d : Dpll) : Nat :=
  let t := s.time.mono - d.entered
  d.e0 * (1728 * 10 ^ 22) + (d.u0 + s.ref.uT) * t * (1728 * 10 ^ 11) + s.ref.ageA * t * t

def predictDen : Nat := 1728 * 10 ^ 23

/-- PREDICT in ns, saturating; 0 unless in SWITCH or HOLDOVER (12 Table 12-9). -/
def State.predict (s : State) (d : Dpll) : Nat :=
  if d.st == .switch || d.st == .holdover then min 0xFFFFFFFF (s.predictNum d / predictDen) else 0

/-- The frequency of a DPLL: held, with DPLL0's learned ageing since the entry, in SWITCH and HOLDOVER (12 R327). -/
def State.dpllFreq (s : State) (i : Nat) : Int :=
  let d := s.dpll i
  if d.st == .switch || d.st == .holdover then
    if i == 0 && s.ref.learned then d.held + s.ref.rate.toInt * ((s.time.mono - d.entered : Nat) : Int) / (86400 * 10 ^ 9) else d.held
  else d.freq

/-- The mean and the RMS deviation of samples, in their units. -/
def meanDev (l : List Int) : Int × Nat :=
  if l.isEmpty then (0, 0)
  else
    let n := l.length
    let m := roundDiv l.sum n
    (m, isqrt ((l.map (fun x => ((x - m) * (x - m)).toNat)).sum / n))

/-- A DPLL that leaves LOCKED holds its mean frequency, and the holdover timer starts (12 R327, R328). -/
def State.holdFreq (s : State) (d : Dpll) : Dpll :=
  let stop := s.time.mono - 200000000
  let start := stop - s.ref.hoAvg * 1000000000
  let win := (d.samples.filter (fun x => decide (start < x.1 ∧ x.1 ≤ stop))).map (·.2)
  let r := meanDev win
  { d with
    held := if win.isEmpty then d.held else r.1
    u0 := max 100 (if win.isEmpty then d.u0 else r.2)
    e0 := d.phase.natAbs
    entered := s.time.mono }

/-! ## Words and events (12 Table 12-9, R337) -/

def RefSt.word (r : RefSt) : W32 := pack [(r.q.code, 30), (r.cause, 26), (r.hist % 256, 18), (code 18 r.rfreq, 0)]

def State.dpllWord (s : State) (i : Nat) : W32 :=
  let d := s.dpll i
  pack [(d.st.code, 29), (d.source.getD 15, 25), (d.select, 21), (b2n (!s.ref.disagree.isEmpty), 20), (b2n d.expired, 19), (d.hist % 256, 0)]

/-- EVENT_REF. -/
def State.refEvent (s : State) (kind cause ref dpll new : Nat) (w5 : W32) : State :=
  s.event 0xE1 [pack [(kind, 28), (cause, 24), (ref, 20), (dpll, 16), (new, 0)], w5, s.tick32]

/-- A reference changes state: the event of kind 1 follows every change (12 R318). -/
def State.refState (s : State) (i : Nat) (q : QState) (cause : Nat) : State :=
  let r := s.rfc i
  let r1 := { r with
    q := q
    cause := if cause = 0 then r.cause else cause
    hist := (if cause = 0 then r.hist else r.hist ||| 1 <<< (cause - 1)) ||| (if q == .qualified then 64 else 0) }
  let s1 := s.setRef i r1
  if r.q == q then s1 else s1.refEvent 1 r1.cause i 0 q.code r1.word

/-! ## The selector (12 R319-R325) -/

/-- A usable reference. -/
def State.usable (s : State) (d : Dpll) (r : Nat) : Bool :=
  s.qualified r && ((s.rfc r).eligible || d.select == r)

/-- The usable references of a rank; PAIR has no rank (12 R322, R333). -/
def State.cand (s : State) (d : Dpll) (rank : Nat) : List Nat :=
  (List.range 8).filter (fun r => s.usable d r && (s.rfc r).rank == rank)

/-- The procedure of 12 R319. -/
def State.want (s : State) (d : Dpll) : Option Nat :=
  if s.isStandby && s.qualified 8 then some 8
  else if d.select = 15 then none
  else if d.select ≤ 8 && s.qualified d.select then some d.select
  else
    match (List.range 8).find? (fun k => !(s.cand d k).isEmpty) with
    | none => none
    | some k =>
      let c := s.cand d k
      if c.any (fun r => d.source == some r) then d.source
      else if s.ref.disagree.any (fun e => e.1 == k) then
        match d.source with
        | some r => if s.usable d r then some r else none
        | none => none
      else c.head?

/-- A DPLL takes a new state and source, with the events of kinds 2 and 3; a standby whose DPLL leaves PAIR is no longer
aligned (14 R382). -/
def State.dpllState (s : State) (i : Nat) (st : DpllMode) (src : Option Nat) : State :=
  let d := s.dpll i
  let moved := d.source != src
  let h1 := if st == .holdover && d.st != .holdover then d.hist ||| 128 else d.hist
  let h2 := if st == .switch then h1 ||| 64 else h1
  let h3 := if moved then h2 ||| 8 else h2
  let d1 := { d with st := st, source := src, hist := h3, expired := if st == .locked then false else d.expired }
  let s0 := s.setDpll i d1
  let s1 := { s0 with pair := { s0.pair with aligned := s0.pair.aligned && st == .locked && src == some 8 } }
  let s2 := if d.st == st then s1 else s1.refEvent 2 0 (src.getD 15) i st.code (s1.dpllWord i)
  if moved then s2.refEvent 3 0 (src.getD 15) i st.code (s2.dpllWord i) else s2

/-- The selector evaluates one DPLL (12 R319, Table 12-3). -/
def State.evalDpll (s : State) (i : Nat) : State :=
  let d := s.dpll i
  let targetGone := match d.source with
    | some r => !s.qualified r
    | none => true
  match d.st with
  | .freerun => match s.want d with
    | some r => s.dpllState i .acquire (some r)
    | none => s
  | .acquire =>
    if targetGone then
      let s1 := s.dpllState i .freerun none
      match s1.want (s1.dpll i) with
      | some r => s1.dpllState i .acquire (some r)
      | none => s1
    else s
  | .locked =>
    let w := s.want d
    if w == d.source then s
    else
      let s1 := s.setDpll i (s.holdFreq d)
      match w with
      | some r => s1.dpllState i .switch (some r)
      | none => s1.dpllState i .holdover none
  | .switch =>
    if targetGone then
      match s.want d with
      | some r => s.dpllState i .switch (some r)
      | none => s.dpllState i .holdover none
    else s
  | .holdover => match s.want d with
    | some r => s.dpllState i .switch (some r)
    | none => s

def State.evalRefs (s : State) : State := (s.evalDpll 0).evalDpll 1

/-! ## Qualification (12 R316-R318) -/

/-- The monitors of a reference: all for a clock reference, causes 3 and 4 for PTP and PAIR (12 R317). -/
def monitored (r cause : Nat) : Bool :=
  if r < 2 || r == 8 then cause == 3 || cause == 4
  else if r < 5 then decide (1 ≤ cause ∧ cause ≤ 3)
  else decide (1 ≤ cause ∧ cause ≤ 4)

/-- Cause 6 holds: TDM names a master group, or PAIR on an engine that is solo or active (12 Table 12-2). -/
def State.blockedRef (s : State) (r : Nat) : Bool :=
  if r == 7 then
    let g := s.tdm.groups.getD (s.rfc 7).param TGroup.init
    g.sync == 0
  else r == 8 && (s.solo || s.pair.owner)

/-- The source behind a reference is up (cause 4). -/
def State.sourceUp (s : State) (r : Nat) : Bool :=
  match r with
  | 0 => (s.inst 0).st == .slave
  | 1 => (s.inst 1).st == .slave
  | 5 => (s.port 0).linkUp
  | 6 => (s.port 1).linkUp
  | 7 => (s.tdm.groups.getD (s.rfc 7).param TGroup.init).st == .run
  | 8 => s.pair.linkUp && s.pair.calibrated
  | _ => true

/-- A reference is disqualified, without the selector (12 R316, R318). -/
def State.dropRef (s : State) (r cause : Nat) : State :=
  let q := (s.rfc r).q
  if q == .blocked then s
  else
    let s1 := s.refState r .absent cause
    if q == .qualified then s1.raise 0x0E r 0x13 (pack [(cause, 24), (s.tick16, 0)]) else s1

/-- A reference is disqualified and the selector evaluates. -/
def State.refLoss (s : State) (r cause : Nat) : State := (s.dropRef r cause).evalRefs

/-- BLOCKED follows the configuration; a reference that is no longer blocked enters QUALIFYING (12 R317). -/
def State.reblock (s : State) : State :=
  ([7, 8].foldl (fun s r =>
    if s.blockedRef r then
      if (s.rfc r).q == .blocked then s
      else
        let was := (s.rfc r).q == .qualified
        let s1 := s.refState r .blocked 6
        if was then s1.raise 0x0E r 0x13 (pack [(6, 24), (s.tick16, 0)]) else s1
    else if (s.rfc r).q == .blocked then
      (s.setRef r { s.rfc r with since := s.time.mono }).refState r .qualifying 0
    else s) s).evalRefs

/-! ## The frequency monitor (12 R316, R320) -/

/-- The qualified references of a rank. -/
def State.rankRefs (s : State) (k : Nat) : List Nat :=
  (List.range 8).filter (fun r => s.qualified r && (s.rfc r).rank == k)

/-- The references of a rank that differ from another of it by more than WINDOW. -/
def State.apart (s : State) (k : Nat) : List Nat :=
  let l := s.rankRefs k
  l.filter (fun a => l.any (fun b => decide (s.ref.window < ((s.rfc a).rfreq - (s.rfc b).rfreq).natAbs)))

def setDisagree (b : RefBlk) (k : Nat) (m : Option Nat) : RefBlk :=
  { b with disagree := match m with
      | some x => kset b.disagree k x
      | none => kdel b.disagree k }

/-- Onset or end of a disagreement at a rank (12 R320); it ends once every pair has stayed within WINDOW for the longest
REQUAL of the rank's references. -/
def State.judgeRank (s : State) (k : Nat) : State :=
  let l := s.apart k
  if !l.isEmpty then
    let s0 := { s with ref := { s.ref with agreeSince := kdel s.ref.agreeSince k } }
    if s.ref.disagree.any (fun e => e.1 == k) then s0
    else
      let m := maskOf l
      let marked := l.foldl (fun (s : State) r => s.setRef r { s.rfc r with hist := (s.rfc r).hist ||| 128 }) s0
      let r1 := setDisagree marked.ref k (some m)
      let s1 := { marked with ref := { r1 with dplls := r1.dplls.map (fun (d : Dpll) => { d with hist := d.hist ||| 16 }) } }
      (s1.raise 0x0E k 0x14 (w32 m)).refEvent 4 0 k 0 0 (s1.dpllWord 0)
  else if s.ref.disagree.any (fun e => e.1 == k) then
    match kget s.ref.agreeSince k with
    | none => { s with ref := { s.ref with agreeSince := kset s.ref.agreeSince k s.time.mono } }
    | some t =>
      let need := ((s.rankRefs k).map (fun r => (s.rfc r).requal)).foldl max 1
      if t + need * 100000000 ≤ s.time.mono then
        let r1 := setDisagree s.ref k none
        let s1 := { s with ref := { r1 with agreeSince := kdel r1.agreeSince k } }
        s1.refEvent 5 0 k 0 0 (s1.dpllWord 0)
      else s
  else s

/-- A DPLL takes its measured frequency and phase; a sample of each second of lock is kept (12 R327, Table 12-4). -/
def State.measureDpll (s : State) (i : Nat) (freq phase : Int) : State :=
  let d := s.dpll i
  if d.st != .acquire && d.st != .locked then s
  else
    let f := clamp (-200000000) 200000000 freq
    let due := match d.samples with
      | [] => true
      | x :: _ => decide (x.1 + 1000000000 ≤ s.time.mono)
    s.setDpll i { d with
      freq := f
      phase := if d.st == .locked then phase else 0
      hist := if f = freq then d.hist else d.hist ||| 4
      samples := if d.st == .locked && due then ((s.time.mono, f) :: d.samples).take 320 else d.samples }

/-- A measurement of every reference and of both DPLLs. -/
def State.measureRefs (s : State) (rfreq dfreq dphase : List Int) : State :=
  let s1 := (List.range 9).foldl (fun (s : State) r =>
    s.setRef r { s.rfc r with rfreq := rfreq.getD r (s.rfc r).rfreq }) s
  let s2 := (List.range 2).foldl (fun (s : State) i => s.measureDpll i (dfreq.getD i (s.dpll i).freq) (dphase.getD i (s.dpll i).phase)) s1
  let s3 := (List.range 9).foldl (fun (s : State) r =>
    let x := s.rfc r
    if x.q != .absent && x.q != .blocked && decide (x.freqLim * 100 < x.rfreq.natAbs) then s.dropRef r 3 else s) s2
  ((List.range 8).foldl State.judgeRank s3).evalRefs

/-! ## Commands -/

/-- REF_CONFIG (12 R333). -/
def applyRefConfig (p : List W32) (s : State) : Ans :=
  let w3 := pw p 3
  let w4 := pw p 4
  match fld w3 31 30 with
  | 0 =>
    let i := fld w3 3 0
    let par := fld w4 25 23
    let lim := fld w4 22 13
    let bad := fld w3 29 4 != 0 || 8 < i || p.length != 2 || lim < 10 || 1000 < lim || fld w4 12 0 == 0 ||
      (i == 2 && 6 ≤ par) || (i != 2 && i != 7 && par != 0)
    if bad then .ok (s.hostError .references)
    else if i = 8 then .ok (s.setRef 8 { s.rfc 8 with bw := fld w4 27 26 })
    else
      let r := s.rfc i
      let s1 := s.setRef i { r with
        eligible := bit w4 31
        rank := fld w4 30 28
        bw := fld w4 27 26
        param := par
        freqLim := lim
        requal := fld w4 12 0 }
      let s2 := if par = r.param || (s1.rfc i).q == .blocked then s1 else s1.refState i .absent 0
      .ok s2.reblock
  | 1 =>
    let w := fld w4 15 0
    let bad := fld w3 29 0 != 0 || p.length != 3 || fld w4 31 16 != 0 || w == 0 || 10000 < w || fld (pw p 5) 31 4 != 0
    if bad then .ok (s.hostError .references)
    else .ok { s with ref := { s.ref with window := w, mclk1 := fld (pw p 5) 3 2, mclk0 := fld (pw p 5) 1 0 } }
  | _ => .ok (s.hostError .references)

/-- REF_SELECT (12 R334). -/
def applyRefSelect (p : List W32) (s : State) : Ans :=
  let w3 := pw p 3
  let sel := fld w3 3 0
  let i := fld w3 31 31
  if fld w3 30 4 != 0 || (9 ≤ sel && sel ≤ 13) then .ok (s.hostError .references)
  else if sel = (s.dpll i).select then .ok s
  else .ok (s.setDpll i { s.dpll i with select := sel }).evalRefs

/-- The engine's own write of region 2 is owed (17 R460, R463). -/
def State.oweLearned (s : State) : State :=
  { s with store := { s.store with ops := s.store.ops ++ [⟨.learned, 0, none, 0, false, s.time.tick, false⟩] } }

/-- HOLDOVER_CONFIG (12 R335). -/
def applyHoldoverConfig (p : List W32) (s : State) : Ans :=
  let w3 := pw p 3
  let lim := fld (pw p 5) 31 16
  let avg := fld (pw p 5) 15 0
  if fld w3 31 30 == 3 || fld w3 28 0 != 0 || lim == 0 || avg == 0 || 300 < avg then .ok (s.hostError .references)
  else
    let r := { s.ref with
      cls := fld w3 31 30
      uTemp := fld (pw p 4) 31 16
      ageing := fld (pw p 4) 15 0
      limit := lim
      hoAvg := avg }
    .ok (if bit w3 29 then { s with ref := { r with rate := 0, resid := 0, hours := 0 } }.oweLearned else { s with ref := r })

/-- REF_STATUS (12 R336). -/
def queryRefStatus (p : List W32) (s : State) : Ans :=
  let w3 := pw p 3
  let dp (i : Nat) : List W32 :=
    [s.dpllWord i, BitVec.ofInt 32 (s.dpllFreq i),
      if (s.dpll i).st == .locked then BitVec.ofInt 32 (s.dpll i).phase else 0, w32 (s.predict (s.dpll i))]
  let d := dp 0 ++ dp 1 ++ (List.range 9).map (fun i => (s.rfc i).word)
  let s1 := if bit w3 31 then { s with ref := { s.ref with
      dplls := s.ref.dplls.map (fun d => { d with hist := 0 })
      refs := s.ref.refs.map (fun r => { r with hist := 0 }) } } else s
  .okData d (if fld w3 30 0 == 0 then s1 else s1.hostError .references)

/-- BLOCK_RESET of the references (12 R338). -/
def State.resetRefs (s : State) : State :=
  (((List.range 9).foldl (fun s r => s.dropRef r 5) s).evalRefs).predictable [.references]

/-! ## Happenings -/

/-- E(t) has exceeded LIMIT (12 R329). -/
def State.holdoverExpires (s : State) (i : Nat) : State :=
  let d := s.dpll i
  if (d.st == .switch || d.st == .holdover) && !d.expired && decide (s.ref.limit * 10 * predictDen < s.predictNum d) then
    let s1 := s.raise 0x0E i 0x15 (w32 (min 0xFFFFFFFF ((s.time.mono - d.entered) / 1000000)))
    let s2 := s1.setDpll i { s1.dpll i with expired := true, hist := (s1.dpll i).hist ||| 32 }
    s2.refEvent 6 0 (d.source.getD 15) i d.st.code (s2.dpllWord i)
  else s

/-! ## The meanings of the rows -/

def execRefConfig (st : Stage) (p : List W32) (s : State) : Host.Outcome State Fault Refusal := .next (s.command 0x10 st p applyRefConfig)

def execRefSelect (st : Stage) (p : List W32) (s : State) : Host.Outcome State Fault Refusal := .next (s.command 0x11 st p applyRefSelect)

def execRefStatus (h : CmdHead) (p : List W32) (s : State) : Host.Outcome State Fault Refusal := .next (s.query 0x12 h p queryRefStatus)

def execHoldoverConfig (st : Stage) (p : List W32) (s : State) : Host.Outcome State Fault Refusal := .next (s.command 0x13 st p applyHoldoverConfig)

/-- A monitor of Table 12-2 fails. -/
def execRefDisqualify (t ref cause : Nat) (s : State) : Host.Outcome State Fault Refusal :=
  let s := s.goto t
  onUnit (ref < 9) (if monitored ref cause then s.refLoss ref cause else s)

/-- The first edge after every monitor is clean. -/
def execRefQualifying (t ref : Nat) (s : State) : Host.Outcome State Fault Refusal :=
  let s := s.goto t
  onUnit (ref < 9)
    (if (s.rfc ref).q == .absent && s.sourceUp ref && !s.blockedRef ref then
      ((s.setRef ref { s.rfc ref with since := s.time.mono }).refState ref .qualifying 0).evalRefs else s)

/-- A reference has stayed clean for REQUAL. -/
def execRefQualified (t ref : Nat) (s : State) : Host.Outcome State Fault Refusal :=
  let s := s.goto t
  let r := s.rfc ref
  onUnit (ref < 9)
    (if r.q == .qualifying && decide (r.since + r.requal * 100000000 ≤ s.time.mono) then
      (s.refState ref .qualified 0).evalRefs else s)

def execRefFrequencyMeasure (t : Nat) (rfreq dfreq dphase : List Int) (s : State) : Host.Outcome State Fault Refusal :=
  .next ((s.goto t).measureRefs rfreq dfreq dphase)

def execHoldoverExpired (t dpll : Nat) (s : State) : Host.Outcome State Fault Refusal :=
  onUnit (dpll < 2) ((s.goto t).holdoverExpires dpll)

/-- 12 R330: with DPLL0 LOCKED at 1 Hz or less; the residual's floor is 0.01 ppb a day. -/
def execAgeingLearn (t : Nat) (rate resid hours : W32) (s : State) : Host.Outcome State Fault Refusal :=
  let s := s.goto t
  let d := s.dpll 0
  let slow := match d.source with
    | some r => (s.rfc r).bw ≤ 1
    | none => false
  .next (if d.st == .locked && slow then
    { s with ref := { s.ref with rate := rate, resid := if resid.toNat < 10 then 10 else resid, hours := hours } }.oweLearned
  else s)

/-- 01 R9: an island that is OFF is not monitored. -/
def execIslandClockFail (t island : Nat) (s : State) : Host.Outcome State Fault Refusal :=
  let s := s.goto t
  onUnit (island < 16)
    (if (s.sys.islands.getD island ⟨.off, 0, none⟩).pwr == .off then s else s.raise 0x0E island 0x24 0)

end Sys2Proof.Machine
end

