-- ==== Sys2Proof/Machine/Store.lean ====
section
/-! DEFINITION. The persistent store (17 R454-R468, 18 R504-R509): banks and their content, write sessions, flash operations
one at a time, firmware checks, and the records of the scene store. -/

namespace Sys2Proof.Machine
open Sys2Proof

/-! ## Banks (17 R455-R457) -/

/-- The size of a region's banks in bytes (17 Table 17-1). -/
def bankBytes (r : Nat) : Nat := match r with
  | 0 => 0xC00000
  | 1 => 0x300000
  | _ => 0x80000

/-- The largest payload of a bank in bytes. -/
def bankCap (r : Nat) : Nat := bankBytes r - 16

def bankMagic (r : Nat) : W32 := w32 (0xCA175E00 + r)

/-- n payload words of a bank; what was not programmed reads as erased. -/
def Bank.words (b : Bank) (n : Nat) : List W32 := b.payload.take n ++ List.replicate (n - b.payload.length) 0xFFFFFFFF

def headerCrc (magic seq len : W32) (payload : List W32) : W32 := crc32cLE ([magic, seq, len] ++ payload)

/-- What is wrong with a bank that carries its magic: 0 nothing, 1 length, 2 CRC (17 R456, R457). -/
def Bank.fault (b : Bank) (r : Nat) : Nat :=
  if bankCap r < b.len.toNat || b.len.toNat % 4 != 0 then 1
  else if headerCrc b.magic b.seq b.len (b.words (b.len.toNat / 4)) != b.crc then 2
  else 0

def Bank.valid (b : Bank) (r : Nat) : Bool := b.magic == bankMagic r && b.fault r == 0

def StoreSt.region (x : StoreSt) (r : Nat) : Region := x.regions.getD r ⟨Bank.erased, Bank.erased⟩

/-- The content bank: false A, true B, none when the region is empty (17 R457). -/
def StoreSt.contentBank (x : StoreSt) (r : Nat) : Option Bool :=
  let g := x.region r
  if g.a.valid r then
    if g.b.valid r then some (decide (2 ^ 31 < (g.a.seq - g.b.seq).toNat)) else some false
  else if g.b.valid r then some true
  else none

def Region.bank (g : Region) (toB : Bool) : Bank := if toB then g.b else g.a

def StoreSt.content (x : StoreSt) (r : Nat) : Option Bank := (x.contentBank r).map (x.region r).bank

/-- The payload words of a region's content; none of an empty region. -/
def StoreSt.payload (x : StoreSt) (r : Nat) : List W32 := match x.content r with
  | some b => b.words (b.len.toNat / 4)
  | none => []

/-- The target bank and the number of the next write (17 R458). -/
def StoreSt.target (x : StoreSt) (r : Nat) : Bool × W32 :=
  let g := x.region r
  let toB := if g.a.valid r && g.b.valid r then (x.contentBank r).getD false == false else g.a.valid r
  (toB, match x.content r with
    | some b => b.seq + 1
    | none => 1)

def State.setBank (s : State) (r : Nat) (toB : Bool) (b : Bank) : State :=
  let g := s.store.region r
  { s with store := { s.store with regions := s.store.regions.set r (if toB then { g with b := b } else { g with a := b }) } }

def State.checkFail (s : State) (r : Nat) (toB : Bool) (cause : Nat) : State :=
  s.raise 0x12 r 0x22 (pack [(b2n toB, 31), (cause, 24)])

/-! ## Records of region 1 (17 R461, 18 R509) -/

/-- The body of the first record of a type and number: none when the records run past the content, some none when there is
no such record. The first argument bounds the number of records. -/
def findRecord : Nat → Nat → Nat → List W32 → Option (Option (List W32))
  | 0, _, _, _ => some none
  | _ + 1, _, _, [] => some none
  | _ + 1, _, _, [_] => none
  | n + 1, typ, num, w0 :: len :: t =>
    if t.length < len.toNat then none
    else if fld w0 31 24 == typ && fld w0 23 16 == num then some (some (t.take len.toNat))
    else findRecord n typ num (t.drop len.toNat)

def StoreSt.record (x : StoreSt) (typ num : Nat) : Option (Option (List W32)) :=
  let ws := x.payload 1
  findRecord ws.length typ num ws

def StoreSt.nodeRecord (x : StoreSt) : List W32 := ((x.record 1 0).getD none).getD []

/-- The UDP key that the node record holds (02 R57). -/
def StoreSt.nodeKey (x : StoreSt) : Option (List W32) :=
  let b := x.nodeRecord
  if bit (b.headD 0) 8 then some ((b.drop 1).take 8) else none

/-- The startup scene; 0 for none. -/
def StoreSt.startup (x : StoreSt) : Nat := fld (x.nodeRecord.headD 0) 5 0

/-- The payload of region 1 as STORE_READ shows it: the key words of the node record read 0. -/
def maskKeys : Nat → List W32 → List W32
  | n + 1, w0 :: len :: t =>
    let body := t.take len.toNat
    let body1 := if fld w0 31 24 == 1 && fld w0 23 16 == 0 then body.mapIdx (fun i w => if 1 ≤ i ∧ i ≤ 8 then 0 else w) else body
    w0 :: len :: body1 ++ maskKeys n (t.drop len.toNat)
  | _, ws => ws

/-- The command packets in a body; a packet that its LENGTH does not fit stands last, as it is. -/
def splitPackets : Nat → List W32 → List (List W32)
  | n + 1, w0 :: t =>
    let len := fld w0 15 0
    if len < 3 || t.length + 1 < len then [w0 :: t] else (w0 :: t.take (len - 1)) :: splitPackets n (t.drop (len - 1))
  | _, _ => []

/-! ## Firmware (17 R465-R468) -/

/-- The number of ones in the SVN fuses. -/
def fusedSvn (fuses : List W32) : Nat :=
  ((List.range 32).filter (fun i => bit (fuses.getD 16 0) i)).length + ((List.range 32).filter (fun i => bit (fuses.getD 17 0) i)).length

/-- A range of control RAM, or of the Basin when basin is allowed. -/
def inFirmwareRam (a n : Nat) (basin : Bool) : Bool :=
  decide (0x10000000 ≤ a ∧ a + n ≤ 0x10200000) || (basin && decide (0x20000000 ≤ a ∧ a + n ≤ 0x21800000))

/-- The sections of an image: destination and size. -/
def imageSections (img : List W32) : List (Nat × Nat) :=
  (List.range (fld (img.getD 5 0) 15 0)).map (fun k => ((img.getD (6 + 3 * k) 0).toNat, (img.getD (7 + 3 * k) 0).toNat))

/-- Step 1 of 17 R467: format, length within cap bytes, sections and entry. -/
def imageShape (cap : Nat) (img : List W32) : Bool :=
  let secs := imageSections img
  let entry := (img.getD 4 0).toNat
  let w1 := img.getD 1 0
  fld w1 31 16 == 1 && decide ((img.getD 3 0).toNat ≤ cap) && decide (1 ≤ secs.length ∧ secs.length ≤ 64) &&
    secs.all (fun e => inFirmwareRam e.1 e.2 true) &&
    (List.range secs.length).all (fun i => (List.range i).all (fun j =>
      let a := secs.getD i (0, 0)
      let b := secs.getD j (0, 0)
      decide (a.1 + a.2 ≤ b.1 ∨ b.1 + b.2 ≤ a.1))) &&
    secs.any (fun e => inFirmwareRam e.1 e.2 false && decide (e.1 ≤ entry ∧ entry < e.1 + e.2))

/-- The step of 17 R467 that an image fails; 0 when it passes. -/
def imageFails (fuses : List W32) (cap : Nat) (img : List W32) : Nat :=
  let ctl := fuses.getD 18 0
  let key := fld (img.getD 1 0) 0 0
  let len := (img.getD 3 0).toNat
  let bytes := (img.flatMap wordBytes).take len
  let tail := wordsBE (bytes.drop (len - 128))
  let pub := tail.take 16
  let hash := (fuses.drop (8 * key)).take 8
  if !imageShape cap img then 1
  else if (img.getD 2 0).toNat < fusedSvn fuses then 2
  else if !bit ctl 0 then 0
  else if bit ctl (1 + key) || sha256 (pub.flatMap wordBytesBE) != hash then 3
  else if !Config.ecdsaOk pub (sha256 (bytes.take (len - 64))) (tail.drop 16) then 4
  else 0

/-- The SVN fuses are burnt up to n; a fuse bit only goes from 0 to 1. -/
def burnSvn (fuses : List W32) (n : Nat) : List W32 :=
  let m := 2 ^ min n 64 - 1
  (fuses.set 16 (fuses.getD 16 0 ||| w32 m)).set 17 (fuses.getD 17 0 ||| w32 (m / 2 ^ 32))

/-! ## Flash operations (17 R458-R460) -/

def State.flashReply (s : State) (o : FlashOp) (status : Nat) (data : List W32) : State :=
  match o.org with
  | none => s
  | some g => s.answer g o.op (if status ≠ 0 then status else doneStatus false o.gap) o.seq (w32 o.tick) data true

def State.setSess (s : State) (r : Nat) (x : Option Session) : State :=
  { s with store := { s.store with sess := s.store.sess.set r x } }

def State.sess (s : State) (r : Nat) : Option Session := s.store.sess.getD r none

/-- A chunk's turn has come: the status that refuses it, or its session with the target erased at offset 0. -/
def State.startChunk (s : State) (op r offset n : Nat) (final : Bool) : Nat × State :=
  let wrong := (op == 0xA0 && (r == 0 || r == 3)) || (r == 2 && (offset != 0 || n != 192 || !final)) ||
    (offset != 0 && (s.sess r).map (·.next) != some offset)
  if wrong then (stState, s)
  else if bankCap r < offset + 4 * n then (stResource, s)
  else if offset = 0 then
    let t := s.store.target r
    (0, (s.setBank r t.1 Bank.erased).setSess r (some ⟨t.1, t.2, 0, s.time.tick⟩))
  else (0, s.setSess r ((s.sess r).map (fun x => { x with lastTick := s.time.tick })))

/-- The operation at the head starts; chunks that are refused are answered and the next takes its turn. -/
def State.kick : Nat → State → State
  | 0, s => s
  | k + 1, s =>
    match s.store.ops with
    | [] => s
    | o :: rest =>
      if o.started then s
      else
        let run (s : State) : State := { s with store := { s.store with ops := { o with started := true } :: rest } }
        match o.job with
        | .chunk op r offset words final _ =>
          let a := s.startChunk op r offset words.length final
          if a.1 = 0 then run a.2
          else State.kick k ({ a.2 with store := { a.2.store with ops := rest } }.flashReply o a.1 [])
        | _ => run s

def State.kickAll (s : State) : State := State.kick (s.store.ops.length + 1) s

def State.pushFlash (s : State) (o : FlashOp) : State :=
  { s with store := { s.store with ops := s.store.ops ++ [o] } }.kickAll

/-- A whole payload is in force: the header is programmed and the bank read back (17 R458). -/
def State.finishBank (s : State) (r : Nat) (x : Session) (payload : List W32) (readBack : Bool) : Bool × State :=
  let magic := bankMagic r
  let len := w32 (4 * payload.length)
  let s1 := s.setSess r none
  if readBack then (true, s1.setBank r x.toB ⟨magic, x.seq, len, headerCrc magic x.seq len payload, payload⟩)
  else (false, (s1.setBank r x.toB { Bank.erased with payload := payload }).checkFail r x.toB 3)

/-- The payload of region 2 (17 R463). -/
def State.learnedWords (s : State) : List W32 := [s.ref.rate, s.ref.resid, s.ref.hours]

/-- The baselines follow the content of region 2 (08 R222). -/
def State.takeBaselines (s : State) : State :=
  let ws := s.store.payload 2
  { s with gey := { s.gey with chans := s.gey.chans.mapIdx (fun i (c : GChan) => { c with baseline := (ws.getD (3 + i) 0).toNat }) } }

/-- What a new content brings: the key of the node record after the final reply, and the baselines. -/
def State.newContent (s : State) (r : Nat) : State :=
  if r = 1 then { s with host := { s.host with keyNext := some s.store.nodeKey } }
  else if r = 2 then s.takeBaselines
  else s

/-- A chunk ends. -/
def State.endChunk (s : State) (o : FlashOp) (r offset : Nat) (words : List W32) (final advance readBack : Bool) : State :=
  match s.sess r with
  | none => s.flashReply o stState []
  | some x =>
    let old := (s.store.region r).bank x.toB
    let payload := if r = 2 then s.learnedWords ++ words else old.payload.take (offset / 4) ++ words
    let written := w32 (4 * payload.length)
    if !final then
      ((s.setBank r x.toB { old with payload := payload }).setSess r
        (some { x with next := 4 * payload.length, lastTick := s.time.tick })).flashReply o 0 [written]
    else
      let bad := if r = 0 then imageFails s.sys.fuses (bankCap 0) payload else 0
      if bad ≠ 0 then
        (((s.setBank r x.toB { old with payload := payload }).setSess r none).checkFail r x.toB (3 + bad)).flashReply o stStoreFail []
      else
        let a := s.finishBank r x payload readBack
        if a.1 then
          let s1 := a.2.newContent r
          let s2 := if r = 0 && advance then
              { s1 with sys := { s1.sys with fuses := burnSvn s1.sys.fuses (payload.getD 2 0).toNat } } else s1
          s2.flashReply o 0 [written, x.seq]
        else a.2.flashReply o stStoreFail []

/-- The engine's own write of a whole region. -/
def State.ownWrite (s : State) (r : Nat) (payload : List W32) (readBack : Bool) : State :=
  let t := s.store.target r
  (s.finishBank r ⟨t.1, t.2, 0, s.time.tick⟩ payload readBack).2

/-- The fault snapshot (17 R464). -/
def State.snapshotWords (s : State) : List W32 :=
  let f := s.flt
  let pad (n : Nat) (l : List W32) : List W32 := l ++ List.replicate (n - l.length) 0
  [f.status] ++ f.firstWords ++ [w32 f.hist.length] ++ pad 128 (f.hist.flatMap (fun h => h.entry.words)) ++
    pad 1024 ((lastN 256 f.journal).flatMap FltRec.words)

/-- A scene has been read (17 R462): its packets wait for T, or for the first eligible boundary with LATE. The code tells
how the read went: 0 well, 1 no such scene, 2 failed. An active engine mirrors what it has read (R483). -/
def State.sceneRead (s : State) (p : Pend) (code : W32) (body : List W32) : State :=
  let late := p.target ≤ s.time.tick
  let q : Pend := { p with
    par := [p.par.headD 0, code] ++ body
    target := if late then firstTick s.now s.lead else p.target
    late := p.late || late }
  let s1 := { s with host := { s.host with cmds := s.host.cmds ++ [q] } }
  if code = 0 && s1.leads then s1.sendCell (.command 0xA3 q.target q.par) else s1

/-- The operation that runs ends. -/
def State.flashEnds (s : State) (readBack : Bool) : State :=
  match s.store.ops with
  | [] => s
  | o :: rest =>
    let s0 := { s with store := { s.store with ops := rest } }
    let s1 := match o.job with
      | .chunk _ r offset words final advance => s0.endChunk o r offset words final advance readBack
      | .read r offset n =>
        (match s0.store.content r with
         | none => s0.flashReply o stState []
         | some b =>
           let ws := b.words (b.len.toNat / 4)
           let shown := if r = 1 then maskKeys ws.length ws else ws
           s0.flashReply o 0 ([b.seq, b.len] ++ (shown.drop (offset / 4)).take n))
      | .scene p number =>
        (match s0.store.record 2 number with
         | none => s0.sceneRead p 2 []
         | some none => s0.sceneRead p 1 []
         | some (some body) => s0.sceneRead p 0 body)
      | .learned => s0.ownWrite 2 (s0.learnedWords ++ (List.range 192).map (fun i => (s0.store.payload 2).getD (3 + i) 0)) readBack
      | .snapshot => s0.ownWrite 3 s0.snapshotWords readBack
    s1.kickAll

/-- The operation that runs exceeds twice the maximum time of the SFDP tables. -/
def State.flashTimeout (s : State) : State :=
  match s.store.ops with
  | [] => s
  | o :: rest =>
    let s0 := { s with store := { s.store with ops := rest } }
    let s1 := match o.job with
      | .scene p _ => s0.sceneRead p 2 []
      | .chunk _ r _ _ _ _ =>
        let gone := Config.freeBool s0.fresh
        let s2 := { s0 with fresh := s0.fresh + 1 }
        (if gone then s2.setSess r none else s2).flashReply o stStoreFail []
      | _ => s0.flashReply o stStoreFail []
    s1.kickAll

/-! ## Commands (18 R504-R507) -/

/-- The row of an immediate packet. -/
def State.immediate (s : State) (op : Nat) (h : CmdHead) (p : List W32) (run : Cmd → State → State) : State :=
  (s.goto h.t).receive h.chan h.src (commandWords h op p) run

/-- A host error in a store packet: nothing is fixed of its effect but its reply. -/
def State.storeError (s : State) (c : Cmd) : State :=
  (s.hostError .store).sendReply c.chan c.src c.op (doneStatus false c.gap) c.seq s.tick32 [] true

def Cmd.flash (c : Cmd) (job : FlashJob) (s : State) : State :=
  s.pushFlash ⟨job, c.op, some c.origin, c.seq, c.gap, s.time.tick, false⟩

def takeStoreWrite (c : Cmd) (s : State) : State :=
  let w := pw c.par 3
  let r := fld w 31 28
  let off := (pw c.par 4).toNat
  if 4 ≤ r || fld w 26 0 != 0 || off % 4 != 0 then s.storeError c
  else c.flash (.chunk 0xA0 r off (c.par.drop 2) (bit w 27) false) s

def takeFwUpdate (c : Cmd) (s : State) : State :=
  let w := pw c.par 3
  let off := (pw c.par 4).toNat
  if fld w 31 28 != 0 || fld w 25 0 != 0 || off % 4 != 0 then s.storeError c
  else c.flash (.chunk 0xA4 0 off (c.par.drop 2) (bit w 27) (bit w 27 && bit w 26)) s

def takeStoreRead (c : Cmd) (s : State) : State :=
  let w := pw c.par 3
  let r := fld w 31 28
  let off := (pw c.par 4).toNat
  let n := fld (pw c.par 5) 9 0
  if 4 ≤ r || fld w 27 0 != 0 || off % 4 != 0 || fld (pw c.par 5) 31 10 != 0 || n == 0 || 1018 < n then s.storeError c
  else c.flash (.read r off n) s

/-- The region on which an operation works. -/
def FlashJob.region : FlashJob → Nat
  | .chunk _ r _ _ _ _ => r
  | .read r _ _ => r
  | .scene _ _ => 1
  | .learned => 2
  | .snapshot => 3

/-- The four words of 18 Table 18-10. -/
def State.storeWords (s : State) (r : Nat) : List W32 :=
  let g := s.store.region r
  let va := g.a.valid r
  let vb := g.b.valid r
  let c := s.store.contentBank r
  let busy := match s.store.ops with
    | o :: _ => o.job.region == r
    | [] => false
  [pack [(b2n va, 31), (b2n vb, 30), (b2n (c.getD false), 29), (b2n c.isNone, 28), (b2n (s.sess r).isSome, 27), (b2n busy, 26)],
    if va then g.a.seq else 0, if vb then g.b.seq else 0, w32 (((s.sess r).map (·.next)).getD 0)]

def takeStoreStatus (c : Cmd) (s : State) : State :=
  s.sendReply c.chan c.src c.op (doneStatus false c.gap) c.seq s.tick32 ((List.range 4).flatMap s.storeWords) true

/-! ## Startup (17 R471) -/

/-- The startup scene of the node record is loaded with SCENE_LOAD and apply tick 0. -/
def State.startScene (s : State) : State :=
  if s.store.startup = 0 then s else s.schedule .mirror 0xA3 0 [w32 s.store.startup] 0 false false false

/-! ## The meanings of the rows -/

def execStoreWrite (h : CmdHead) (p : List W32) (s : State) : Host.Outcome State Fault Refusal := .next (s.immediate 0xA0 h p takeStoreWrite)

def execStoreRead (h : CmdHead) (p : List W32) (s : State) : Host.Outcome State Fault Refusal := .next (s.immediate 0xA1 h p takeStoreRead)

def execStoreStatus (h : CmdHead) (p : List W32) (s : State) : Host.Outcome State Fault Refusal := .next (s.immediate 0xA2 h p takeStoreStatus)

def execFwUpdate (h : CmdHead) (p : List W32) (s : State) : Host.Outcome State Fault Refusal := .next (s.immediate 0xA4 h p takeFwUpdate)

/-- The running flash operation ends; readBack tells that a final read-back matched. -/
def execFlashOperationComplete (t : Nat) (readBack : Bool) (s : State) : Host.Outcome State Fault Refusal :=
  let s := s.goto t
  .next (if s.sys.ctrlAlive then s.flashEnds readBack else s)

def execFlashOperationTimeout (t : Nat) (s : State) : Host.Outcome State Fault Refusal :=
  let s := s.goto t
  .next (if s.sys.ctrlAlive then s.flashTimeout else s)

/-- 10 s without a chunk (17 R459). -/
def execStoreSessionTimeout (t region : Nat) (s : State) : Host.Outcome State Fault Refusal :=
  let s := s.goto t
  onUnit (region < 4) (match s.sess region with
    | some x => if x.lastTick + 240000 ≤ s.time.tick then s.setSess region none else s
    | none => s)

end Sys2Proof.Machine
end

