-- ==== Sys2Proof/Machine/Conduit.lean ====
section
/-! DEFINITION. The Conduit (15 R403-R417): the address map, the master-target matrix and the windows, what a transaction
reads and writes, and the arbitration, starvation and locks of the targets. -/

namespace Sys2Proof.Machine
open Sys2Proof

/-! ## Address map and reach -/

/-- The size of one Basin bank. -/
def basinBank : Nat := 0x600000

/-- End of the usable external memory: seven eighths of the fitted capacity (15 R405). -/
def State.extEnd (s : State) : Nat := 0x100000000 + s.sys.extGiB * 2 ^ 30 * 7 / 8

/-- The target of an internal address (15 Table 15-1, R405); 13 is the default target. -/
def State.target (s : State) (a : Nat) : Nat :=
  if a < 0x40000 then 0
  else if 0x10000000 ≤ a ∧ a < 0x10200000 then 1
  else if 0x20000000 ≤ a ∧ a < 0x20000000 + 4 * basinBank then 2 + (a - 0x20000000) / basinBank
  else if 0x40000000 ≤ a ∧ a < 0x41400000 then 6
  else if 0x60000000 ≤ a ∧ a < 0x60200000 then 7
  else if 0x70000000 ≤ a ∧ a < 0x70240000 then 8
  else if 0x78000000 ≤ a ∧ a < 0x78030000 then 8
  else if 0x80000000 ≤ a ∧ a < 0x90000000 then 9
  else if 0x100000000 ≤ a ∧ a < s.extEnd then 10 + (a / 256) % 2
  else if 0x1000000000 ≤ a ∧ a < 0x2000000000 then 12
  else 13

/-- The switchable island that an address needs (01 Table 1-1), if any. -/
def addrIsland (a : Nat) : Option Nat :=
  if 0x40000000 ≤ a ∧ a < 0x41000000 then some (4 + (a - 0x40000000) / 0x400000)
  else if 0x41000000 ≤ a ∧ a < 0x41400000 then some (4 + (a - 0x41000000) / 0x100000)
  else if 0x60000000 ≤ a ∧ a < 0x60200000 then some 8
  else if 0x100000000 ≤ a ∧ a < 0x500000000 then some 15
  else none

/-- The switchable island of a master (01 Table 1-1, 15 Table 15-2); CM12 serves two. -/
def masterIsland (m : Nat) : Option Nat :=
  match m with
  | 4 => some 4
  | 5 => some 5
  | 6 => some 6
  | 7 => some 7
  | 8 => some 8
  | 10 => some 11
  | 11 => some 12
  | _ => none

/-- Reach of 15 Table 15-2: 0 no path, 1 fixed, 2 through a window. -/
def reach (m t : Nat) : Nat :=
  let basin := decide (2 ≤ t ∧ t ≤ 5)
  let ext := decide (t = 10 ∨ t = 11)
  match m with
  | 0 => if t == 12 then 2 else if t < 12 then 1 else 0
  | 1 => if t == 1 || basin || t == 9 then 1 else 0
  | 2 => if t == 0 || t == 9 || 13 ≤ t then 0 else 2
  | 3 => if t == 0 || t == 9 || 13 ≤ t then 0 else 2
  | 9 => if basin || t == 8 then 1 else 0
  | 10 => if t == 1 || basin || t == 6 || t == 7 || t == 8 || ext then 1 else 0
  | _ =>
    if decide (4 ≤ m ∧ m ≤ 7) then (if basin then 1 else if t == 6 || ext then 2 else 0)
    else if basin && decide (m < 13) then 1 else 0

/-- The lowest-numbered enabled window that contains the address and lists the master (15 R407). -/
def State.window (s : State) (m a : Nat) : Option Window :=
  s.cond.wins.find? (fun w => w.enable && w.masters.testBit m && decide (w.base ≤ a ∧ a < w.base + 2 ^ w.size))

/-- The queue port blocks (15 R426). -/
def isQueueBlock (a : Nat) : Bool := decide (0x78000000 ≤ a ∧ a < 0x78030000)

/-- An address that a queue block answers: a listed offset of a queue 0-5. -/
def queueListed (a : Nat) : Bool :=
  decide ((a - 0x78000000) / 0x1000 % 8 < 6) && (a % 0x1000) ∈ [0x000, 0x008, 0x010, 0x018]

/-- A master's access of this direction is permitted (15 R406, R407, R426), and its island stands (15 R432). -/
def State.permits (s : State) (m a : Nat) (wr : Bool) : Bool :=
  let up := match addrIsland a with
    | some i => s.islandOn i
    | none => true
  up && (!isQueueBlock a || queueListed a) &&
    (match reach m (s.target a) with
     | 1 => true
     | 2 => (match s.window m a with
             | some w => if wr then w.wr else w.rd
             | none => false)
     | _ => false)

/-! ## Queue port blocks (15 R426-R431) -/

def qPort (q : Nat) : Nat := q / 16

def qIsTx (q : Nat) : Bool := q / 8 % 2 == 1

def State.queue (s : State) (q : Nat) : Queue :=
  let p := s.port (qPort q)
  (if qIsTx q then p.txq else p.rxq).getD (q % 8) (Queue.init 0 75 50)

def State.setQueue (s : State) (q : Nat) (x : Queue) : State :=
  let p := s.port (qPort q)
  s.setPort (qPort q) (if qIsTx q then { p with txq := p.txq.set (q % 8) x } else { p with rxq := p.rxq.set (q % 8) x })

/-- The words a queue holds, committed or not (15 Table 15-13). -/
def Queue.level (q : Queue) : Nat :=
  (q.pkts.map (fun p => p.words.length)).sum - q.read + (match q.part with
    | some w => w.length
    | none => 0)

/-- The size of a queue in words. -/
def Queue.words (q : Queue) : Nat := q.size * 1024

/-- The watermark flag follows the level with hysteresis (15 R429). -/
def Queue.reflag (q : Queue) : Queue :=
  let l := q.level * 100
  { q with flag := if q.words * q.high ≤ l then true else if l ≤ q.words * q.low then false else q.flag }

/-- The status word at 0x018 of a port block (15 Table 15-13). -/
def Queue.statusWord (q : Queue) : W32 :=
  pack [(b2n q.flag, 31), (b2n (!q.pkts.isEmpty), 30), (b2n q.part.isSome, 29), (min 511 q.pkts.length, 19), (q.level, 0)]

/-- A read of DATA: the next word of the head packet, or VALID = 0 (15 R427). -/
def Queue.readData (q : Queue) : Option W32 × Queue :=
  if q.truncated then (none, { q with truncated := false })
  else
    match q.pkts with
    | [] => (none, q)
    | p :: t =>
      match p.words[q.read]? with
      | none => (none, { q with pkts := t, read := 0 }.reflag)
      | some w =>
        if q.read + 1 = p.words.length then (some w, { q with pkts := t, read := 0 }.reflag)
        else (some w, { q with read := q.read + 1 }.reflag)

/-- A word written to DATA; the second part tells whether the packet overflowed here (15 R427). -/
def Queue.writeData (q : Queue) (w : W32) : Queue × Bool :=
  if q.discard then (q, false)
  else if q.words < q.level + 1 then ({ q with part := none, discard := true }.reflag, true)
  else ({ q with part := some ((q.part.getD []) ++ [w]) }.reflag, false)

/-- REWIND: a transmit queue loses its uncommitted words, a receive queue the rest of its head packet. -/
def Queue.rewind (q : Queue) (tx : Bool) : Queue :=
  if tx then { q with part := none, discard := false }.reflag
  else { q with pkts := q.pkts.drop 1, read := 0 }.reflag

/-! ## What a transaction moves -/

/-- The end of the delay pool (03 R75). -/
def State.poolEnd (s : State) : Nat := 0x100000000 + min 2048 ((s.extEnd - 0x100000000) / 0xC0000) * 0xC0000

/-- A byte as a master reads it: the view of MW2 at the top of the Basin (19 R520), the register file at CT9, a free value
where the spec lays nothing out and in the delay pool, memory elsewhere. -/
def State.busByte (s : State) (a : Nat) : Byte :=
  let free : Byte := BitVec.ofInt 8 (Config.freeInt s.fresh a)
  if 0x21600000 ≤ a ∧ a < 0x21800000 then
    (wordBytes (s.mw2Word ((a - 0x21600000) / 4 * 4))).getD (a % 4) 0
  else
    match s.target a with
    | 0 => free
    | 7 => free
    | 9 => if a < 0x80010000 then (wordBytes (s.regWord .ctrl ((a - 0x80000000) / 4 * 4))).getD (a % 4) 0 else free
    | 12 => free
    | _ => if 0x100000000 ≤ a ∧ a < s.poolEnd then free else memRead s.mem a

def State.busBytes (s : State) (a n : Nat) : List Byte := (List.range n).map (fun i => s.busByte (a + i))

/-- The blocks that own the areas of the Basin's top 2 MiB (19 R521). -/
def topOwner (a : Nat) : Blk :=
  if a < 0x21690000 then .pcie
  else if a < 0x21720000 then .meters
  else if a < 0x217C0000 then .journal
  else .tdm

/-- A write of bytes by a master. A write into the reserved top of the Basin (19 R521) or into the delay pool (03 R75) is a host
error; CT9 takes whole words; what lies behind CT12 is outside the engine. -/
def State.busWrite (s : State) (a : Nat) (d : List Byte) : State :=
  if 0x21600000 ≤ a ∧ a < 0x21800000 then s.hostError (topOwner a)
  else if 0x100000000 ≤ a ∧ a < s.poolEnd then s.hostError .delay
  else
    match s.target a with
    | 9 =>
      if a < 0x80010000 then
        match d with
        | [b0, b1, b2, b3] => s.regWrite .ctrl (a - 0x80000000) (bytesWord b0 b1 b2 b3) (a % 4 == 0)
        | _ => s
      else s
    | 12 => s
    | 0 => s
    | _ => { s with mem := memWrites s.mem a d }

/-- BUS_DECODE: the default target answered (15 Table 15-4). -/
def State.busDecode (s : State) (m a : Nat) : State := s.raise 0x02 m 0x03 (w32 a)

/-! ## Arbitration -/

def State.prio (s : State) (t m : Nat) : Nat := ((s.cond.classes.getD t []).getD m 0)

/-- A request ranks before another at one target (15 R410). -/
def State.reqBefore (s : State) (a b : BusReq) : Bool :=
  let ca := s.prio a.target a.master
  let cb := s.prio b.target b.master
  decide (cb < ca ∨ (ca = cb ∧ (a.stamp < b.stamp ∨ (a.stamp = b.stamp ∧ a.master < b.master))))

/-- A transaction of one beat (15 R403). -/
def BusReq.single (r : BusReq) : Bool :=
  let n := match r.op with
    | .rd n => n
    | .wr d => d.length
  decide (r.addr % 32 + n ≤ 32)

/-- The best request at a target; while its lock is held, only the holder's (15 R413). A granted transaction of one beat
that has begun cannot be preempted (15 R411). -/
def State.arbPick (s : State) (t : Nat) : Option BusReq :=
  let mine := s.cond.reqs.filter (fun r => r.target == t)
  let open' := match s.cond.locks.find? (fun l => l.target == t) with
    | some l => mine.filter (fun r => r.holder == l.holder)
    | none => mine
  match mine.find? (fun r => r.single && (match r.granted with
    | some g => decide (g < s.time.mono)
    | none => false)) with
  | some r => some r
  | none => (sortBy s.reqBefore open').head?

/-- A request that a broken lock's holder still issues is answered with an error until its RELEASE (15 R415). -/
def State.isBroken (s : State) (holder : Nat) : Bool := s.cond.broken.contains holder

/-- Marks the winner of each arbitration as granted; a granted request that a higher class preempts goes back to waiting
with its stamp (15 R411). -/
def State.arbitrate (s : State) (t : Nat) : State :=
  match s.arbPick t with
  | none => s
  | some w =>
    { s with cond := { s.cond with reqs := s.cond.reqs.map (fun r =>
        if r.target != t then r
        else if r.master == w.master && r.stamp == w.stamp then
          { r with granted := some (r.granted.getD s.time.mono) }
        else { r with granted := none }) } }

/-- A request arrives at its target's arbiter, or the default target answers it (15 R403, R406, R410). -/
def State.busRequest (s : State) (m a : Nat) (op : BusOp) (lock release : Bool) (holder : Nat) : State :=
  let wr := match op with
    | .wr _ => true
    | .rd _ => false
  if s.isBroken holder then
    let s1 := s.raise 0x02 m 0x05 (w32 a)
    let s2 := s1.emit (.bus m a false [])
    if release then { s2 with cond := { s2.cond with broken := s2.cond.broken.filter (· != holder) } } else s2
  else if s.permits m a wr then
    let t := s.target a
    let r : BusReq := ⟨t, m, a, op, s.time.mono, none, false, lock, release, holder, false⟩
    { s with cond := { s.cond with reqs := s.cond.reqs ++ [r] } }.arbitrate t
  else (s.busDecode m a).emit (.bus m a false [])

/-- The granted request at a target. -/
def State.grantedAt (s : State) (t : Nat) : Option BusReq := s.cond.reqs.find? (fun r => r.target == t && r.granted.isSome)

def State.dropReq (s : State) (r : BusReq) : State := { s with cond := { s.cond with reqs := s.cond.reqs.erase r } }

/-- Locks follow a completed request: LOCK takes the target's lock, RELEASE gives every lock of the holder back. -/
def State.lockStep (s : State) (r : BusReq) : State :=
  if r.release then { s with cond := { s.cond with locks := s.cond.locks.filter (fun l => l.holder != r.holder) } }
  else if r.lock && !(s.cond.locks.any (fun l => l.target == r.target)) then
    { s with cond := { s.cond with locks := s.cond.locks ++ [⟨r.target, r.holder, r.master, s.time.mono⟩] } }
  else s

/-- A write to the PCIe outbound range leaves the engine at its translated address (15 R407). -/
def State.toHost (s : State) (m a : Nat) (d : List Byte) : State :=
  match s.window m a with
  | some w => if s.target a = 12 then s.emit (.hostWrite (w.translate + (a - w.base)) d) else s
  | none => s

/-- What a granted request to anything but a queue block does. -/
def State.plainMove (s : State) (r : BusReq) : State :=
  match r.op with
  | .rd n => ({ s with fresh := s.fresh + 1 }).emit (.bus r.master r.addr true (s.busBytes r.addr n))
  | .wr d => ((s.busWrite r.addr d).toHost r.master r.addr d).emit (.bus r.master r.addr true [])

/-- The granted transaction of a target ends: it moves its data and answers OK, or the target answers with an error of its
own (15 R403, R409). -/
def State.busComplete (s : State) (t : Nat) (ok : Bool) (move : State → BusReq → State) : State :=
  match s.grantedAt t with
  | none => s
  | some r =>
    let s1 := (s.dropReq r).lockStep r
    let s2 :=
      if !ok then s1.emit (.bus r.master r.addr false []) else move s1 r
    s2.arbitrate t

/-- A granted transaction not answered within 16,384 cycles (15 Table 15-4). -/
def State.busTimeout (s : State) (t : Nat) : State :=
  match s.grantedAt t with
  | none => s
  | some r =>
    if r.granted.getD 0 + 16384 ≤ s.time.mono then
      (((s.dropReq r).lockStep r).raise 0x02 r.master 0x04 (w32 r.addr)).emit (.bus r.master r.addr false [])
        |>.arbitrate t
    else s

/-- A request that has waited longer than STARVE cycles is reported once (15 R414). -/
def State.starve (s : State) (t m : Nat) : State :=
  match s.cond.reqs.find? (fun r => r.target == t && r.master == m && r.granted.isNone && !r.starved) with
  | none => s
  | some r =>
    let w := s.time.mono - r.stamp
    if s.cond.starve = 0 ∨ w ≤ s.cond.starve then s
    else
      let s1 := { s with cond := { s.cond with reqs := s.cond.reqs.map (fun q => if q == r then { q with starved := true } else q) } }
      let s2 := s1.raise 0x02 m 0x06 (pack [(t, 24), (min 65535 (w / 16), 0)])
      s2.event 0xE9 [pack [(t, 28), (m, 24)], w32 (min 0xFFFFFFFF w), s.tick32]

/-- The lock watchdog of a target bites (15 R415): the lock breaks, the holder's other locks are released, its
outstanding requests are answered with errors, and so are later ones until its RELEASE, unless that is among them. The fault names the DMA channel
of a DMA holder. -/
def State.lockTimeout (s : State) (t : Nat) : State :=
  match s.cond.locks.find? (fun l => l.target == t) with
  | none => s
  | some l =>
    if s.time.mono < l.since + s.cond.lockWd then s
    else
      let mine := s.cond.reqs.filter (fun r => r.holder == l.holder)
      let s1 := { s with cond := { s.cond with
        locks := s.cond.locks.filter (fun k => k.holder != l.holder)
        broken := if mine.any (fun r => r.release) then s.cond.broken else s.cond.broken ++ [l.holder]
        reqs := s.cond.reqs.filter (fun r => r.holder != l.holder) } }
      let s2 := s1.raise 0x02 l.master 0x05 (pack [(t, 24), (l.holder % 32, 0)])
      (mine.foldl (fun s r => s.emit (.bus r.master r.addr false [])) s2).arbitrate t

/-! ## WINDOW_CONFIG and ARB_CONFIG -/

/-- A window covers addresses of a range. -/
def Window.meets (w : Window) (lo hi : Nat) : Bool := decide (w.base < hi ∧ lo < w.base + 2 ^ w.size)

/-- A window that lets a master write into the reserved top of the Basin, the delay pool or a running core's instruction
memory, or any CT target but CT12 with a translation (15 R407, 03 R75, 19 R521). -/
def Window.badFor (w : Window) (s : State) : Bool :=
  (w.enable && w.wr && (w.meets 0x21600000 0x21800000 || w.meets 0x100000000 s.poolEnd ||
    (List.range 64).any (fun n => (s.vent.cores.getD n Core.init).st == .running && w.meets (0x41000000 + n * 0x10000) (0x41010000 + n * 0x10000)))) ||
    (w.enable && w.translate != 0 && decide (w.base < 0x1000000000 ∨ 0x2000000000 < w.base + 2 ^ w.size))

/-- 15 R408, Table 15-3. -/
def applyWindowConfig (p : List W32) (s : State) : Ans :=
  let w3 := pw p 3
  let size := fld w3 20 15
  let base := fld (pw p 4) 27 0
  let w : Window := ⟨bit w3 31, bit w3 30, bit w3 29, (if bit w3 21 then 1 else 0) ||| (fld w3 28 23 <<< 2), size, base * 4096,
    fld (pw p 5) 31 12 * 4096 + (pw p 6).toNat * 2 ^ 32⟩
  let bad := bit w3 22 || decide (size < 12 ∨ 40 < size) || fld w3 14 4 != 0 || fld (pw p 4) 31 28 != 0 || fld (pw p 5) 11 0 != 0
    || base % 2 ^ (size - 12) != 0 || w.badFor s
  let s1 := { s with cond := { s.cond with wins := s.cond.wins.set (fld w3 3 0) w } }
  .ok (if bad then s1.hostError .conduit else s1)

/-- 15 R417, Table 15-5: classes of one target, or the thresholds; a change of class re-arbitrates (R412). -/
def applyArbConfig (p : List W32) (s : State) : Ans :=
  let w3 := pw p 3
  if bit w3 31 then
    let st := fld (pw p 4) 15 0
    let wd := fld (pw p 5) 23 0
    let bad := fld w3 30 0 != 0 || fld (pw p 4) 31 16 != 0 || fld (pw p 5) 31 24 != 0 || (st != 0 && st < 64) || wd < 1024
      || p.length != 3
    let s1 := { s with cond := { s.cond with starve := st, lockWd := wd } }
    .ok (if bad then s1.hostError .conduit else s1)
  else
    let t := fld w3 3 0
    let cl := (List.range 13).map (fun m => fld (pw p 4) (2 * m + 1) (2 * m))
    let bad := fld w3 30 4 != 0 || 13 ≤ t || fld (pw p 4) 31 26 != 0 || p.length != 2
    let s1 := { s with cond := { s.cond with classes := s.cond.classes.set t cl } }.arbitrate t
    .ok (if bad then s1.hostError .conduit else s1)

/-! ## The meanings of the rows -/

def execWindowConfig (st : Stage) (p : List W32) (s : State) : Host.Outcome State Fault Refusal :=
  .next (s.command 0xB3 st p applyWindowConfig)

def execArbConfig (st : Stage) (p : List W32) (s : State) : Host.Outcome State Fault Refusal :=
  .next (s.command 0xB4 st p applyArbConfig)

def execConduitRequest (t master addr : Nat) (op : BusOp) (lock release : Bool) (holder : Nat) (s : State) :
    Host.Outcome State Fault Refusal :=
  let s := s.goto t
  let idle := match masterIsland master with
    | some i => !s.islandOn i
    | none => false
  onUnit (master < 13) (if idle then s else s.busRequest master addr op lock release holder)

def execBusTimeout (t target : Nat) (s : State) : Host.Outcome State Fault Refusal :=
  onUnit (target < 13) ((s.goto t).busTimeout target)

def execStarvation (t target master : Nat) (s : State) : Host.Outcome State Fault Refusal :=
  onUnit (target < 13 && master < 13) ((s.goto t).starve target master)

def execLockTimeout (t target : Nat) (s : State) : Host.Outcome State Fault Refusal :=
  onUnit (target < 13) ((s.goto t).lockTimeout target)

end Sys2Proof.Machine
end

