-- ==== Sys2Proof/Machine/Fix.lean ====
section
/-! DEFINITION. Fixed-point numbers with 128 fractional bits for the sines, exponentials and decibels that the manual
rounds to at most 31 fractional bits (03 R92, 04 R104, R114, R118). Before each rounding the error stays below 2^-100
(log 18). -/

namespace Sys2Proof.Machine
open Sys2Proof

def fxOne : Int := 2 ^ 128
def fxPi : Int := 1069028584064966747859680373161870783300
def fxLn2 : Int := 235865763225513294137944142764154484399
def fxLn10 : Int := 783529105480883066805338482703447369891

def fxMul (a b : Int) : Int := a * b / fxOne

/-- A fixed-point value rounded half up to n fractional bits. -/
def fxRound (n : Nat) (x : Int) : Int := roundDiv x (2 ^ (128 - n))

/-- Sum of a series: term i + 1 is next i of term i. -/
def fxSeries (next : Nat → Int → Int) : Nat → Nat → Int → Int → Int
  | 0, _, _, sum => sum
  | k + 1, i, term, sum => fxSeries next k (i + 1) (next i term) (sum + term)

/-- e^x. -/
def fxExp (x : Int) : Int :=
  let n := x / fxLn2
  let r := x - n * fxLn2
  let y := fxSeries (fun i t => fxMul t r / ((i : Int) + 1)) 48 0 fxOne 0
  if 0 ≤ n then y * 2 ^ n.toNat else y / 2 ^ (-n).toNat

/-- 10^(a/b). -/
def fxPow10 (a : Int) (b : Nat) : Int := fxExp (a * fxLn10 / b)

/-- sin(2 pi num / den), from the angle in the first quadrant. -/
def fxSin (num den : Nat) : Int :=
  let m := num % den
  let half := decide (den ≤ 2 * m)
  let p := if half then 2 * m - den else 2 * m
  let q := if den < 2 * p then den - p else p
  let x : Int := fxPi * q / den
  let s := fxSeries (fun i t => -(fxMul (fxMul t x) x) / (((2 * i + 2) * (2 * i + 3) : Nat) : Int)) 30 0 x 0
  if half then -s else s

/-- The natural logarithm of n / 2^k, for n above 0. -/
def fxLn (n k : Nat) : Int :=
  let e := n.log2
  let y : Int := (n : Int) * fxOne / 2 ^ e
  let z := (y - fxOne) * fxOne / (y + fxOne)
  let zz := fxMul z z
  let series := fxSeries (fun i t => t * (2 * i + 1 : Nat) / (2 * i + 3 : Nat) * zz / fxOne) 60 0 z 0
  2 * series + ((e : Int) - k) * fxLn2

/-- A level in 0.01 dB of a magnitude n / 2^k (amplitude: 20 log10, else power: 10 log10), rounded; below -144.00 dB it is
the code 0x8000 (04 R118). -/
def levelCode (n k : Nat) (amp : Bool) : Int :=
  if n = 0 then -32768
  else
    let l := fxLn n k * (if amp then 2000 else 1000)
    let v := (2 * l + fxLn10) / (2 * fxLn10)
    if v < -14400 then -32768 else v

/-- The linear value of a gain code in Q5.27, unsigned (04 R104). -/
def gainLin (c : Int) : Int := if c = -32768 then 0 else fxRound 27 (fxPow10 c 2000)

end Sys2Proof.Machine
end

