-- ==== Sys2Proof/Machine/Route.lean ====
section
/-! DEFINITION. Channel addresses and domains, the route table with crossfades, delay slots and bridges, the generators,
the ASRC channels, and the samples that reach a sink (03). -/

namespace Sys2Proof.Machine
open Sys2Proof

/-! ## Samples per tick (01 R12) -/

/-- Samples of a domain before tick t, counted from the epoch. -/
def samplesBefore (f44 : Bool) (d t : Nat) : Nat :=
  if f44 then ceilDiv (t * 147 * 2 ^ d) 80 else t * 2 * 2 ^ d

def tickSamples (f44 : Bool) (d t : Nat) : Nat := samplesBefore f44 d (t + 1) - samplesBefore f44 d t

/-- The rate of a domain in Hz. -/
def domainRate (f44 : Bool) (d : Nat) : Nat := (if f44 then 44100 else 48000) * 2 ^ d

/-- The samples a channel counts against a budget (01 R19). -/
def budgetSamples (d : Nat) : Nat := 2 * 2 ^ d

/-! ## Domains of channels (03 R63, Table 3-1) -/

def addrClass (a : Nat) : Nat := a / 4096

def addrIndex (a : Nat) : Nat := a % 4096

/-- A class whose channels are sinks. -/
def isSinkClass (c : Nat) : Bool := c ∈ [1, 3, 5, 7, 9, 10]

def isSourceClass (c : Nat) : Bool := c ∈ [0, 2, 4, 6, 8, 11, 12]

/-- The indices of a class (03 Table 3-1). -/
def classSize (c : Nat) : Nat :=
  match c with
  | 0 => 4096
  | 1 => 4096
  | 2 => 1024
  | 3 => 1024
  | 4 => 128
  | 5 => 2048
  | 6 => 256
  | 7 => 2048
  | 8 => 2048
  | 9 => 192
  | 10 => 4096
  | 11 => 40
  | 12 => 384
  | _ => 0

/-- A generator index of 03 Table 3-7. -/
def isGenIndex (i : Nat) : Bool := decide (i ≤ 4 ∨ 0x10 ≤ i ∧ i < 0x28)

/-- An address that is not reserved. -/
def addrOk (a : Nat) : Bool :=
  decide (addrIndex a < classSize (addrClass a)) && (addrClass a != 11 || isGenIndex (addrIndex a))

/-- Inputs of a matrix shape (04 Table 4-1). -/
def shapeInputs (sh : Nat) : Nat := match sh with
  | 1 => 2048
  | 2 => 1024
  | 3 => 512
  | _ => 0

def State.vslot (s : State) (output : Bool) (slot : Nat) : Option SlotMap :=
  s.vent.vmap.find? (fun e => e.output == output && e.slot == slot)

/-- The open receive stream that assigns a network channel. -/
def State.rxOf (s : State) (i : Nat) : Option RxSlot :=
  s.strm.rx.find? (fun r => r.st != .closed && decide (r.cfg.base ≤ i ∧ i < r.cfg.base + r.cfg.chans))

/-- The transmit stream of a network channel: an open one, or a closed one whose last data are still to be sent. -/
def State.txOf (s : State) (i : Nat) : Option TxSlot :=
  (s.strm.tx ++ s.strm.oldTx).find? (fun r => r.st != .closed && decide (r.cfg.base ≤ i ∧ i < r.cfg.base + r.cfg.chans))

def State.tport (s : State) (p : Nat) : TPort := s.tdm.ports.getD p (TPort.init p)

def State.tgroup (s : State) (g : Nat) : TGroup := s.tdm.groups.getD g TGroup.init

def State.dctx (s : State) (i : Nat) : DecCtx := s.dec.ctxs.getD i DecCtx.init

def State.ggroup (s : State) (g : Nat) : GGroup := s.gey.groups.getD g GGroup.init

/-- A domain of the family, or none for a rate outside it. -/
def famDomain (d : Nat) : Option Nat := if d < 3 then some d else none

/-- The domain of a sink's assignment; none while it is not assigned. -/
def State.sinkDomain (s : State) (a : Nat) : Option Nat :=
  let i := addrIndex a
  match addrClass a with
  | 1 => (s.txOf i).bind (fun t => famDomain t.cfg.domain)
  | 3 =>
    let p := s.tport (i / 32)
    if p.outEn && decide (i % 32 < p.slots) then famDomain (s.tgroup p.group).domain else none
  | 5 => if i < shapeInputs s.cald.shape then some (s.cald.shape - 1) else none
  | 7 => (s.vslot false i).map (·.domain)
  | 9 => if i < 192 then some (s.ggroup (i / 8)).domain else none
  | _ => none

/-- The domain of the family that a decimator context's rate is, or 3 (07 R188). -/
def decDomain (f44 : Bool) (c : DecCtx) : Nat :=
  if c.domain < 3 then (if f44 then 3 else c.domain)
  else ((List.range 3).find? (fun d => domainRate f44 d == c.rate)).getD 3

/-- A source's assignment: none while it is not assigned; some 3 for a rate that is no domain of the family. -/
def State.srcDomain (s : State) (a : Nat) : Option Nat :=
  match s.route.asrc.find? (fun e => e.2.src == a) with
  | some e => some e.2.domain
  | none =>
    let i := addrIndex a
    match addrClass a with
    | 0 => (s.rxOf i).map (fun r => if r.cfg.foreign || (s.route.family44 && !r.cfg.trunk) then 3 else r.cfg.domain)
    | 2 =>
      let p := s.tport (i / 32)
      if p.inEn && decide (i % 32 < p.slots) then some (s.tgroup p.group).domain else none
    | 4 => if i < 128 && (s.dctx i).enable then some (decDomain s.route.family44 (s.dctx i)) else none
    | 6 => if i < 256 && s.cald.shape != 0 then some (s.cald.shape - 1) else none
    | 8 => (s.vslot true i).map (·.domain)
    | 11 => (kget s.route.gens i).map (·.domain)
    | 12 => if i < 384 && (s.dctx (128 + i)).enable then some (decDomain s.route.family44 (s.dctx (128 + i))) else none
    | _ => none

/-! ## Delay slots and their budget (03 R75-R77, R552) -/

def slotBytes : Nat := 0xC0000

/-- Slots of the pool: 2,048, or fewer with less memory (03 R75). -/
def State.slotCount (s : State) : Nat := min 2048 ((s.extEnd - 0x100000000) / slotBytes)

/-- The terms that a sink's signal still holds, beside the entry's own. -/
def RouteBlk.terms (r : RouteBlk) (sink : Nat) : List Term :=
  match r.fades.find? (fun f => f.sink == sink) with
  | some f => f.outgoing
  | none => []

/-- Slots that an entry or an outgoing term still uses. -/
def RouteBlk.usedSlots (r : RouteBlk) : List Nat :=
  r.entries.filterMap (·.slot) ++ r.fades.flatMap (fun f => f.outgoing.filterMap (·.slot))

/-- Slots that nothing uses are freed (03 R77). -/
def RouteBlk.freeSlots (r : RouteBlk) : RouteBlk :=
  let used := r.usedSlots
  { r with slots := r.slots.filter (fun x => used.contains x.num) }

/-- The lowest slot number that is not in use (log 20). -/
def RouteBlk.lowestFree (r : RouteBlk) : Nat :=
  ((List.range (r.slots.length + 1)).find? (fun k => !(r.slots.any (fun x => x.num == k)))).getD 0

/-- Samples per tick that delayed routes count: the sink's domain, the last domain it had, or 8 (03 R552). -/
def RouteBlk.delayBudget (r : RouteBlk) (dom : Nat → Option Nat) : Nat :=
  (r.slots.map (fun x =>
    match dom x.sink with
    | some d => budgetSamples d
    | none =>
      match (r.entries.find? (fun e => e.sink == x.sink)).bind (·.lastDom) with
      | some d => budgetSamples d
      | none => 8)).sum

/-! ## Crossfades (03 R79-R82) -/

def gainOne : Nat := 2 ^ 30

/-- h(k) in units of 2^-30. -/
def fadeH (k len : Nat) : Nat := if len = 0 then gainOne else (2 * k * gainOne + len) / (2 * len)

/-- A product of two gains, rounded half up. -/
def gainMul (a b : Nat) : Nat := (a * b + gainOne / 2) / gainOne

/-- The outgoing term of the smallest gain goes to that of the largest when three would be held (03 R81). -/
def dropTerm (l : List Term) : List Term :=
  if l.length < 3 then l
  else
    let m := l.foldl (fun a t => min a t.gain) (l.headD ⟨0, false, 0, none, 0⟩).gain
    let i := l.findIdx (fun t => t.gain == m)
    let rest := l.eraseIdx i
    let top := rest.foldl (fun a t => max a t.gain) 0
    let j := rest.length - 1 - rest.reverse.findIdx (fun t => t.gain == top)
    rest.modify j (fun t => { t with gain := t.gain + m })

/-- The terms that a sink holds at a boundary with the gains of the last sample before it (03 R79, R81, R82). -/
def RouteBlk.heldTerms (r : RouteBlk) (sink : Nat) : List Term :=
  let own (g : Nat) : List Term :=
    match r.entries.find? (fun e => e.sink == sink) with
    | some e => if e.clearing then [] else [⟨e.src, e.inv, e.delay, e.slot, g⟩]
    | none => []
  match r.fades.find? (fun f => f.sink == sink) with
  | none => own gainOne
  | some f =>
    let h := fadeH f.k f.len
    let out := f.outgoing.map (fun t => { t with gain := gainMul t.gain (gainOne - h) })
    dropTerm ((out ++ own h).filter (fun t => t.gain != 0))

/-- Replaces the crossfade of a sink, if its new length is not 0. -/
def RouteBlk.startFade (r : RouteBlk) (sink len : Nat) (out : List Term) : RouteBlk :=
  let rest := r.fades.filter (fun f => f.sink != sink)
  { r with fades := if len = 0 then rest else rest ++ [⟨sink, out, len, 0⟩] }

def RouteBlk.entry (r : RouteBlk) (sink : Nat) : Option RouteEntry := r.entries.find? (fun e => e.sink == sink)

def RouteBlk.putEntry (r : RouteBlk) (e : RouteEntry) : RouteBlk :=
  { r with entries := insertBy (fun a b => decide (a.sink < b.sink)) e (r.entries.filter (fun x => x.sink != e.sink)) }

/-- One ROUTE_SET entry takes effect (03 R66, R77, R79, R80). dom is the domain of the sink's assignment. -/
def RouteBlk.setEntry (r : RouteBlk) (dom : Option Nat) (sink src : Nat) (inv : Bool) (xfade delay : Nat) : RouteBlk :=
  let tap := addrClass sink == 10
  let old := r.entry sink
  let same := match old with
    | some o => o.src == src && o.inv == inv && o.xfade == xfade && o.delay == delay && !o.clearing
    | none => false
  if same then r
  else
    let out := r.heldTerms sink
    let keep := match old with
      | some o => if o.src == src && !o.clearing then o.slot else none
      | none => none
    let fresh := r.lowestFree
    let slot := if delay = 0 || tap then none else some (keep.getD fresh)
    let e : RouteEntry := ⟨sink, src, inv, xfade, delay, slot, (match dom with
      | some d => some d
      | none => old.bind (·.lastDom)), false⟩
    let r1 := r.putEntry e
    let r2 := if slot.isSome && keep.isNone then { r1 with slots := r1.slots ++ [⟨fresh, sink, []⟩] } else r1
    (r2.startFade sink (if tap || dom.isNone then 0 else xfade) out).freeSlots

/-- ROUTE_CLEAR of one sink: it fades out over the entry's XFADE, then the entry goes (03 R80, 18 R498). -/
def RouteBlk.clearEntry (r : RouteBlk) (dom : Option Nat) (sink : Nat) : RouteBlk :=
  match r.entry sink with
  | none => r
  | some e =>
    if e.clearing then r
    else if e.xfade = 0 || dom.isNone || addrClass sink == 10 then
      (({ r with entries := r.entries.filter (fun x => x.sink != sink) }).startFade sink 0 []).freeSlots
    else
      let out := r.heldTerms sink
      (r.putEntry { e with clearing := true, slot := none }).startFade sink e.xfade out

/-- A sink's crossfade has reached its last sample: the outgoing set goes, and so does a cleared entry (03 R79, R80). -/
def RouteBlk.endFade (r : RouteBlk) (sink : Nat) : RouteBlk :=
  ({ r with
    fades := r.fades.filter (fun f => f.sink != sink)
    entries := r.entries.filter (fun e => !(e.sink == sink && e.clearing)) }).freeSlots

/-! ## Bridges (03 R85) -/

/-- The bridges that the routes need, each a source with its target domain. A generator without a domain needs none. -/
def State.needBridges (s : State) (r : RouteBlk) : List (Nat × Nat) :=
  let one (sink src : Nat) : List (Nat × Nat) :=
    if addrClass sink == 10 then []
    else
      match s.sinkDomain sink, s.srcDomain src with
      | some d, some f => if f < 3 && f != d then [(src, d)] else []
      | some _, none => []
      | none, _ => []
  let all := r.entries.flatMap (fun e => one e.sink e.src) ++
    r.fades.flatMap (fun f => f.outgoing.flatMap (fun t => one f.sink t.src))
  let held := (r.bridges.filter (·.held)).map (fun b => (b.src, b.target))
  (all ++ held).eraseDups

/-- The routes keep to the limits of 03 Table 3-9. -/
def State.routesFit (s : State) (r : RouteBlk) : Bool :=
  decide (r.entries.length ≤ 8192 ∧ r.slots.length ≤ 2048 ∧ r.slots.length ≤ s.slotCount ∧
    r.delayBudget s.sinkDomain ≤ 8192 ∧ (s.needBridges r).length ≤ 1024)

/-- The bridges in use follow the routes; a bridge that stays keeps its hold. -/
def State.reBridge (s : State) (r : RouteBlk) : RouteBlk :=
  { r with bridges := (s.needBridges r).map (fun p =>
      ⟨p.1, p.2, r.bridges.any (fun b => b.src == p.1 && b.target == p.2 && b.held)⟩) }

/-! ## A sink's assignment changes (03 R552) -/

/-- Crossfades of the sinks end, their delay slots start empty and count in the new domain. -/
def RouteBlk.resetSinks (r : RouteBlk) (dom : Nat → Option Nat) (sinks : List Nat) : RouteBlk :=
  let r1 := sinks.foldl (fun r x => r.endFade x) r
  { r1 with
    slots := r1.slots.map (fun x => if sinks.contains x.sink then { x with samples := [] } else x)
    entries := r1.entries.map (fun e =>
      if sinks.contains e.sink then { e with lastDom := match dom e.sink with
        | some d => some d
        | none => e.lastDom } else e) }

/-- The sinks of the table and the fades whose domain differs between two states. -/
def State.changedSinks (s before : State) : List Nat :=
  (s.route.entries.map (·.sink)).filter (fun a => addrClass a != 10 && s.sinkDomain a != before.sinkDomain a)

/-- The pseudo opcode under which a change of assignments is kept for the samples still to be processed. -/
def opSinksChanged : Nat := 0x1FF

/-- The same of the end of the silence after a family change. -/
def opMuteEnds : Nat := 0x1FE

/-- A command has changed assignments: refused with RESOURCE where the routes no longer fit (03 R552), else the sinks
start anew. before is the state in which it began. -/
def State.reassign (s before : State) : Ans :=
  let ch := s.changedSinks before
  let r := s.route.resetSinks s.sinkDomain ch
  if s.routesFit r then
    let s1 := { s with route := s.reBridge r }
    .ok (if ch.isEmpty then s1
      else { s1 with
        back := some before.governing
        lateOps := s1.lateOps ++ [(opSinksChanged, ch.map w32)] })
  else .refuse stResource before

/-! ## Generators (03 R92-R94) -/

/-- The level of a configuration, in units of 2^-128. -/
def Gen.level (g : Gen) : Int := if g.enable then fxPow10 (-(g.atten : Int)) 200 else 0

/-- The level at the k-th sample of a running ramp. -/
def Gen.levelAt (g : Gen) (k : Nat) : Int :=
  match g.ramp with
  | none => g.level
  | some (old, made) =>
    let n := made + k
    if 64 ≤ n then g.level else old + (g.level - old) * n / 64

/-- A new configuration of a generator (03 R93). -/
def reGen (old : Option Gen) (sine : Bool) (domain : Nat) (enable : Bool) (atten freq tick : Nat) : Gen :=
  match old with
  | none => ⟨domain, enable, atten, freq, 0, tick, none⟩
  | some o =>
    let keep := sine && o.domain == domain && o.freq == freq && o.enable && enable
    let n : Gen := ⟨domain, enable, atten, freq, if keep then o.phase else 0, if keep then o.start else tick, none⟩
    if o.enable == enable && (o.atten == atten || !enable) && o.ramp.isNone then n
    else { n with ramp := some (o.levelAt 0, 0) }

/-- The samples of a generator in tick t, and the generator after them. Pink noise is a free value (log 11). -/
def Gen.samples (g : Gen) (i : Nat) (f44 : Bool) (t key : Nat) : List Sample × Gen :=
  let n := tickSamples f44 g.domain t
  let fs := domainRate f44 g.domain
  let base := samplesBefore f44 g.domain t
  let one (j : Nat) : Sample :=
    let lev := g.levelAt (j + 1)
    if i ≤ 4 then (if lev = 0 then 0 else satQ31 (Config.freeInt key j))
    else
      let p := if i < 0x20 then g.phase + j else base + j
      satQ31 (fxRound 31 (fxMul (fxSin (g.freq * p) fs) lev))
  let ramp := match g.ramp with
    | some (o, m) => if m + n < 64 then some (o, m + n) else none
    | none => none
  ((List.range n).map one, { g with phase := g.phase + n, ramp := ramp })

/-! ## The samples that reach a sink -/

/-- When a source's samples are produced and a sink's are consumed, in the order of 01 Table 1-3 (03 R72). -/
def State.produced (s : State) (src : Nat) : Nat :=
  match addrClass src with
  | 8 => match s.vslot true (addrIndex src) with
    | some e => if e.post then 6 else 2
    | none => 0
  | 6 => 4
  | _ => 0

def State.consumed (s : State) (sink : Nat) : Nat :=
  match addrClass sink with
  | 7 => match s.vslot false (addrIndex sink) with
    | some e => if e.post then 6 else 2
    | none => 8
  | 5 => 3
  | _ => 8

/-- A feedback route (03 R72). -/
def State.isFeedback (s : State) (sink src : Nat) : Bool := decide (s.consumed sink < s.produced src)

/-- The shift of a feedback route in samples of the sink's domain. -/
def feedbackShift (d : Nat) : Nat := 2 * 2 ^ d

/-- The key under which the converted samples of a source stand (03 R87). -/
def asrcKey (a : Nat) : Nat := 0x10000 + a

/-- The samples of a source in its own domain for the tick being processed: what its block produced. -/
def State.srcSamples (s : State) (a : Nat) : List Sample :=
  if s.route.asrc.any (fun e => e.2.src == a) then kgetD s.aud.src (asrcKey a) []
  else if addrClass a == 8 then kgetD s.vent.outs (addrIndex a) [] else kgetD s.aud.src a []

/-- A source's samples are there: those of a Vent output slot or a bus once they are produced. -/
def State.srcPresent (s : State) (a : Nat) : Bool :=
  if s.route.asrc.any (fun e => e.2.src == a) then true
  else match addrClass a with
  | 8 => (s.vslot true (addrIndex a)).isNone || (kget s.vent.outs (addrIndex a)).isSome
  | 6 => s.cald.shape == 0 || s.cald.done
  | _ => true

/-- n samples of a source as a sink of domain d takes them before any delay, with the state in which a bridge's free
values have been drawn. A source whose assignment has just ended still carries what it captured. -/
def State.fetchSource (s : State) (sink src d n : Nat) : List Sample × State :=
  let zeros := List.replicate n (0 : Sample)
  match s.srcDomain src with
  | none =>
    let x := s.srcSamples src
    (if x.length = n then x else zeros, s)
  | some f =>
    if f = d then
      if s.isFeedback sink src then
        let h := kgetD s.aud.hist src []
        ((List.range n).map (fun j => h.getD (feedbackShift d - 1 - j) 0), s)
      else
        let x := s.srcSamples src
        ((List.range n).map (fun j => x.getD j 0), s)
    else if 3 ≤ f then (zeros, s)
    else
      match s.aud.bridged.find? (fun b => b.1 == src && b.2.1 == d) with
      | some b => ((List.range n).map (fun j => b.2.2.getD j 0), s)
      | none =>
        let x := (List.range n).map (fun j => satQ31 (Config.freeInt s.fresh j))
        (x, { s with fresh := s.fresh + 1, aud := { s.aud with bridged := s.aud.bridged ++ [(src, d, x)] } })

/-- The negation of a sample; that of -1.0 is the largest sample (03 Table 3-2). -/
def invert (inv : Bool) (x : Sample) : Sample := if inv then satQ31 (-x) else x

/-- A route's samples through its delay slot: the slot records first, then the tap reads exactly d samples back. -/
def tapSlot (rec' : List Sample) (d n : Nat) : List Sample :=
  (List.range n).map (fun j => rec'.getD (n - 1 - j + d) 0)

/-- Records n samples in a slot, once per tick. -/
def Slot.record (x : Slot) (new : List Sample) : Slot := { x with samples := (new.reverse ++ x.samples).take 196864 }

/-- One sample under a crossfade (03 R82): O and x in units of 2^-61, h in units of 2^-30. -/
def fadeSample (out : List (Sample × Nat)) (x : Sample) (h : Nat) : Sample :=
  let o : Int := (out.map (fun e => e.1 * (e.2 : Int))).sum
  let v : Int := o * gainOne + (h : Int) * (x * gainOne - o)
  satQ31 (roundDiv v (2 ^ 60))

/-- The samples of one term, its slot recorded. recorded lists the slots already recorded for this sink. -/
def State.termSamples (s : State) (sink d n src : Nat) (inv : Bool) (delay : Nat) (slot : Option Nat)
    (recorded : List Nat) : List Sample × List Nat × State :=
  let f := s.fetchSource sink src d n
  match slot with
  | none => (f.1.map (invert inv), recorded, f.2)
  | some k =>
    let s1 :=
      if recorded.contains k then f.2
      else { f.2 with route := { f.2.route with slots := f.2.route.slots.map (fun x =>
        if x.num == k then x.record f.1 else x) } }
    let rec' := ((s1.route.slots.find? (fun x => x.num == k)).map (·.samples)).getD []
    let y := if s1.islandOn 15 then tapSlot rec' delay n else List.replicate n 0
    (y.map (invert inv), k :: recorded, s1)

/-- The signal of an assigned sink for the tick being processed (03 R79-R82), with its crossfade and slots moved on. A
sink without an entry takes zero. -/
def State.sinkSignal (s : State) (sink d : Nat) : List Sample × State :=
  let n := tickSamples s.route.family44 d s.aud.dataTick
  match s.route.entry sink with
  | none => (List.replicate n 0, s)
  | some e =>
    let outs := s.route.terms sink
    let run := outs.foldl (fun (a : List (List Sample × Nat) × List Nat × State) t =>
      let r := a.2.2.termSamples sink d n t.src t.inv t.delay t.slot a.2.1
      (a.1 ++ [(r.1, t.gain)], r.2.1, r.2.2)) (([] : List (List Sample × Nat)), ([] : List Nat), s)
    let new :=
      if e.clearing then (List.replicate n (0 : Sample), run.2.1, run.2.2)
      else run.2.2.termSamples sink d n e.src e.inv e.delay e.slot run.2.1
    let s1 := new.2.2
    match s1.route.fades.find? (fun f => f.sink == sink) with
    | none => (new.1, s1)
    | some f =>
      let y := (List.range n).map (fun j =>
        let k := f.k + j + 1
        let x := new.1.getD j 0
        if f.len ≤ k then x else fadeSample (run.1.map (fun o => (o.1.getD j 0, o.2))) x (fadeH k f.len))
      let k' := min f.len (f.k + n)
      (y, { s1 with route := { s1.route with fades := s1.route.fades.map (fun g => if g.sink == sink then { g with k := k' } else g) } })

/-- The first data tick that sounds after a step of TB0; 0 without one (13 Table 13-2). -/
def State.stepFrom (s : State) : Nat := s.time.mute.getD s.aud.fadeIn

/-- The gain of a step of TB0 on sample j of a tick of domain d, in units of 1/64. -/
def State.stepGain (s : State) (d j : Nat) : Nat :=
  let m := s.stepFrom
  let t := s.aud.dataTick
  if m = 0 then 64
  else if t < m then 0
  else min 64 (samplesBefore s.route.family44 d t - samplesBefore s.route.family44 d m + j + 1)

/-- A sink's samples for this tick, made once: zero while the family changes (03 R84), after a step of TB0, or after an
error in its delay slot (03 R78). -/
def State.runSink (s : State) (sink : Nat) : List Sample × State :=
  match kget s.aud.sinks sink with
  | some x => (x, s)
  | none =>
    match s.sinkDomain sink with
    | none => ([], s)
    | some d =>
      let r := s.sinkSignal sink d
      let mute := match s.route.famMute with
        | some m => decide (s.aud.dataTick < m)
        | none => false
      let y := if mute || s.aud.muted.contains sink then r.1.map (fun _ => 0) else (r.1.zipIdx).map (fun e => roundDiv (e.1 * (s.stepGain d e.2 : Int)) 64)
      (y, { r.2 with aud := { r.2.aud with sinks := kset r.2.aud.sinks sink y } })

/-- Runs an operation of the tick's dataflow on the configuration that governs the samples being processed. -/
def State.withWork (f : State → State) (s : State) : State :=
  match s.back with
  | none => f s
  | some b =>
    let w := f { s with
      route := b.route
      cald := b.cald
      meter := b.meter
      vent := { s.vent with vmap := b.vmap }
      sys := { s.sys with islands := b.islands }
      back := none }
    { w with
      route := s.route
      cald := s.cald
      meter := s.meter
      vent := { w.vent with vmap := s.vent.vmap }
      sys := { w.sys with islands := s.sys.islands }
      back := some ⟨w.route, w.cald, w.meter, w.vent.vmap, b.islands⟩ }

/-! ## Trackers (03 R90) -/

def TGroup.word0 (x : TGroup) : W32 := pack [(x.st.code, 30), (b2n x.offset, 29), (min 65535 x.rate, 12), (min 4095 x.frameErr, 0)]

def State.portEvent (s : State) (kind cause index : Nat) (w : W32) : State :=
  s.event 0xE8 [pack [(kind, 28), (cause, 24), (index, 0)], w, s.tick32]

def State.tgroupEvent (s : State) (g cause : Nat) : State := s.portEvent 2 cause g (s.tgroup g).word0

/-- The status word +0 of a receive slot (11 Table 11-6). -/
def RxSlot.word0 (x : RxSlot) : W32 := pack [(x.st.code, 28), (b2n x.pathA, 27), (b2n x.pathB, 26), (min 0x3FFF x.minSlack, 12)]

/-- EVENT_STREAM (11 R312): dir is 1 for a transmit slot. -/
def State.streamEvent (s : State) (dir cause slot : Nat) (w : W32) : State :=
  s.event 0xE7 [pack [(dir, 31), (cause, 24), (slot, 0)], w, s.tick32]

def State.rxSlot (s : State) (i : Nat) : RxSlot := s.strm.rx.getD i RxSlot.init

def State.rxEvent (s : State) (slot cause : Nat) : State := s.streamEvent 0 cause slot (s.rxSlot slot).word0

/-- The event of a change between ACQUIRE and LOCKED, for the reference that the tracker followed. -/
def State.trackerEvent (s : State) (t : Tracker) (locked : Bool) : State :=
  match t.kind with
  | 0 => s.tgroupEvent t.ref (if locked then 7 else 6)
  | 1 => s.rxEvent t.ref (if locked then 11 else 10)
  | _ => s

/-- The channels of a tracker start a fade over 64 output samples. -/
def RouteBlk.fadeAsrc (r : RouteBlk) (k : Nat) (up : Bool) : RouteBlk :=
  { r with asrc := r.asrc.map (fun e => if e.2.tracker == k then (e.1, { e.2 with fade := some (up, 0) }) else e) }

/-! ## Commands -/

/-- One word pair of ROUTE_SET read as an entry. -/
structure RouteWords where
  sink : Nat
  src : Nat
  w1 : W32

def routeWords (p : List W32) : List RouteWords :=
  (List.range ((p.length - 1) / 2)).map (fun i =>
    ⟨fld (pw p (4 + 2 * i)) 31 16, fld (pw p (4 + 2 * i)) 15 0, pw p (5 + 2 * i)⟩)

/-- An entry that breaks 03 R69 or Table 3-8. -/
def RouteWords.bad (f44 : Bool) (e : RouteWords) : Bool :=
  if e.src == 0xFFFF then
    let i := addrIndex e.sink
    let d := fld e.w1 31 30
    let f := fld e.w1 17 0
    addrClass e.sink != 11 || !isGenIndex i || i == 0 || d == 3 || 1440 < fld e.w1 28 18 ||
      (if i ≤ 4 then f == 0 else f < 10 || domainRate f44 d * 45 < f * 100)
  else
    !isSinkClass (addrClass e.sink) || !isSourceClass (addrClass e.src) || !addrOk e.sink || !addrOk e.src || bit e.w1 31 ||
      1024 < fld e.w1 29 18 || 196608 < fld e.w1 17 0

/-- Only the last entry of a packet for each sink takes effect (18 R497). -/
def lastPerSink (l : List RouteWords) : List RouteWords :=
  (l.zipIdx.filter (fun e => !(l.drop (e.2 + 1)).any (fun x => x.sink == e.1.sink))).map (·.1)

/-- ROUTE_SET (03 R66-R68, R93, 18 R497). -/
def applyRouteSet (p : List W32) (s : State) : Ans :=
  let w3 := pw p 3
  let l := routeWords p
  if fld w3 31 9 != 0 || fld w3 8 0 == 0 || 510 < fld w3 8 0 || p.length != 1 + 2 * fld w3 8 0 ||
      l.any (RouteWords.bad s.route.family44) then .ok (s.hostError .routing)
  else
    let r := (lastPerSink l).foldl (fun (r : RouteBlk) e =>
      if e.src == 0xFFFF then
        let i := addrIndex e.sink
        { r with gens := kset r.gens i (reGen (kget r.gens i) (0x10 ≤ i && i < 0x20) (fld e.w1 31 30) (bit e.w1 29)
            (fld e.w1 28 18) (fld e.w1 17 0) s.time.tick) }
      else r.setEntry (s.sinkDomain e.sink) e.sink e.src (bit e.w1 30) (fld e.w1 29 18) (fld e.w1 17 0)) s.route
    let s1 := { s with route := r }
    if s1.routesFit r then .ok { s with route := s1.reBridge r } else .refuse stResource s

/-- ROUTE_CLEAR (03 R68, R80, 18 R498). -/
def applyRouteClear (p : List W32) (s : State) : Ans :=
  let w3 := pw p 3
  let l := p.drop 1
  if fld w3 31 11 != 0 || fld w3 10 0 == 0 || 1020 < fld w3 10 0 || l.length != fld w3 10 0 ||
      l.any (fun w => fld w 31 16 != 0) then .ok (s.hostError .routing)
  else
    let r := l.foldl (fun (r : RouteBlk) w =>
      let a := fld w 15 0
      if addrClass a == 11 then
        match kget r.gens (addrIndex a) with
        | some g => { r with gens := kset r.gens (addrIndex a) (if g.enable then
            { g with enable := false, ramp := some (g.levelAt 0, 0) } else g) }
        | none => r
      else r.clearEntry (s.sinkDomain a) a) s.route
    .ok { s with route := s.reBridge r }

/-- DOMAIN_CONFIG (03 R84, 18 R500). -/
def applyDomainConfig (p : List W32) (s : State) : Ans :=
  let w3 := pw p 3
  let f := bit w3 0
  let s0 := if fld w3 31 1 == 0 then s else s.hostError .routing
  if f = s0.route.family44 then .ok s0
  else if s0.gey.groups.any (fun g => g.st != .disarmed && g.st != .fault) then .refuse stState s
  else
    let r := s0.route
    let s1 := { s0 with route := ({ r with
      family44 := f
      famMute := some (s0.time.tick + 1200)
      fades := []
      entries := r.entries.filter (fun e => !e.clearing)
      slots := r.slots.map (fun x => { x with samples := [] })
      trackers := r.trackers.map (fun t => if t.st == .idle then t else { t with st := .acquire })
      asrc := r.asrc.map (fun e => (e.1, { e.2 with fade := none }))
      gens := r.gens.map (fun e => (e.1, { e.2 with phase := 0, start := s0.time.tick, ramp := none })) } : RouteBlk).freeSlots }
    .ok (r.trackers.foldl (fun (s : State) t => if t.st == .locked then s.trackerEvent t false else s) s1)

/-- BRIDGE_CONFIG (18 R501). -/
def applyBridgeConfig (p : List W32) (s : State) : Ans :=
  let w3 := pw p 3
  let src := fld w3 15 0
  let tg := fld w3 29 28
  let bad := bit w3 30 || fld w3 27 16 != 0 || tg == 3 || !isSourceClass (addrClass src) || !addrOk src || s.srcDomain src == some tg
  if bad then .ok (s.hostError .routing)
  else
    let hit := s.route.bridges.any (fun b => b.src == src && b.target == tg)
    let held := bit w3 31
    let l := if hit then s.route.bridges.map (fun b => if b.src == src && b.target == tg then { b with held := held } else b)
      else if held then s.route.bridges ++ [⟨src, tg, true⟩] else s.route.bridges
    let r := { s.route with bridges := l }
    if s.routesFit r then .ok { s with route := s.reBridge r } else .refuse stResource s

/-- Form 0 of ASRC_CONFIG: a tracker (18 R502, R503). -/
def applyTracker (p : List W32) (s : State) : Ans :=
  let w3 := pw p 3
  let kind := fld w3 25 24
  let ref := fld w3 23 16
  let num := fld (pw p 4) 23 0
  let den := fld (pw p 5) 23 0
  let k := fld w3 3 0
  let en := bit w3 29
  let fs := domainRate s.route.family44 0
  let badRatio := kind == 2 && (num == 0 || den == 0 || decide (4 * fs * num < 8000 * den ∨ 216000 * den < fs * num))
  let bad := fld w3 28 26 != 0 || kind == 3 || fld w3 15 4 != 0 || p.length != 3 || fld (pw p 4) 31 24 != 0 ||
    fld (pw p 5) 31 24 != 0 || badRatio || (kind == 0 && 8 ≤ ref) || (kind == 2 && ref != 0) ||
    (kind != 2 && (num != 0 || den != 0))
  if bad then .ok (s.hostError .routing)
  else
    let o := s.route.trackers.getD k Tracker.init
    let followed := s.route.asrc.any (fun e => e.2.tracker == k)
    if !en && followed then .refuse stState s
    else
      let changed := o.kind != kind || o.ref != ref || o.num != num || o.den != den || !o.enable
      let st := if !en || !followed then TrkMode.idle else if changed then .acquire else o.st
      let r := { s.route with trackers := s.route.trackers.set k ⟨en, st, kind, ref, num, den⟩ }
      if o.st == .locked && st == .acquire then .ok ({ s with route := r.fadeAsrc k false }.trackerEvent o false)
      else .ok { s with route := r }

/-- Form 1 of ASRC_CONFIG: channels are assigned or released (03 R87, 18 R502, R503). The reply names the channels. -/
def applyAsrcChannels (p : List W32) (s : State) : Ans :=
  let w3 := pw p 3
  let n := fld w3 6 0
  let dom := fld w3 28 27
  let trk := fld w3 26 23
  let l := p.drop 1
  let assign := bit w3 29
  let bad := fld w3 22 7 != 0 || n == 0 || 64 < n || l.length != n || l.any (fun w => fld w 31 23 != 0) ||
    (assign && (dom == 3 || l.any (fun w => (64 ≤ fld w 22 16 && fld w 22 16 != 0x7F) || !isSourceClass (fld w 15 12))))
  if bad then .ok (s.hostError .routing)
  else if assign then
    let t := s.route.trackers.getD trk Tracker.init
    if !t.enable then .ok (s.hostError .routing)
    else
      let step (a : Option (List (Nat × Asrc) × List Nat)) (w : W32) : Option (List (Nat × Asrc) × List Nat) :=
        match a with
        | none => none
        | some (m, got) =>
          let src := fld w 15 0
          let want := fld w 22 16
          let ch := if want == 0x7F then (List.range 64).find? (fun c => (kget m c).isNone)
            else if (kget m want).isSome then none else some want
          ch.map (fun c => (kset m c ⟨src, trk, dom, if t.st == .locked then some (true, 0) else none⟩, got ++ [c]))
      match l.foldl step (some (s.route.asrc, [])) with
      | none => .refuse stResource s
      | some (m, got) =>
        let t' := { t with st := if t.st == .idle then .acquire else t.st }
        let r := { s.route with asrc := m, trackers := s.route.trackers.set trk t' }
        let s1 := { s with route := r }
        if s1.routesFit r then .okData (got.map w32) { s with route := s1.reBridge r } else .refuse stResource s
  else
    let m := s.route.asrc.filter (fun e => !(l.any (fun w => fld w 15 0 == e.2.src)))
    let r := { s.route with
      asrc := m
      trackers := s.route.trackers.mapIdx (fun i t => if t.enable && !(m.any (fun e => e.2.tracker == i)) then { t with st := .idle } else t) }
    let s1 := { s with route := r }
    if s1.routesFit r then .ok { s with route := s1.reBridge r } else .refuse stResource s

def applyAsrcConfig (p : List W32) (s : State) : Ans :=
  match fld (pw p 3) 31 30 with
  | 0 => applyTracker p s
  | 1 => applyAsrcChannels p s
  | _ => .ok (s.hostError .routing)

/-- A route entry as ROUTE_GET lists it, with INACTIVE under 03 R70. -/
def State.entryWords (s : State) (e : RouteEntry) : List W32 :=
  let off := (addrClass e.sink != 10 && (s.sinkDomain e.sink).isNone) ||
    (e.src != 0xB000 && addrClass e.src != 11 && (s.srcDomain e.src).isNone)
  [pack [(e.sink, 16), (e.src, 0)], pack [(b2n off, 31), (b2n e.inv, 30), (e.xfade, 18), (e.delay, 0)]]

def genWords (i : Nat) (g : Gen) : List W32 :=
  [pack [(0xB000 + i, 16), (0xFFFF, 0)], pack [(g.domain, 30), (b2n g.enable, 29), (g.atten, 18), (g.freq, 0)]]

/-- ROUTE_GET (18 R499). -/
def queryRouteGet (p : List W32) (s : State) : Ans :=
  let w3 := pw p 3
  let a := fld w3 31 16
  let b := fld w3 15 0
  let bad := addrClass a != addrClass b || b < a
  if bad then .ok (s.hostError .routing)
  else if addrClass a == 11 then
    let l := s.route.gens.filter (fun e => decide (a ≤ 0xB000 + e.1 ∧ 0xB000 + e.1 ≤ b))
    .okData ([w32 l.length, 0xFFFF0000] ++ l.flatMap (fun e => genWords e.1 e.2)) s
  else
    let l := s.route.entries.filter (fun e => decide (a ≤ e.sink ∧ e.sink ≤ b))
    let next := match l[509]? with
      | some e => e.sink
      | none => 0xFFFF
    .okData ([w32 (min 509 l.length), pack [(next, 16)]] ++ (l.take 509).flatMap s.entryWords) s

/-! ## The meanings of the rows -/

def execRouteSet (st : Stage) (p : List W32) (s : State) : Host.Outcome State Fault Refusal := .next (s.command 0x30 st p applyRouteSet)

def execRouteClear (st : Stage) (p : List W32) (s : State) : Host.Outcome State Fault Refusal := .next (s.command 0x31 st p applyRouteClear)

def execRouteGet (h : CmdHead) (p : List W32) (s : State) : Host.Outcome State Fault Refusal := .next (s.query 0x32 h p queryRouteGet)

def execDomainConfig (st : Stage) (p : List W32) (s : State) : Host.Outcome State Fault Refusal := .next (s.command 0x33 st p applyDomainConfig)

def execBridgeConfig (st : Stage) (p : List W32) (s : State) : Host.Outcome State Fault Refusal := .next (s.command 0x34 st p applyBridgeConfig)

def execAsrcConfig (st : Stage) (p : List W32) (s : State) : Host.Outcome State Fault Refusal := .next (s.command 0x35 st p applyAsrcConfig)

/-- The crossfade of a sink has made its last sample (03 R79). A fade that still runs is left alone. -/
def execCrossfadeComplete (t sink : Nat) (s : State) : Host.Outcome State Fault Refusal :=
  let s := s.goto t
  .next (s.withWork (fun s =>
    if s.route.fades.any (fun f => f.sink == sink && f.len ≤ f.k) then
      let s1 := { s with route := s.route.endFade sink }
      { s1 with route := s1.reBridge s1.route }
    else s))

/-- The silence of a family change ends after 1,200 ticks (03 R84). The samples of the tick before are still silent. -/
def execFamilyChangeMuteEnd (s : State) : Host.Outcome State Fault Refusal :=
  .next (match s.route.famMute with
    | some m =>
      if m ≤ s.time.tick then
        { s with
          route := { s.route with famMute := none }
          back := some s.governing
          lateOps := s.lateOps ++ [(opMuteEnds, [])] }
      else s
    | none => s)

end Sys2Proof.Machine
end

