-- ==== Sys2Proof/Machine/Caldera.lean ====
section
/-! DEFINITION. The Caldera and the meters (04): shapes, gains with zero-crossing detection, crosspoint banks, limiters,
the computation of a tick's buses, tap measurement and publication. -/

namespace Sys2Proof.Machine
open Sys2Proof

/-! ## Gains (04 R104-R109) -/

/-- Samples that a gain change waits (04 R108). -/
def gainWait (timeout fs : Nat) : Nat := (if timeout = 0 then 10 else timeout) * fs / 1000

/-- A sample of the detection signal is a zero crossing (04 R107). -/
def zeroCross (x last : Int) : Bool := x == 0 || decide (x < 0) != decide (last < 0)

/-- One sample of a gain: the linear value for it, and the gain after it (04 R107). -/
def GainSt.step (g : GainSt) (x : Int) : Int × GainSt :=
  match g.change with
  | none => (g.lin, { g with last := x })
  | some c =>
    let ramp := match c.ramp with
      | some r => some r
      | none => if c.wait ≤ c.waited then some (g.lin, 0) else none
    match ramp with
    | some (start, k) =>
      let v := start + roundDiv ((c.target - start) * ((k : Int) + 1)) 64
      (v, { g with lin := v, last := x, change := if 64 ≤ k + 1 then none else some { c with ramp := some (start, k + 1) } })
    | none =>
      if zeroCross x g.last then (c.target, { g with lin := c.target, last := x, change := none })
      else (g.lin, { g with last := x, change := some { c with waited := c.waited + 1 } })

/-- The gain over the samples of a tick: the value at each, and the gain after them. -/
def GainSt.run (g : GainSt) (xs : List Int) : List Int × GainSt :=
  xs.foldl (fun a x =>
    let r := a.2.step x
    (a.1 ++ [r.1], r.2)) ([], g)

/-- The linear value of a setting with its polarity. -/
def gainTarget (code : Nat) (inv : Bool) : Int :=
  let v := gainLin (signed 16 code)
  if inv then -v else v

/-- A pending change ends with its new value in force (04 R98). -/
def GainSt.finish (g : GainSt) : GainSt :=
  match g.change with
  | some c => { g with lin := c.target, change := none }
  | none => g

/-- A new setting: it waits for a crossing, or, stepwise, is in force at once (04 R106, R109). -/
def GainSt.set (g : GainSt) (code : Nat) (inv step : Bool) (wait : Nat) : GainSt :=
  let t := gainTarget code inv
  if step then { g with code := code, inv := inv, lin := t, change := none }
  else { g with code := code, inv := inv, change := if t = g.lin then none else some ⟨t, wait, 0, none⟩ }

/-! ## Crosspoints (04 R102, R110-R113) -/

/-- The value of a coefficient code in units of 2^-23 (04 R102). -/
def coefValue (c : Nat) : Int :=
  let e := c / 2048 % 16
  let m := c % 2048
  let v : Int := if e = 0 then m else (2048 + m) * 2 ^ (e - 1)
  if c / 32768 % 2 = 1 then -v else v

/-- The place of a crosspoint in a bank. -/
def xpKey (bus inp : Nat) : Nat := bus * 2048 + inp

/-- A crosspoint at sample k of the tick, in units of 2^-31 (04 R111). -/
def CaldBlk.xpoint (c : CaldBlk) (key k : Nat) : Int :=
  let new := coefValue (kgetD c.active key 0) * 256
  match c.ramp with
  | none => new
  | some r =>
    if r.len ≤ r.k + k then new
    else
      let old := coefValue (kgetD r.old key 0) * 256
      old + roundDiv ((new - old) * ((r.k + k : Nat) : Int)) r.len

/-- After the lock the two banks are equal (04 R112). -/
def CaldBlk.settle (c : CaldBlk) (tick : Nat) : CaldBlk :=
  match c.lockEnd with
  | some e => if e ≤ tick then { c with shadow := c.active, lockEnd := none } else c
  | none => c

/-! ## Limiters (04 R114-R116) -/

def limOne : Nat := 2 ^ 30

/-- T in Q2.30. -/
def Lim.t (l : Lim) : Nat := (fxRound 30 (fxPow10 (-(l.thresh : Int)) 200)).toNat

/-- a in Q2.30, at a rate in Hz. -/
def Lim.a (l : Lim) (fs : Nat) : Nat := (fxRound 30 (fxOne - fxExp (-(fxOne * 1000 / ((l.release * fs : Nat) : Int))))).toNat

/-- One sample through a limiter: the output, whether a disabled limiter clipped, and the limiter after it. -/
def Lim.step (l : Lim) (fs : Nat) (x : Int) : Sample × Bool × Lim :=
  let xs := (x :: l.xs).take 34
  let at' (d : Nat) : Int := xs.getD d 0
  let tt := l.t
  let req0 := if tt * 2 < x.natAbs then tt * 2 ^ 31 / x.natAbs else limOne
  let req := if l.enable then (req0 :: l.req).take 34 else []
  -- req[m + j] is the value L - j samples before the newest
  let att := (List.range (l.look + 1)).foldl (fun a j =>
    let r := req.getD (l.look - j) limOne
    min a (r + (limOne - r) * j / (l.look + 1))) limOne
  let rel := l.g + (2 * (limOne - l.g) * l.a fs + limOne) / (2 * limOne)
  let g := if l.enable then min att rel else limOne
  let k := l.k + 1
  let fading := !l.old.isEmpty && k ≤ 64
  -- the two signals of a changing look-ahead, in units of 2^-31 / (64 * 2^30)
  let mix : Int :=
    if fading then
      (l.old.map (fun o => at' o.1 * (o.2 : Int))).sum * ((64 - k : Nat) : Int) + at' l.look * ((k * limOne : Nat) : Int)
    else at' l.look * ((64 * limOne : Nat) : Int)
  let y := roundDiv (mix * (g : Int)) (64 * limOne * limOne)
  let s := satQ31 y
  (s, !l.enable && s != y, { l with xs := xs, req := req, g := g, k := if fading then k else 0, old := if fading && k < 64 then l.old else [] })

/-- New settings of a limiter (04 R114, R116). -/
def Lim.set (l : Lim) (enable : Bool) (look thresh release : Nat) : Lim :=
  if l.enable == enable && l.look == look && l.thresh == thresh && l.release == release then l
  else
    let old :=
      if look = l.look then l.old
      else if l.old.isEmpty then [(l.look, limOne)]
      else l.old.map (fun o => (o.1, gainMul o.2 (limOne * (64 - l.k) / 64))) ++ [(l.look, limOne * l.k / 64)]
    { l with
      enable := enable
      look := look
      thresh := thresh
      release := release
      g := limOne
      req := []
      old := old
      k := if look = l.look then l.k else 0 }

/-! ## A tick of the Caldera (04 Table 4-3) -/

/-- The bits of Q9.31. -/
def busMax : Int := 2 ^ 39 - 1
def busMin : Int := -(2 ^ 39)

/-- Every routed input's samples after its gain, with the gains moved on (stages 1 and 2). -/
def State.caldInputs (s : State) : List (Nat × List Int) × State :=
  let sinks := (s.route.entries.map (·.sink)).filter (fun a => addrClass a == 5 && decide (addrIndex a < shapeInputs s.cald.shape))
  let changing := (s.cald.inG.filter (fun e => e.2.change.isSome && decide (e.1 < shapeInputs s.cald.shape))).map (fun e => 0x5000 + e.1)
  ((sinks ++ changing).eraseDups).foldl (fun a sink =>
    let r := a.2.runSink sink
    let i := addrIndex sink
    let g := (kgetD r.2.cald.inG i GainSt.init).run r.1
    let v := List.zipWith (fun x l => roundDiv (x * l) (2 ^ 27)) r.1 g.1
    (a.1 ++ [(i, v)], { r.2 with cald := { r.2.cald with inG := kset r.2.cald.inG i g.2 } })) (([] : List (Nat × List Int)), s)

/-- The exact sum of a bus at sample k, counted from 1 (stages 3 and 4). -/
def CaldBlk.busSum (c : CaldBlk) (ins : List (Nat × List Int)) (bus k : Nat) : Int :=
  (ins.map (fun e => roundDiv (e.2.getD (k - 1) 0 * c.xpoint (xpKey bus e.1) k) (2 ^ 31))).sum

/-- The buses that can differ from zero, or whose state moves. -/
def CaldBlk.busyBuses (c : CaldBlk) : List Nat :=
  let ramped : List Nat := match c.ramp with
    | some r => r.old.map (fun e => e.1 / 2048)
    | none => []
  let busOf : List Nat := c.active.map (fun e => e.1 / 2048)
  let all : List Nat := (busOf ++ ramped ++ c.busG.map (·.1) ++ c.lims.map (·.1)).eraseDups
  sortBy (fun a b => decide (a < b)) all

/-- One bus of a tick of n samples: stages 3 to 6, the sticky flags, ACC_SATURATE and the largest gain reduction. -/
def State.runBus (s : State) (ins : List (Nat × List Int)) (n fs bus : Nat) : State :=
  let c := s.cald
  let sums := (List.range n).map (fun j => c.busSum ins bus (j + 1))
  let g := (kgetD c.busG bus GainSt.init).run sums
  let raw := List.zipWith (fun x l => roundDiv (x * l) (2 ^ 27)) sums g.1
  let beyond := raw.any (fun v => decide (v < busMin ∨ busMax < v))
  let r := (raw.map (clamp busMin busMax)).foldl (fun (a : List Sample × Bool × Lim × Nat) x =>
    let o := a.2.2.1.step fs x
    (a.1 ++ [o.1], a.2.1 || o.2.1, o.2.2, min a.2.2.2 o.2.2.g)) (([] : List Sample), false, kgetD c.lims bus Lim.init, kgetD c.gr bus limOne)
  let wasSat := c.sat.contains bus
  let c1 := { c with
    busG := kset c.busG bus g.2
    lims := kset c.lims bus r.2.2.1
    sat := if beyond && !wasSat then c.sat ++ [bus] else c.sat
    clip := if r.2.1 && !c.clip.contains bus then c.clip ++ [bus] else c.clip
    gr := kset c.gr bus r.2.2.2 }
  let ys := if c.mutedBus.contains bus then r.1.map (fun _ => (0 : Sample)) else r.1
  let s1 := { s with cald := c1, aud := { s.aud with src := kset s.aud.src (0x6000 + bus) ys } }
  if beyond && !wasSat then s1.raise 0x05 bus 0x1D (w32 s.aud.dataTick) else s1

/-- Every input of the Caldera that is not fed back is there (01 R14). -/
def State.caldReady (s : State) : Bool :=
  s.route.entries.all (fun e => addrClass e.sink != 5 || (s.sinkDomain e.sink).isNone || s.isFeedback e.sink e.src || s.srcPresent e.src)

/-- Every bus of the tick completes (01 R14). -/
def State.runCaldera (s : State) : State :=
  if s.cald.shape = 0 || !s.islandOn 8 || s.cald.done || !s.caldReady then s
  else
    let d := s.cald.shape - 1
    let n := tickSamples s.route.family44 d s.aud.dataTick
    let fs := domainRate s.route.family44 d
    let r := s.caldInputs
    let s1 := (r.2.cald.busyBuses).foldl (fun s b => s.runBus r.1 n fs b) r.2
    let ramp := match s1.cald.ramp with
      | some x => if x.len ≤ x.k + n then none else some { x with k := x.k + n }
      | none => none
    { s1 with cald := { s1.cald with ramp := ramp, done := true } }

/-! ## Meters (04 R117-R122) -/

/-- The magnitude measured as true peak: that of the samples at x4 and of lasting silence, else of an interpolation whose
filter the manual does not give (log 11). -/
def truePeak (key d peak quiet : Nat) : Nat := if d = 2 || (peak = 0 && decide (16 ≤ quiet)) then peak else Config.freeNat key

/-- A tap measures the samples of its source for one tick, in domain d. -/
def Tap.measure (t : Tap) (xs : List Sample) (d fs tick key : Nat) : Tap :=
  let p := xs.foldl (fun a x => max a x.natAbs) 0
  let tp := truePeak key d p t.quiet
  let w := t.rmsMs * fs / 1000
  let t1 := { t with
    peak := max t.peak p
    tpeak := max t.tpeak tp
    lastPeakTick := if t.peak < p then tick else t.lastPeakTick
    squares := ((xs.reverse.map (fun x => x.natAbs * x.natAbs)) ++ t.squares).take w
    dom := d
    quiet := if p = 0 then min 16 (t.quiet + 1) else 0 }
  let h := if t.holdTp then tp else p
  if t1.holdLevel < h then { t1 with holdLevel := h, holdTick := tick } else t1

/-- The samples of a tap's route; none without a route or without a source. -/
def State.tapInput (s : State) (k : Nat) : Option (Nat × List Sample) :=
  match s.route.entry (0xA000 + k) with
  | none => none
  | some e =>
    match s.srcDomain e.src with
    | none => none
    | some d =>
      let xs := s.srcSamples e.src
      if 3 ≤ d || xs.isEmpty then none else some (d, xs.map (invert e.inv))

/-- Every tap that has had a route measures the tick (04 R73, R117); without a source it measures silence, in the domain
that it measured last (log 102). -/
def State.measureTaps (s : State) : State :=
  let routed := (s.route.entries.filter (fun e => addrClass e.sink == 10)).map (fun e => addrIndex e.sink)
  let taps := (s.meter.taps.map Prod.fst ++ routed).eraseDups
  let s0 := { s with fresh := s.fresh + taps.length }
  { s0 with meter := { s.meter with taps := taps.zipIdx.foldl (fun l e =>
    let t := kgetD s.meter.taps e.1 Tap.init
    let x := (s.tapInput e.1).getD (t.dom, List.replicate (tickSamples s.route.family44 t.dom s.aud.dataTick) 0)
    kset l e.1 (t.measure x.2 x.1 (domainRate s.route.family44 x.1) s.aud.dataTick (s.fresh + e.2))) s.meter.taps } }

/-- A tap's record in a publication for tick p, and the tap after it (04 Table 4-12). -/
def Tap.publish (t : Tap) (fs p : Nat) : TapRec × Tap :=
  let w := t.rmsMs * fs / 1000
  let cur := if t.holdTp then t.tpeak else t.peak
  let beyond := t.hold != 0 && t.holdTick + t.hold * 2400 < p
  let t1 := if beyond then { t with holdLevel := cur, holdTick := t.lastPeakTick } else t
  let lev (n : Nat) : Nat := code 16 (levelCode n 31 true)
  -- a mean square in units of 2^-62, taken with 32 bits below them
  let rms := code 16 (levelCode (t.squares.sum * 2 ^ 32 / (max w 1)) 94 false)
  (⟨lev t.peak, lev t.tpeak, rms, lev t1.holdLevel, t1.holdTick, p⟩, { t1 with peak := 0, tpeak := 0 })

/-- The alarm of a tap at a record (04 R122): the event if it sounds, and the tap after it. -/
def Tap.alarmStep (t : Tap) (k : Nat) (r : TapRec) : Option (List W32) × Tap :=
  let lev := signed 16 (if t.holdTp then r.tpeak else r.peak)
  let lim : Int := -(t.alarm : Int) * 10
  if t.alarmEn && t.armed && decide (lim ≤ lev) then
    (some [w32 k, pack [(code 16 lev, 16), (code 16 lim, 0)], w32 r.tick], { t with armed := false })
  else if lev ≤ lim - 300 then (none, { t with armed := true })
  else (none, t)

/-- The rate of the domain in which a tap last measured. -/
def State.tapRate (s : State) (k : Nat) : Nat := domainRate s.route.family44 (kgetD s.meter.taps k Tap.init).dom

/-- A bus word (04 Table 4-12). -/
def CaldBlk.busWord (c : CaldBlk) (b : Nat) : W32 :=
  pack [(b2n (c.sat.contains b), 31), (b2n (c.clip.contains b), 30), ((-(levelCode (kgetD c.gr b limOne) 30 true)).toNat, 0)]

/-- The records of a publication for tick p are made, where one is due and the CALDERA island is on (04 R119). -/
def State.compile (s : State) (p : Nat) : State :=
  if !s.islandOn 8 || p % s.meter.period ≠ s.meter.period - 1 then s
  else
    let made := s.meter.taps.map (fun (e : Nat × Tap) =>
      let r := e.2.publish (s.tapRate e.1) p
      (e.1, r.1, r.2.alarmStep e.1 r.1))
    let pub : Pub := {
      tick := p
      taps := made.map (fun e => (e.1, e.2.1))
      bus := ((List.range 256).map (fun b => (b, s.cald.busWord b))).filter (fun e => e.2 != 0)
      alarms := made.filterMap (fun e => e.2.2.1) }
    { s with
      meter := { s.meter with taps := made.map (fun e => (e.1, e.2.2.2)), due := some pub }
      cald := { s.cald with gr := [] } }

/-- A publication is written, whole between two steps of GEN, and its alarms sound (04 R119, R120, R122). -/
def State.publish (s : State) (x : Pub) : State :=
  x.alarms.foldl (fun (s : State) d => s.event 0xE4 d)
    (s.onMeters (fun m => { m with
      published := true
      pubTick := x.tick
      pubTaps := x.taps
      pubBus := x.bus
      gen := m.gen + 2
      due := none }))

/-! ## Commands -/

/-- MIX_SHAPE (04 R98). -/
def applyMixShape (p : List W32) (s : State) : Ans :=
  let sh := fld (pw p 3) 1 0
  let s0 := if fld (pw p 3) 31 2 == 0 then s else s.hostError .caldera
  if !s.islandOn 8 then .refuse stState s
  else if sh = s0.cald.shape then .ok s0
  else
    let n := shapeInputs sh
    let c := { s0.cald with
      shape := sh
      active := []
      shadow := []
      ramp := none
      lockEnd := none
      version := s0.cald.version + 1
      inG := (s0.cald.inG.filter (fun e => e.1 < n)).map (fun e => (e.1, e.2.finish))
      busG := s0.cald.busG.map (fun e => (e.1, e.2.finish))
      lims := s0.cald.lims.map (fun e => (e.1, { e.2 with g := limOne, req := [], xs := [], old := [], k := 0 })) }
    ({ s0 with cald := c }).reassign s

/-- XPOINT_WRITE (04 R110, R112). -/
def applyXpointWrite (p : List W32) (s : State) : Ans :=
  let w3 := pw p 3
  let inp := fld w3 18 8
  let bus := fld w3 7 0
  let n := fld (pw p 4) 10 0
  let along := bit w3 31
  let c := s.cald.settle s.time.tick
  if !s.islandOn 8 || s.cald.shape = 0 || c.lockEnd.isSome then .refuse stState s
  else if fld w3 30 19 != 0 || fld (pw p 4) 31 11 != 0 || n = 0 || 2038 < n || p.length != 2 + (n + 1) / 2 ||
      (n % 2 == 1 && fld (p.getLastD 0) 15 0 != 0) || shapeInputs c.shape ≤ inp ||
      (if along then 256 < bus + n else shapeInputs c.shape < inp + n) then .ok (s.hostError .caldera)
  else
    let coef (i : Nat) : Nat := let w := pw p (5 + i / 2); if i % 2 = 0 then fld w 31 16 else fld w 15 0
    let bank := (List.range n).foldl (fun b i =>
      let k := if along then xpKey (bus + i) inp else xpKey bus (inp + i)
      if coef i = 0 then kdel b k else kset b k (coef i)) c.shadow
    .ok { s with cald := { c with shadow := bank } }

/-- GAIN_SET (04 R100, R106). -/
def applyGainSet (p : List W32) (s : State) : Ans :=
  let n := fld (pw p 3) 8 0
  let ent := (List.range n).map (fun i => (pw p (4 + 2 * i), pw p (5 + 2 * i)))
  let badOne (e : W32 × W32) : Bool :=
    let a := fld e.1 31 16
    let g := sfld e.1 15 0
    (addrClass a != 5 && addrClass a != 6) || !addrOk a || (g != -32768 && decide (g < -14400 ∨ 2400 < g)) ||
      fld e.2 30 7 != 0 || 100 < fld e.2 6 0
  if !s.islandOn 8 || s.cald.shape = 0 then .refuse stState s
  else if fld (pw p 3) 31 9 != 0 || n = 0 || 510 < n || p.length != 1 + 2 * n || ent.any badOne then .ok (s.hostError .caldera)
  else
    let fs := domainRate s.route.family44 (s.cald.shape - 1)
    let c := ent.foldl (fun (c : CaldBlk) e =>
      let a := fld e.1 31 16
      let i := addrIndex a
      let w := gainWait (fld e.2 6 0) fs
      let inv := bit e.2 31
      let g := fld e.1 15 0
      if addrClass a == 6 then { c with busG := kset c.busG i ((kgetD c.busG i GainSt.init).set g inv false w) }
      else { c with inG := kset c.inG i ((kgetD c.inG i GainSt.init).set g inv (shapeInputs c.shape ≤ i) w) }) s.cald
    .ok { s with cald := c }

/-- BANK_SWAP (04 R111, R112). The lock lasts to the end of the tick after the one that holds the ramp's last sample. -/
def applyBankSwap (p : List W32) (s : State) : Ans :=
  let r := fld (pw p 3) 10 0
  let c := s.cald.settle s.time.tick
  if !s.islandOn 8 || s.cald.shape = 0 || c.lockEnd.isSome then .refuse stState s
  else if fld (pw p 3) 31 11 != 0 || (1 ≤ r && r < 4) || 1024 < r then .ok (s.hostError .caldera)
  else
    let len := if r = 0 then 128 else r
    let d := s.cald.shape - 1
    let t := s.time.tick
    let f44 := s.route.family44
    let last := ((List.range 1100).find? (fun i => samplesBefore f44 d t + len ≤ samplesBefore f44 d (t + i + 1))).getD 0
    .ok { s with cald := { c with
      active := c.shadow
      shadow := c.active
      ramp := some ⟨c.active, len, 0⟩
      version := c.version + 1
      lockEnd := some (t + last + 2) } }

/-- LIMITER_SET (04 R114, R116). -/
def applyLimiterSet (p : List W32) (s : State) : Ans :=
  let w3 := pw p 3
  let w4 := pw p 4
  let bad := fld w3 31 16 != 0 || fld w3 7 0 < fld w3 15 8 || bit w4 30 || 32 < fld w4 29 24 || fld w4 23 21 != 0 ||
    400 < fld w4 20 12 || bit w4 11 || fld w4 10 0 == 0 || 2000 < fld w4 10 0
  if !s.islandOn 8 || s.cald.shape = 0 then .refuse stState s
  else if bad then .ok (s.hostError .caldera)
  else
    .ok { s with cald := { s.cald with lims := (span (fld w3 15 8) (fld w3 7 0)).foldl (fun l b =>
      kset l b ((kgetD l b Lim.init).set (bit w4 31) (fld w4 29 24) (fld w4 20 12) (fld w4 10 0))) s.cald.lims } }

/-- METER_CONFIG (04 R117). A tap that it names begins measuring. -/
def applyMeterConfig (p : List W32) (s : State) : Ans :=
  let w3 := pw p 3
  let w4 := pw p 4
  let first := fld w3 27 16
  let n := fld w3 12 0
  let per := fld (pw p 6) 7 0
  let bad := fld w3 31 28 != 0 || fld w3 15 13 != 0 || n == 0 || 4096 < first + n || fld w4 31 20 == 0 || 3000 < fld w4 31 20 ||
    600 < fld w4 19 10 || fld w4 7 0 != 0 || fld (pw p 5) 31 11 != 0 || 1440 < fld (pw p 5) 10 0 || fld (pw p 6) 31 8 != 0 || 240 < per
  if !s.islandOn 8 then .refuse stState s
  else if bad then .ok (s.hostError .meters)
  else
    let taps := (List.range n).foldl (fun l i =>
      let t := kgetD l (first + i) Tap.init
      kset l (first + i) { t with
        rmsMs := fld w4 31 20
        hold := fld w4 19 10
        holdTp := bit w4 9
        alarmEn := bit w4 8
        alarm := fld (pw p 5) 10 0
        squares := [] }) s.meter.taps
    .ok { s with meter := { s.meter with taps := taps, period := if per = 0 then s.meter.period else per } }

/-- METER_READ (04 R121). -/
def queryMeterRead (p : List W32) (s : State) : Ans :=
  let w3 := pw p 3
  let first := fld w3 27 16
  let n := fld w3 12 0
  let bus := bit w3 31
  let bad := fld w3 30 28 != 0 || fld w3 15 13 != 0 || n == 0 || (if bus then 256 < first + n else 255 < n || 4096 < first + n)
  if !s.islandOn 8 then .refuse stState s
  else if bad then .ok (s.hostError .meters)
  else if bus then .okData ((List.range n).map (fun i => kgetD s.meter.pubBus (first + i) 0)) s
  else .okData ((List.range n).flatMap (fun i => s.meter.tapWords (first + i))) s

/-- PEAK_RESET (04 R121). -/
def applyPeakReset (p : List W32) (s : State) : Ans :=
  let w3 := pw p 3
  let first := fld w3 27 16
  let n := fld w3 12 0
  let bus := bit w3 31
  let bad := fld w3 30 28 != 0 || fld w3 15 13 != 0 || n == 0 || (if bus then 256 < first + n else 4096 < first + n)
  let inR (i : Nat) : Bool := decide (first ≤ i ∧ i < first + n)
  if !s.islandOn 8 then .refuse stState s
  else if bad then .ok (s.hostError .meters)
  else if bus then
    .ok { s with cald := { s.cald with sat := s.cald.sat.filter (fun b => !inR b), clip := s.cald.clip.filter (fun b => !inR b) } }
  else
    .ok { s with meter := { s.meter with taps := s.meter.taps.map (fun e =>
      if inR e.1 then (e.1, { e.2 with holdLevel := 0, holdTick := 0, armed := true }) else e) } }

/-- The default state of the Caldera and the meters, its shape kept and its version moved on (04 R123). -/
def State.resetCaldera (s : State) : State :=
  ({ s with
    cald := { CaldBlk.init with shape := s.cald.shape, version := s.cald.version + 1 }
    meter := MeterBlk.init }).predictable [.caldera, .meters]

/-! ## The meanings of the rows -/

def execMixShape (st : Stage) (p : List W32) (s : State) : Host.Outcome State Fault Refusal := .next (s.command 0x40 st p applyMixShape)

def execXpointWrite (st : Stage) (p : List W32) (s : State) : Host.Outcome State Fault Refusal := .next (s.command 0x41 st p applyXpointWrite)

def execGainSet (st : Stage) (p : List W32) (s : State) : Host.Outcome State Fault Refusal := .next (s.command 0x42 st p applyGainSet)

def execBankSwap (st : Stage) (p : List W32) (s : State) : Host.Outcome State Fault Refusal := .next (s.command 0x43 st p applyBankSwap)

def execLimiterSet (st : Stage) (p : List W32) (s : State) : Host.Outcome State Fault Refusal := .next (s.command 0x44 st p applyLimiterSet)

def execMeterConfig (st : Stage) (p : List W32) (s : State) : Host.Outcome State Fault Refusal := .next (s.command 0x45 st p applyMeterConfig)

def execMeterRead (h : CmdHead) (p : List W32) (s : State) : Host.Outcome State Fault Refusal := .next (s.query 0x46 h p queryMeterRead)

def execPeakReset (st : Stage) (p : List W32) (s : State) : Host.Outcome State Fault Refusal := .next (s.command 0x47 st p applyPeakReset)

/-- 01 R14. -/
def execCalderaComplete (t : Nat) (s : State) : Host.Outcome State Fault Refusal := .next ((s.goto t).withWork State.runCaldera)

/-- A gain change has waited W samples without a crossing: its ramp starts with the next sample (04 R107). -/
def GainSt.timeout (g : GainSt) : GainSt :=
  match g.change with
  | some c => if c.wait ≤ c.waited ∧ c.ramp = none then { g with change := some { c with ramp := some (g.lin, 0) } } else g
  | none => g

def execGainTimeout (t : Nat) (bus : Bool) (idx : Nat) (s : State) : Host.Outcome State Fault Refusal :=
  let upd (l : List (Nat × GainSt)) : List (Nat × GainSt) := l.map (fun e => if e.1 == idx then (e.1, e.2.timeout) else e)
  .next ((s.goto t).withWork (fun s =>
    if bus then { s with cald := { s.cald with busG := upd s.cald.busG } }
    else { s with cald := { s.cald with inG := upd s.cald.inG } }))

/-- 04 R112. -/
def execBankLockEnd (s : State) : Host.Outcome State Fault Refusal :=
  .next (s.onCald (fun c => c.settle s.time.tick))

/-- What is published is at once what METER_READ and MW2 show, while the CALDERA island is on (04 R119, R123). -/
def execMeterPublication (t : Nat) (s : State) : Host.Outcome State Fault Refusal :=
  let s := s.goto t
  .next (match s.meter.due with
    | some x => if s.islandOn 8 then s.publish x else s
    | none => s)

end Sys2Proof.Machine
end

