-- ==== Sys2Proof/Machine/Geyser.lean ====
section
/-! DEFINITION. The Geyser (08): modulator groups and channels, arming, load diagnosis, protection, boost control and the
audio that the modulators play. Sense status words and rail values reach it from Machine/Decim.lean. -/

namespace Sys2Proof.Machine
open Sys2Proof

/-! ## Units -/

def State.setG (s : State) (g : Nat) (x : GGroup) : State := { s with gey := { s.gey with groups := s.gey.groups.set g x } }

def State.gch (s : State) (n : Nat) : GChan := s.gey.chans.getD n GChan.init

def State.setCh (s : State) (n : Nat) (c : GChan) : State := { s with gey := { s.gey with chans := s.gey.chans.set n c } }

def chansOf (g : Nat) : List Nat := span (8 * g) (8 * g + 7)

def State.lane (s : State) (l : Nat) : Lane := s.dec.lanes.getD l Lane.init

def State.laneLocked (s : State) (l : Nat) : Bool := (s.lane l).st == .locked

/-- A state in which PS_EN is high (08 Table 8-4). -/
def GMode.live : GMode → Bool
  | .disarmed => false
  | .fault => false
  | .stage => true
  | .diag => true
  | .rampUp => true
  | .armed => true
  | .rampDown => true

/-- DIAG onward. -/
def GMode.fromDiag : GMode → Bool
  | .diag => true
  | .rampUp => true
  | .armed => true
  | .rampDown => true
  | .disarmed => false
  | .fault => false
  | .stage => false

/-- The ticks that 64 samples of a domain take from tick t (44.1 kHz ticks differ). -/
def fadeTicks (f44 : Bool) (d t : Nat) : Nat :=
  ((List.range 80).find? (fun k => samplesBefore f44 d t + 64 ≤ samplesBefore f44 d (t + k))).getD 80

def State.groupFade (s : State) (g : Nat) : Nat := fadeTicks s.route.family44 (s.ggroup g).domain (s.ggroup g).since

/-! ## Transitions of a group -/

/-- A channel whose legs go off with its group; LATCHED stays where the group does not leave it by a disarm. -/
def GChan.halt (c : GChan) (keep : Bool) : GChan :=
  { c with st := if keep && c.st == .latched then .latched else .off, diag := none, fade := none, fromMod := false, runDiag := false }

/-- The group stops at once, in DISARMED or FAULT. -/
def State.haltGroup (s : State) (g : Nat) (st : GMode) (keep : Bool) : State :=
  let s1 := (chansOf g).foldl (fun (s : State) n => s.setCh n ((s.gch n).halt keep)) s
  s1.setG g { s1.ggroup g with
    st := st
    since := s.time.tick
    diagRun := []
    fading := false
    psSince := none
    released := none
    duty := 0
    integ := 0 }

/-- A group fault: every state but DISARMED and FAULT goes to FAULT (08 R217, R228, R230). -/
def State.groupFault (s : State) (g src kind ctx : Nat) : State :=
  if (s.ggroup g).st.live then (s.haltGroup g .fault true).raise src g kind (w32 ctx) else s

def DiagSt.start (t : Nat) : DiagSt := ⟨1, t, 0, 0, 0, 0, none, none⟩

/-- A channel alone is diagnosed (08 R223, R231). -/
def State.startRetry (s : State) (n : Nat) (fromMod runDiag : Bool) : State :=
  s.setCh n { s.gch n with
    st := .retry
    since := s.time.tick
    diag := some (DiagSt.start s.time.tick)
    fade := none
    fromMod := fromMod
    runDiag := runDiag }

def State.enterChan (s : State) (n : Nat) : State :=
  s.setCh n { s.gch n with st := .enter, since := s.time.tick, diag := none, fade := none }

/-- The group begins STAGE (08 R218). -/
def State.stageGroup (s : State) (g rampMs : Nat) (diag : Bool) (only : List Nat) : State :=
  let s1 := if only.isEmpty then
      (chansOf g).foldl (fun (s : State) n =>
        let c := (s.gch n).halt false
        s.setCh n (if diag then c else { c with result := 0, z := 0 })) s
    else s
  s1.setG g { s1.ggroup g with
    st := .stage
    since := s.time.tick
    rampMs := rampMs
    rampTicks := rampMs * 24
    withDiag := diag
    diagRun := only
    fading := false
    psSince := if (s1.ggroup g).psFlt || !s1.laneLocked g then some s.time.tick else none }

/-- The group leaves STAGE (08 R218, R219). -/
def State.leaveStage (s : State) (g : Nat) : State :=
  let x := s.ggroup g
  let t := s.time.tick
  if x.withDiag then
    let run := if x.diagRun.isEmpty then chansOf g else x.diagRun
    let s1 := run.foldl (fun (s : State) n => s.setCh n { s.gch n with diag := some (DiagSt.start t) }) s
    s1.setG g { x with st := .diag, since := t }
  else s.setG g { x with st := .rampUp, since := t }

/-! ## Diagnosis (08 R221-R224) -/

/-- The result code of a diagnosis (08 Table 8-8), the first row that applies. -/
def GGroup.resultOf (x : GGroup) (baseline : Nat) (d : DiagSt) : Nat :=
  let leak : Int := x.iLeak
  let z := d.z.getD 0
  let hasZ := d.z.isSome
  let off := if z < baseline then baseline - z else z - baseline
  if d.trip == some 2 || leak < d.highA || leak < d.highB then 2
  else if d.trip == some 3 || leak < d.lowA || leak < d.lowB then 3
  else if d.trip == some 5 || (hasZ && z < x.zShort) then 5
  else if hasZ && x.zOpen * 10 < z then 4
  else if hasZ && baseline != 0 && x.zTol != 0 && baseline * x.zTol < off * 100 then 6
  else 1

def GGroup.latches (x : GGroup) (r : Nat) : Bool := r == 2 || r == 3 || r == 5 || (r == 4 && !x.openPlay)

def resultWord (r z : Nat) : W32 := pack [(r, 28), (min 0xFFFFFF z, 0)]

/-- A channel takes the result of its diagnosis. -/
def GChan.measured (c : GChan) (r : Nat) (d : DiagSt) : GChan :=
  let cap (a b : Int) : Nat := (clamp 0 65535 (max a b)).toNat
  let short := r == 2 || r == 3
  { c with
    result := r
    z := if short then 0 else min 0xFFFFFF (d.z.getD 0)
    leakA := cap d.highA d.lowA
    leakB := cap d.highB d.lowB
    diag := none }

/-- EVENT_DIAG_DONE (08 Table 8-9). -/
def State.diagDone (s : State) (g : Nat) (retry : Bool) (done : List Nat) : State :=
  let ws := (chansOf g).map (fun n => if done.contains n then resultWord (s.gch n).result (s.gch n).z else 0)
  s.event 0xE6 ([pack [(b2n retry, 31), (g, 0)]] ++ ws ++ [s.tick32])

/-- One failure of a channel (08 R231). -/
def State.failChan (s : State) (n cause : Nat) : State :=
  let g := n / 8
  let c := s.gch n
  let fails := min 15 (c.fails + 1)
  let ctx := pack [(cause, 24), (s.tick16, 0)]
  let c1 := { c with fails := fails, cause := cause, failTick := s.time.tick, since := s.time.tick, diag := none, fade := none }
  let s1 := if cause = 1 then s.noticeOf 0x0C n 0x0F ctx else s
  if (s.ggroup g).retries ≤ fails then (s1.setCh n { c1 with st := .latched }).raise 0x0C n 0x0F ctx
  else s1.setCh n { c1 with st := .tripped }

/-- The diagnosis of a group in DIAG ends with the results of runs (08 R222, R223). -/
def State.endGroupDiag (s : State) (g : Nat) (runs : List (Nat × DiagSt)) : State :=
  let x := s.ggroup g
  let s1 := runs.foldl (fun (s : State) e =>
    let r := x.resultOf (s.gch e.1).baseline e.2
    let c := (s.gch e.1).measured r e.2
    if x.latches r then (s.setCh e.1 { c with st := .latched, since := s.time.tick }).raise 0x0C e.1 0x11 (w32 r)
    else s.setCh e.1 c) s
  let s2 := s1.diagDone g false (runs.map (·.1))
  if x.diagRun.isEmpty then s2.setG g { s2.ggroup g with st := .rampUp, since := s.time.tick }
  else s2.haltGroup g .disarmed true

/-- A single channel's diagnosis ends (08 R222, R223, R231). -/
def State.endRetry (s : State) (e : Nat × DiagSt) : State :=
  let n := e.1
  let g := n / 8
  let x := s.ggroup g
  let c := s.gch n
  let r := x.resultOf c.baseline e.2
  let s1 := (s.setCh n (c.measured r e.2)).diagDone g true [n]
  let c1 := s1.gch n
  if x.latches r then
    if c.fromMod || c.runDiag then (s1.setCh n { c1 with st := .latched, since := s.time.tick }).raise 0x0C n 0x11 (w32 r)
    else s1.failChan n 3
  else if c.runDiag then s1.setCh n { c1 with st := .off, since := s.time.tick }
  else s1.enterChan n

/-- The results decided for a group: of its DIAG, or of single channels of an armed group. -/
def State.takeDiag (s : State) (g : Nat) (runs : List (Nat × DiagSt)) : State :=
  if (s.ggroup g).st == .diag then s.endGroupDiag g runs
  else (runs.filter (fun e => (s.gch e.1).st == .retry)).foldl State.endRetry s

/-- The channels of a group whose diagnosis has run its 576 ticks. -/
def State.diagOver (s : State) (g : Nat) : List (Nat × DiagSt) :=
  let x := s.ggroup g
  (chansOf g).filterMap (fun n =>
    let c := s.gch n
    match c.diag with
    | none => none
    | some d =>
      let from' := if x.st == .diag then x.since else c.since
      if from' + 576 ≤ s.time.tick && (x.st == .diag || (x.st == .armed && c.st == .retry)) then some (n, d) else none)

/-- A step of the diagnosis ends with its measurements: the mean high-pulse and low-pulse currents of a leg in mA, or the
means of |V| in mV and |I| in mA (08 Table 8-7). -/
def DiagSt.take (d : DiagSt) (tick : Nat) (a b : Int) : DiagSt :=
  if d.trip.isSome || tick < d.since + 192 then d
  else
    let d1 := match d.step with
      | 1 => { d with highA := a, lowA := b }
      | 2 => { d with highB := a, lowB := b }
      | 3 => { d with z := some (if b ≤ 0 then 0xFFFFFF else min 0xFFFFFF (roundDiv (a * 1000) b.toNat).toNat) }
      | _ => d
    { d1 with step := d.step + 1, since := d.since + 192 }

/-- The code of a trip in the running step of a diagnosis (08 R221). -/
def DiagSt.tripCode (d : DiagSt) (high : Bool) : Nat := if 3 ≤ d.step then 5 else if high then 2 else 3

/-! ## Trips, pauses and faults (08 R229-R231) -/

/-- A channel's current exceeds I_TRIP (08 R229). -/
def State.tripChan (s : State) (n : Nat) (high : Bool) : State :=
  let c := s.gch n
  let x := s.ggroup (n / 8)
  match c.diag with
  | some d => if d.trip.isSome then s else s.setCh n { c with diag := some { d with trip := some (d.tripCode high) } }
  | none =>
    if c.st == .play || c.st == .enter || c.st == .leave || ((x.st == .rampUp || x.st == .rampDown) && c.st != .latched) then
      s.failChan n 1
    else s

/-- PS_FLT_N is asserted, or the lane is lost: playing channels pause (08 R230). -/
def State.pauseGroup (s : State) (g : Nat) (flt : Bool) : State :=
  let x := s.ggroup g
  let s1 := s.setG g { x with
    psFlt := x.psFlt || flt
    psSince := if x.psSince.isSome then x.psSince else if x.st.live then some s.time.tick else none
    released := none }
  (chansOf g).foldl (fun (s : State) n =>
    let c := s.gch n
    if c.st == .play || c.st == .enter || c.st == .leave || c.st == .retry then
      s.setCh n { c with st := .paused, origin := c.st, since := s.time.tick, diag := none, fade := none }
    else s) s1

/-- The cause of a pause is over; what remains paused acts at the next tick boundary (08 R230). -/
def State.resumeGroup (s : State) (g : Nat) (flt : Bool) : State :=
  let x := s.ggroup g
  let x1 := if flt then { x with psFlt := false } else x
  s.setG g (if !x1.psFlt && (s.follows || s.laneLocked g) then
    { x1 with psSince := none, released := some (s.time.tick + 1) } else x1)

/-- Paused channels act at a boundary, by where they came from. -/
def State.unpause (s : State) (g : Nat) : State :=
  match (s.ggroup g).released with
  | none => s
  | some t =>
    if s.time.tick < t then s
    else
      let s1 := s.setG g { s.ggroup g with released := none }
      if (s.ggroup g).st != .armed then s1
      else
        (chansOf g).foldl (fun (s : State) n =>
          let c := s.gch n
          if c.st != .paused then s
          else if c.origin == .leave then s.setCh n { c with st := .off, since := s.time.tick }
          else if c.origin == .retry then s.startRetry n c.fromMod c.runDiag
          else s.enterChan n) s1

/-- After an unplanned takeover a STAGE or DIAG in progress will begin again (08 R237). -/
def State.redoLater (s : State) : State :=
  { s with gey := { s.gey with groups := s.gey.groups.map (fun (x : GGroup) => { x with redo := x.st == .stage || x.st == .diag }) } }

/-- At the boundary after an unplanned takeover a STAGE or DIAG begins again. -/
def State.redoGroup (s : State) (g : Nat) : State :=
  let x := s.ggroup g
  if !x.redo then s
  else
    let t := s.time.tick
    match x.st with
    | .stage => s.setG g { x with redo := false, since := t, psSince := if x.psFlt || !s.laneLocked g then some t else none }
    | .diag =>
      let s1 := (chansOf g).foldl (fun (s : State) n =>
        let c := s.gch n
        if c.diag.isSome then s.setCh n { c with diag := some (DiagSt.start t) } else s) s
      s1.setG g { s1.ggroup g with redo := false, since := t }
    | _ => s.setG g { x with redo := false }

/-- The stage names channels in CH_FLT: each that plays, enters, leaves or is paused trips (08 R230, R231). -/
def State.chanFaults (s : State) (g mask : Nat) : State :=
  (maskBits 8 mask).foldl (fun (s : State) j =>
    let c := s.gch (8 * g + j)
    if c.st == .play || c.st == .enter || c.st == .leave || c.st == .paused then s.failChan (8 * g + j) 2 else s) s

/-- A rail fault (08 R228). -/
def State.railFault (s : State) (g cause : Nat) : State := s.groupFault g 0x0D 0x12 cause

/-- What a decision about the Geyser does, on the engine that takes it and on the one that follows (08 R237). -/
def State.geyDecision (s : State) (d : Decision) : State :=
  match d with
  | .stageReady g => if (s.ggroup g).st == .stage then s.leaveStage g else s
  | .stageTimeout g => if (s.ggroup g).st == .stage then s.groupFault g 0x0C 0x10 2 else s
  | .diag g runs => s.takeDiag g runs
  | .trip n high => s.tripChan n high
  | .pause g flt => s.pauseGroup g flt
  | .chFlt g mask => s.chanFaults g mask
  | .resume g flt => s.resumeGroup g flt
  | .pauseTimeout g => s.groupFault g 0x0C 0x10 3
  | .rail g cause => s.railFault g cause
  | .decSync _ => s
  | .tdmQualify _ => s
  | .tdmLoss _ _ => s
  | .tdmSlip _ _ => s
  | .tdmRestart _ => s

def State.geyDecide (s : State) (d : Decision) : State := s.decideFor d (fun s => s.geyDecision d)

/-! ## Boost (08 R225, R226) -/

/-- One sample of the group's domain sets the rail target; pk is its largest magnitude over the 8 channels. -/
def GGroup.track (x : GGroup) (fs pk : Nat) : GGroup :=
  let peaks := (pk :: x.peaks).take (x.look + 1)
  let top := peaks.foldl max 0
  let fall := fxMul x.env (fxExp (-(fxOne * 1000 / ((x.release * fs : Nat) : Int))))
  let env := max ((top : Int) * 2 ^ 97) fall
  let vt := clamp (x.railMin * fxOne) (x.railMax * fxOne) (fxMul env (fxPow10 x.headroom 200) * x.vref * 1000 / x.maxMod)
  let up : Int := x.slewUp * 10000 * fxOne / fs
  let dn : Int := x.slewDn * 10000 * fxOne / fs
  { x with peaks := peaks, env := env, tgt := clamp (x.tgt - dn) (x.tgt + up) vt }

/-- The duty is computed again from a rail voltage (08 R226). -/
def GGroup.drive (x : GGroup) (vrail : Int) : GGroup :=
  if !x.bst || !x.st.live || x.tgt ≤ 0 then { x with vrail := vrail, duty := 0 }
  else
    let err := (x.tgt - vrail) / 100
    let base := fxOne - x.vin * fxOne * fxOne / x.tgt + x.kp * err / 4096
    let d := base + x.ki * (x.integ + err) / 65536
    let top := fxOne * 9 / 10
    let held := decide (d < 0 ∨ top < d)
    let integ := if held then x.integ else x.integ + err
    { x with vrail := vrail, integ := integ, duty := clamp 0 top (base + x.ki * integ / 65536) }

/-! ## The audio that plays (08 R212, R219, R220, R227) -/

/-- The gain of sample k, counted from 0, of a fade of 64 samples, in 64ths (07 Table 7-7). -/
def fade64 (up : Bool) (k : Nat) : Nat := if up then min 64 (k + 1) else 64 - min 64 (k + 1)

/-- A channel's fade for the samples of the data tick. A state that began at tick T governs the samples of tick T onward
(08 R219, log 19), so that those of the tick before still follow the state before. -/
def State.fadeNow (s : State) (g n : Nat) : Option (Bool × Nat) :=
  let c := s.gch n
  let x := s.ggroup g
  let d := s.aud.dataTick
  let unheard := c.fade == some (true, 0)
  let down := if unheard then (false, 64) else (c.fade.filter (fun f => !f.1)).getD (false, 0)
  match c.st with
  | .play =>
    if x.st == .rampDown && !(x.fading && decide (d < x.since)) then some down
    else if x.st == .rampDown || x.st == .armed then (if unheard && decide (d < c.since) then some (false, 64) else c.fade)
    else some (false, 64)
  | .enter => if c.since + 240 ≤ d then some ((c.fade.filter (fun f => f.1)).getD (true, 0)) else some (false, 64)
  | .leave => if d < c.since then c.fade else some down
  | .off => some (false, 64)
  | .tripped => some (false, 64)
  | .retry => some (false, 64)
  | .latched => some (false, 64)
  | .paused => some (false, 64)

/-- The fade with which a channel begins LEAVE: that of the samples of the tick before. -/
def GChan.fadeBefore (c : GChan) (t : Nat) : Option (Bool × Nat) :=
  match c.st with
  | .play => if c.fade == some (true, 0) then some (false, 64) else c.fade
  | .enter => if c.since + 240 < t then some (c.fade.getD (true, 0)) else some (false, 64)
  | _ => some (false, 64)

/-- A channel plays the samples of its sink for one tick: delayed by the look-ahead and faded. A clamp of the modulation
depends on the interpolated signal and the rail, which the manual does not give: while the channel sounds, CLIP is set by a
free choice (log 11). -/
def State.playChan (s : State) (n fs : Nat) (xs : List Sample) : List Sample × State :=
  let g := n / 8
  let c := s.gch n
  let r := xs.foldl (fun (a : List Sample × Lim) x =>
    let o := a.2.step fs x
    (a.1 ++ [o.1], o.2.2)) (([] : List Sample), c.dlyBack.getD c.dly)
  let dly := if c.dlyBack.isSome then r.2.set false c.dly.look c.dly.thresh c.dly.release else r.2
  let f := s.fadeNow g n
  let y := match f with
    | none => r.1
    | some (up, k) => (r.1.zipIdx).map (fun e => roundDiv (e.1 * (fade64 up (k + e.2) : Int)) 64)
  let f' := match f with
    | none => none
    | some (up, k) =>
      if c.fade == some (true, 0) && !up then c.fade
      else if up && 64 ≤ k + xs.length && c.st != .enter then none
      else some (up, min 64 (k + xs.length))
  let sounds := y.any (fun v => v != 0)
  let c1 := { c with dly := dly, dlyBack := none, fade := f', clip := c.clip || (sounds && Config.freeBool s.fresh) }
  (y, { s with fresh := s.fresh + 1 }.setCh n c1)

/-- Every modulator plays the tick that ends: ins holds the sink samples of its data tick. -/
def State.playAll (s : State) (ins : List (Nat × List Sample)) : State :=
  if !s.islandOn 12 then { s with aud := { s.aud with played := [] } }
  else
    (ins.filter (fun e => addrClass e.1 == 9)).foldl (fun (s : State) e =>
      let n := addrIndex e.1
      let r := s.playChan n (domainRate s.route.family44 (s.ggroup (n / 8)).domain) e.2
      { r.2 with aud := { r.2.aud with played := kset r.2.aud.played e.1 r.1 } }) { s with aud := { s.aud with played := [] } }

/-- The groups whose boost tracks follow the newest samples of their sinks. -/
def State.trackAll (s : State) (ins : List (Nat × List Sample)) : State :=
  (List.range 24).foldl (fun (s : State) g =>
    let x := s.ggroup g
    if !x.bst then s
    else
      let fs := domainRate s.route.family44 x.domain
      let n := tickSamples s.route.family44 x.domain s.aud.dataTick
      let pk (j : Nat) : Nat := ((chansOf g).map (fun c => ((kgetD ins (0x9000 + c) []).getD j 0).natAbs)).foldl max 0
      s.setG g ((List.range n).foldl (fun x j => x.track fs (pk j)) x)) s

/-! ## Commands -/

def groupMask (w : W32) : List Nat := maskBits 24 (fld w 23 0)

def State.geyOff (s : State) : Bool := !s.islandOn 12

def State.setGroups (s : State) (l : List Nat) (f : GGroup → GGroup) : State :=
  l.foldl (fun (s : State) g => s.setG g (f (s.ggroup g))) s

/-- MOD_CONFIG (08 R216). -/
def applyModConfig (p : List W32) (s : State) : Ans :=
  let l := groupMask (pw p 3)
  let w4 := pw p 4
  let w5 := pw p 5
  let w6 := pw p 6
  let bad := fld (pw p 3) 31 24 != 0 || fld w4 31 30 == 3 || fld w4 29 28 == 3 || fld w4 19 10 < 500 || 1000 < fld w4 19 10 ||
    fld w4 9 0 != 0 || fld w5 31 16 == 0 || fld w5 15 0 != 0 || fld w6 31 20 < 200 || 1000 < fld w6 31 20 ||
    fld w6 19 12 < 50 || 200 < fld w6 19 12 || fld w6 11 0 != 0
  if s.geyOff || l.any (fun g => (s.ggroup g).st.live) then .refuse stState s
  else if bad then .ok (s.hostError .geyser)
  else
    (s.setGroups l (fun x => { x with
      domain := fld w4 31 30
      carrier := fld w4 29 28
      lc := bit w4 27
      stagger := bit w4 26
      minPulse := fld w4 25 20
      maxMod := fld w4 19 10
      vref := fld w5 31 16
      lcFc := fld w6 31 20
      lcQ := fld w6 19 12 })).reassign s

/-- MOD_ARM (08 R218). -/
def applyModArm (p : List W32) (s : State) : Ans :=
  let l := groupMask (pw p 3)
  let w4 := pw p 4
  let ms := fld w4 9 1
  let bad := fld (pw p 3) 31 24 != 0 || fld w4 31 10 != 0 || (ms != 0 && (ms < 10 || 500 < ms))
  if s.geyOff || l.any (fun g => (s.ggroup g).st.live) || (!l.isEmpty && !s.islandOn 13) ||
      l.any (fun g => (s.lane g).st == .off) then .refuse stState s
  else if bad then .ok (s.hostError .geyser)
  else .ok (l.foldl (fun (s : State) g => s.stageGroup g (if ms = 0 then 100 else ms) (bit w4 0) []) s)

/-- A group is disarmed (08 R220). -/
def State.disarm (s : State) (g : Nat) (fast : Bool) : State :=
  let x := s.ggroup g
  if fast then s.haltGroup g .disarmed false
  else
    match x.st with
    | .stage => s.haltGroup g .disarmed false
    | .diag => s.haltGroup g .disarmed false
    | .fault => s.haltGroup g .disarmed false
    | .armed =>
      let s1 := (chansOf g).foldl (fun (s : State) n =>
        let c := s.gch n
        if c.st == .retry then s.setCh n { c with st := .off, diag := none } else s) s
      s1.setG g { x with st := .rampDown, since := s.time.tick, fading := true, reversed := false, rampTicks := x.rampMs * 24 }
    | .rampUp => s.setG g { x with st := .rampDown, rampTicks := s.time.tick - x.since, since := s.time.tick, fading := false, reversed := true }
    | .rampDown => s
    | .disarmed => s

/-- MOD_DISARM (08 R220). -/
def applyModDisarm (p : List W32) (s : State) : Ans :=
  let w4 := pw p 4
  if s.geyOff then .refuse stState s
  else if fld (pw p 3) 31 24 != 0 || fld w4 31 10 != 0 then .ok (s.hostError .geyser)
  else .ok ((groupMask (pw p 3)).foldl (fun (s : State) g => s.disarm g (bit w4 0)) s)

/-- The channels that a mask of six words names, from word n of the packet. -/
def chanMask (p : List W32) (n : Nat) : List Nat := (List.range 192).filter (fun c => bit (pw p (n + c / 32)) (c % 32))

/-- LOAD_DIAG_RUN (08 R223). -/
def applyLoadDiagRun (p : List W32) (s : State) : Ans :=
  let l := chanMask p 3
  let idle := l.filter (fun n => (s.ggroup (n / 8)).st == .disarmed)
  let armed := l.filter (fun n => (s.ggroup (n / 8)).st == .armed && ((s.gch n).st == .off || (s.gch n).st == .latched))
  if s.geyOff || l.length != idle.length + armed.length then .refuse stState s
  else
    let gs := (idle.map (· / 8)).eraseDups
    let s1 := gs.foldl (fun (s : State) g => s.stageGroup g (s.ggroup g).rampMs true (idle.filter (fun n => n / 8 == g))) s
    .ok (armed.foldl (fun (s : State) n => s.startRetry n false true) s1)

/-- The three words of a channel (08 Table 8-10). -/
def State.chanWords (s : State) (n : Nat) : List W32 :=
  let c := s.gch n
  [resultWord c.result c.z, pack [((s.ggroup (n / 8)).st.code, 28), (c.st.code, 24), (c.fails, 20), (b2n c.clip, 19)],
    pack [(c.leakA, 16), (c.leakB, 0)]]

/-- LOAD_DIAG_RESULT (08 R224). -/
def queryLoadDiagResult (p : List W32) (s : State) : Ans :=
  let w3 := pw p 3
  let a := fld w3 15 8
  let b := fld w3 7 0
  let l := span a b
  if s.geyOff then .refuse stState s
  else if fld w3 30 16 != 0 || b < a || 191 < b then .ok (s.hostError .geyser)
  else .okData (l.flatMap s.chanWords)
    (if bit w3 31 then l.foldl (fun (s : State) n => s.setCh n { s.gch n with clip := false }) s else s)

/-- PROTECT_CONFIG (08 Table 8-12). -/
def applyProtectConfig (p : List W32) (s : State) : Ans :=
  let w4 := pw p 4
  let w5 := pw p 5
  let w6 := pw p 6
  let w7 := pw p 7
  let w8 := pw p 8
  let bad := fld (pw p 3) 31 24 != 0 || fld w6 31 24 == 0 || fld w6 23 20 == 0 || fld w6 18 0 != 0 || 100 < fld w8 15 8 || 200 < fld w8 7 0
  if s.geyOff then .refuse stState s
  else if bad then .ok (s.hostError .geyser)
  else .ok (s.setGroups (groupMask (pw p 3)) (fun x => { x with
    iFs := fld w4 31 16
    iTrip := fld w4 15 0
    vFs := fld w5 31 16
    railFs := fld w5 15 0
    retryMs := fld w6 31 24
    retries := fld w6 23 20
    openPlay := bit w6 19
    zOpen := fld w7 31 16
    zShort := fld w7 15 0
    iLeak := fld w8 31 16
    zTol := fld w8 15 8
    tLimit := fld w8 7 0 }))

/-- BOOST_CONFIG (08 R227): a change of the delay is faded over 64 samples, from those of the apply tick onward. -/
def applyBoostConfig (p : List W32) (s : State) : Ans :=
  let l := groupMask (pw p 3)
  let w4 := pw p 4
  let w5 := pw p 5
  let w6 := pw p 6
  let w7 := pw p 7
  let look := fld w4 30 24
  let bad := fld (pw p 3) 31 24 != 0 || 64 < look || 120 < fld w4 21 12 || bit w4 11 || fld w4 10 0 == 0 || 2000 < fld w4 10 0 ||
    fld w5 15 0 < fld w5 31 16 || fld w6 31 16 == 0 || fld w6 15 0 == 0
  if s.geyOff then .refuse stState s
  else if bad then .ok (s.hostError .geyser)
  else
    let s1 := s.setGroups l (fun x => { x with
      bst := bit w4 31
      look := look
      bstDiv := fld w4 23 22
      headroom := fld w4 21 12
      release := fld w4 10 0
      railMin := fld w5 31 16
      railMax := fld w5 15 0
      slewUp := fld w6 31 16
      slewDn := fld w6 15 0
      vin := fld w7 31 16
      kp := fld w7 15 8
      ki := fld w7 7 0 })
    .ok (l.foldl (fun (s : State) g => (chansOf g).foldl (fun (s : State) n =>
      let c := s.gch n
      s.setCh n { c with
        dly := c.dly.set false (if bit w4 31 then look else 0) c.dly.thresh c.dly.release
        dlyBack := some (c.dlyBack.getD c.dly) }) s) s1)

/-- MOD_CHANNEL_ENABLE (08 R233). -/
def applyModChannelEnable (p : List W32) (s : State) : Ans :=
  if s.geyOff then .refuse stState s
  else if fld (pw p 15) 31 1 != 0 then .ok (s.hostError .geyser)
  else
    let on := chanMask p 9
    let diag := bit (pw p 15) 0
    .ok ((chanMask p 3).foldl (fun (s : State) n =>
      let v := on.contains n
      let c := { s.gch n with enabled := v }
      let s1 := s.setCh n c
      if (s.ggroup (n / 8)).st != .armed then s1
      else if v then
        let z := s.setCh n { c with fails := 0 }
        if diag && (c.st == .off || c.st == .latched) then z.startRetry n true false
        else if !diag && c.st == .off then z.enterChan n
        else s1
      else if c.st == .play || c.st == .enter || c.st == .paused then
        s1.setCh n { c with st := .leave, since := s.time.tick, fade := c.fadeBefore s.time.tick }
      else s1) s)

/-- BLOCK_RESET of the Geyser (08 R239). -/
def State.resetGeyser (s : State) : State :=
  let s1 := (List.range 24).foldl (fun (s : State) g => s.haltGroup g .disarmed false) s
  ({ s1 with gey := { s1.gey with chans := s1.gey.chans.map (fun (c : GChan) => { GChan.init with baseline := c.baseline, dly := c.dly }) } }).predictable [.geyser]

/-! ## The meanings of the rows -/

def execModConfig (st : Stage) (p : List W32) (s : State) : Host.Outcome State Fault Refusal := .next (s.command 0x70 st p applyModConfig)

def execModArm (st : Stage) (p : List W32) (s : State) : Host.Outcome State Fault Refusal := .next (s.command 0x71 st p applyModArm)

def execModDisarm (st : Stage) (p : List W32) (s : State) : Host.Outcome State Fault Refusal := .next (s.command 0x72 st p applyModDisarm)

def execLoadDiagRun (st : Stage) (p : List W32) (s : State) : Host.Outcome State Fault Refusal := .next (s.command 0x73 st p applyLoadDiagRun)

def execLoadDiagResult (h : CmdHead) (p : List W32) (s : State) : Host.Outcome State Fault Refusal := .next (s.query 0x74 h p queryLoadDiagResult)

def execProtectConfig (st : Stage) (p : List W32) (s : State) : Host.Outcome State Fault Refusal := .next (s.command 0x75 st p applyProtectConfig)

def execBoostConfig (st : Stage) (p : List W32) (s : State) : Host.Outcome State Fault Refusal := .next (s.command 0x76 st p applyBoostConfig)

def execModChannelEnable (st : Stage) (p : List W32) (s : State) : Host.Outcome State Fault Refusal := .next (s.command 0x77 st p applyModChannelEnable)

/-- 08 R218: the conditions hold at a boundary after the apply tick's; the row itself says that the rail is measured at 90 %
of RAIL_MIN. -/
def execStageReady (g : Nat) (s : State) : Host.Outcome State Fault Refusal :=
  let x := s.ggroup g
  let l := s.lane g
  onUnit (g < 24)
    (if x.st == .stage && decide (x.since < s.time.tick) && l.st == .locked && l.psOk && !x.psFlt then s.geyDecide (.stageReady g) else s)

/-- 50 ms are 1,200 ticks. -/
def execStageTimeout (t g : Nat) (s : State) : Host.Outcome State Fault Refusal :=
  let s := s.goto t
  let x := s.ggroup g
  onUnit (g < 24) (if x.st == .stage && decide (x.since + 1200 ≤ s.time.tick) then s.geyDecide (.stageTimeout g) else s)

def execDiagStepEnd (g : Nat) (meas : List (Nat × Int × Int)) (s : State) : Host.Outcome State Fault Refusal :=
  onUnit (g < 24) (meas.foldl (fun (s : State) m =>
    if m.1 / 8 == g then
      let c := s.gch m.1
      s.setCh m.1 { c with diag := c.diag.map (fun d => d.take s.time.tick m.2.1 m.2.2) }
    else s) s)

def execDiagComplete (t g : Nat) (s : State) : Host.Outcome State Fault Refusal :=
  let s := s.goto t
  let l := s.diagOver g
  onUnit (g < 24) (if l.isEmpty then s else s.geyDecide (.diag g l))

/-- 08 R219. -/
def execRampUpComplete (g : Nat) (s : State) : Host.Outcome State Fault Refusal :=
  let x := s.ggroup g
  let t := s.time.tick
  onUnit (g < 24)
    (if x.st == .rampUp && decide (x.since + x.rampTicks ≤ t) then
      (chansOf g).foldl (fun (s : State) n =>
        let c := s.gch n
        if c.st == .off && c.enabled then s.setCh n { c with st := .play, since := t, playSince := t, fade := some (true, 0) } else s)
        (s.setG g { x with st := .armed, since := t })
    else s)

/-- 08 R220: the ramp starts at the first boundary after the fade of 64 samples. -/
def execDisarmFadeComplete (g : Nat) (s : State) : Host.Outcome State Fault Refusal :=
  let x := s.ggroup g
  onUnit (g < 24)
    (if x.st == .rampDown && x.fading && decide (x.since + s.groupFade g ≤ s.time.tick) then
      s.setG g { x with fading := false, since := s.time.tick } else s)

def execRampDownComplete (g : Nat) (s : State) : Host.Outcome State Fault Refusal :=
  let x := s.ggroup g
  onUnit (g < 24)
    (if x.st == .rampDown && !x.fading && decide (x.since + x.rampTicks ≤ s.time.tick) then s.haltGroup g .disarmed false else s)

/-- 08 R229: in every group state in which PS_EN is high; high tells the polarity of a diagnostic pulse. -/
def execOvercurrentTrip (t ch : Nat) (high : Bool) (s : State) : Host.Outcome State Fault Refusal :=
  let s := s.goto t
  onUnit (ch < 192) (if (s.ggroup (ch / 8)).st.live then s.geyDecide (.trip ch high) else s)

def execPsFltAssert (t g : Nat) (s : State) : Host.Outcome State Fault Refusal :=
  onUnit (g < 24) ((s.goto t).geyDecide (.pause g true))

def execPsFltRelease (t g : Nat) (s : State) : Host.Outcome State Fault Refusal :=
  onUnit (g < 24) ((s.goto t).geyDecide (.resume g true))

/-- 100 ms are 2,400 ticks. -/
def execPsFaultTimeout (t g : Nat) (s : State) : Host.Outcome State Fault Refusal :=
  let s := s.goto t
  let beyond := match (s.ggroup g).psSince with
    | some u => decide (u + 2400 ≤ s.time.tick)
    | none => false
  onUnit (g < 24) (if beyond then s.geyDecide (.pauseTimeout g) else s)

/-- RETRY_MS after the boundary of the failure's tick; it waits while the group is paused (08 R230, R231). -/
def execChannelRetryStart (ch : Nat) (s : State) : Host.Outcome State Fault Refusal :=
  let c := s.gch ch
  let x := s.ggroup (ch / 8)
  onUnit (ch < 192)
    (if c.st == .tripped && x.st == .armed && decide (c.failTick + x.retryMs * 240 ≤ s.time.tick) && !x.psFlt && s.laneLocked (ch / 8) then
      s.startRetry ch false false else s)

/-- 10 s are 240,000 ticks. -/
def execFailureCountReset (ch : Nat) (s : State) : Host.Outcome State Fault Refusal :=
  let c := s.gch ch
  onUnit (ch < 192) (if c.st == .play && decide (c.playSince + 240000 ≤ s.time.tick) then s.setCh ch { c with fails := 0 } else s)

/-- 08 Table 8-13: 240 ticks of ramp and 64 samples. -/
def execChannelEnterComplete (ch : Nat) (s : State) : Host.Outcome State Fault Refusal :=
  let c := s.gch ch
  let n := fadeTicks s.route.family44 (s.ggroup (ch / 8)).domain (c.since + 240)
  onUnit (ch < 192)
    (if c.st == .enter && decide (c.since + 240 + n ≤ s.time.tick) then s.setCh ch { c with st := .play, since := s.time.tick, playSince := s.time.tick }
    else s)

def execChannelLeaveComplete (ch : Nat) (s : State) : Host.Outcome State Fault Refusal :=
  let c := s.gch ch
  let n := fadeTicks s.route.family44 (s.ggroup (ch / 8)).domain c.since
  onUnit (ch < 192)
    (if c.st == .leave && decide (c.since + n + 240 ≤ s.time.tick) then s.setCh ch { c with st := .off, since := s.time.tick, fade := none } else s)

/-- 08 R228: suspended while the lane is not LOCKED. -/
def execBoostOvervoltage (t g : Nat) (s : State) : Host.Outcome State Fault Refusal :=
  let s := s.goto t
  onUnit (g < 24) (if (s.ggroup g).st.live && s.laneLocked g then s.geyDecide (.rail g 1) else s)

def execBoostUndervoltage (t g : Nat) (s : State) : Host.Outcome State Fault Refusal :=
  let s := s.goto t
  onUnit (g < 24) (if (s.ggroup g).st.fromDiag && s.laneLocked g then s.geyDecide (.rail g 2) else s)

end Sys2Proof.Machine
end

