-- ==== Sys2Proof/Machine/Decim.lean ====
section
/-! DEFINITION. The decimator bank and the sense lanes (07): the chain of a context from stage 1 to its source samples, the
detector, clip and stuck reports, synchronisation, and the status words of the lanes. -/

namespace Sys2Proof.Machine
open Sys2Proof

def State.setCtx (s : State) (i : Nat) (c : DecCtx) : State := { s with dec := { s.dec with ctxs := s.dec.ctxs.set i c } }

def State.setLane (s : State) (l : Nat) (x : Lane) : State := { s with dec := { s.dec with lanes := s.dec.lanes.set l x } }

def State.decOff (s : State) : Bool := !s.islandOn 13

/-! ## The chain (07 R183-R188, R195) -/

/-- A context's bitstream runs: its converter clock is on, or its lane is LOCKED (07 R180, R201). -/
def State.decClocked (s : State) (i : Nat) : Bool :=
  if i < 128 then s.dec.clk.getD (i / 32) 0 != 0
  else if i < 512 then s.laneLocked ((i - 128) / 16)
  else s.laneLocked ((i - 512) / 2)

/-- The power of two of the preset output rate over 48 kHz; the fractional stage takes the x4 output (07 R187). -/
def DecCtx.preDom (c : DecCtx) : Nat := min 2 c.domain

def DecCtx.preRate (c : DecCtx) : Nat := 48000 * 2 ^ c.preDom

/-- The output rate of a context. -/
def DecCtx.rateHz (c : DecCtx) : Nat := if c.domain < 3 then 48000 * 2 ^ c.domain else c.rate

/-- The output samples of tick d: sample k of a fractional context belongs to the tick of the instant k / RATE (07 R187). -/
def DecCtx.outCount (c : DecCtx) (d : Nat) : Nat :=
  if c.domain < 3 then 2 * 2 ^ c.domain else ceilDiv ((d + 1) * c.rate) 24000 - ceilDiv (d * c.rate) 24000

/-- The settle time in ticks: twice the preset delay (07 R197). -/
def settleTicks (preset : Nat) : Nat := match preset with
  | 0 => 3
  | 1 => 9
  | _ => 20

/-- A restart at boundary b (07 R197): the blocker and the fast path are kept. -/
def DecCtx.restart (c : DecCtx) (b : Nat) : DecCtx :=
  { c with settle := some (b + settleTicks c.preset), settling := true, fade := none, block := [] }

/-- Stage 1 and 2 of tick d: the preset filter's output is a free value (log 11). -/
def State.decStage2 (s : State) (i d : Nat) : List Sample × State :=
  let c := s.dctx i
  let n := 2 * 2 ^ c.preDom
  if !s.decClocked i then (List.replicate n 0, s)
  else
    let raw := (List.range n).map (fun j => satQ31 (Config.freeInt s.fresh j) * 2 ^ c.scale)
    let s1 := { s with fresh := s.fresh + 1 }
    let s2 :=
      if raw.any (fun v => satQ31 v != v) && c.overTick != some d then
        (s1.setCtx i { c with overTick := some d }).raise 0x0B (if i < 128 then 0 else 1) 0x0E (pack [(d % 65536, 16), (i, 0)])
      else s1
    (raw.map satQ31, s2)

/-- One sample through the DC blocker (07 R195). -/
def DecCtx.block1 (c : DecCtx) (x : Sample) : Sample × DecCtx :=
  if !c.dc then (x, c)
  else
    let a := fxOne - fxExp (-(2 * fxPi * (c.dcCorner : Int) / (100 * c.rateHz : Nat)))
    (satQ31 (x - c.m), if c.dcFreeze then c else { c with m := roundDiv (c.m * fxOne + a * (x - c.m)) (2 ^ 128) })

/-- A context's output of tick d under its settle time and fade-in (07 R197). -/
def DecCtx.fadeIn (c : DecCtx) (d : Nat) (ys : List Sample) : List Sample × DecCtx :=
  match c.settle with
  | none => (ys, c)
  | some e =>
    if d + settleTicks c.preset < e then (ys, c)
    else if d < e then (ys.map (fun _ => 0), c)
    else
      let k := c.fade.getD 0
      let out := (ys.zipIdx).map (fun p => roundDiv (p.1 * (fade64 true (k + p.2) : Int)) 64)
      let k' := k + ys.length
      (out, if 64 ≤ k' then { c with settle := none, settling := false, fade := none } else { c with fade := some k' })

/-- Stages 3 to 5 of tick d on its stage 2 samples; the fractional stage is a free value (log 11). -/
def State.decStages (s : State) (i d : Nat) (xs : List Sample) : List Sample × State :=
  let c := s.dctx i
  let base := d * (2 * 2 ^ c.preDom)
  let mine := (xs.zipIdx).map (fun p => (base + p.2, p.1))
  let c1 := if c.det then { c with block := if d % c.detBlock = 0 then mine else c.block ++ mine } else c
  if !s.decClocked i && !s.follows then
    (List.replicate (c.outCount d) 0, s.setCtx i c1)
  else
    let st4 := if c.domain < 3 then xs else (List.range (c.outCount d)).map (fun j => satQ31 (Config.freeInt s.fresh j))
    let s1 := if c.domain < 3 then s else { s with fresh := s.fresh + 1 }
    let r := st4.foldl (fun (a : List Sample × DecCtx) x =>
      let o := a.2.block1 x
      (a.1 ++ [o.1], o.2)) (([] : List Sample), c1)
    let f := r.2.fadeIn d r.1
    (f.1, s1.setCtx i f.2)

/-- The source address of a context (07 R182). -/
def ctxAddr (i : Nat) : Nat := if i < 128 then 0x4000 + i else 0xC000 + (i - 128)

/-- The bank makes the samples of tick d of every enabled context, from the stage 2 samples that the active forwarded
where there are any (07 R206). The first result lists the stage 2 samples by source address. -/
def State.runDec (s : State) (d : Nat) (fwd : List (Nat × List Sample)) : List (Nat × List Sample) × State :=
  if s.decOff then ([], s)
  else
    ((List.range 512).filter (fun i => (s.dctx i).enable)).foldl (fun (a : List (Nat × List Sample) × State) i =>
      let own := a.2.decStage2 i d
      let xs := (kget fwd (ctxAddr i)).getD own.1
      let r := own.2.decStages i d xs
      (a.1 ++ [(ctxAddr i, xs)], { r.2 with aud := { r.2.aud with cap := kset r.2.aud.cap (ctxAddr i) r.1 } })) ([], s)

/-! ## The detector (07 R192, R194) -/

/-- The two sums of a block at f Hz, in units of 2^-95: cosine and sine. -/
def detSums (f fs : Nat) (block : List (Nat × Sample)) : Int × Int :=
  let r := block.foldl (fun (a : Int × Int) p =>
    (a.1 + p.2 * fxSin (4 * (f * p.1 % fs) + fs) (4 * fs), a.2 + p.2 * fxSin (f * p.1 % fs) fs)) (0, 0)
  (r.1 / 2 ^ 64, r.2 / 2 ^ 64)

/-- 10 log10 of n / 2^k in 0.01 dB, without the floor of -144.00 dB; none for zero. -/
def powerLevel (n k : Nat) : Option Int :=
  if n = 0 then none else some ((2 * (fxLn n k * 1000) + fxLn10) / (2 * fxLn10))

/-- A level as its 16-bit code: 0x8000 below -144.00 dB. -/
def levelWord (l : Option Int) : Nat :=
  match l with
  | none => 0x8000
  | some v => if v < -14400 then 0x8000 else code 16 v

/-- The largest k below 2^n, from acc, at which the direction (x, y), y not negative, has not been passed; angles in
units of pi / 2^16. -/
def angleSearch (x y : Int) : Nat → Nat → Nat
  | 0, acc => acc
  | n + 1, acc =>
    let k := acc + 2 ^ n
    if 0 ≤ fxSin (k + 32768) 131072 * y - fxSin k 131072 * x then angleSearch x y n k else angleSearch x y n acc

/-- The angle of (x, y) in units of 2 pi / 65536, rounded. -/
def angle16 (x y : Int) : Nat :=
  let back := decide (y < 0 ∨ (y = 0 ∧ x < 0))
  let h := if back then 65536 + angleSearch (-x) (-y) 16 0 else angleSearch x y 16 0
  (h + 1) / 2 % 65536

/-- EVENT_DETECT (07 Table 7-5). -/
def State.detectEvent (s : State) (kind i level phase tick : Nat) : State :=
  s.event 0xEA [pack [(kind, 28), (i, 0)], pack [(level, 16), (phase, 0)], w32 tick]

/-- A block ends: level, phase, presence and reports. -/
def State.endBlock (s : State) (i p : Nat) : State :=
  let c := s.dctx i
  if c.block.isEmpty then s
  else
    let s1 := s.setCtx i { c with block := [], skipBlock := false }
    if c.skipBlock then s1
    else
      let q := detSums c.detFreq c.preRate c.block
      let n := c.block.length
      let level := powerLevel ((4 * (q.1 * q.1 + q.2 * q.2)).toNat / (n * n)) 190
      let on : Int := -(10 * c.detPresent : Nat)
      let present := match level with
        | none => false
        | some v => if on ≤ v then true else if v ≤ on - 300 then false else c.present
      let phase := angle16 q.2 q.1
      let s2 := s1.setCtx i { c with block := [], skipBlock := false, present := present }
      if !c.detReport then s2.detectEvent 0 i (levelWord level) phase p
      else if present != c.present then s2.detectEvent (if present then 1 else 2) i (levelWord level) phase p
      else s2

/-! ## The fast path (07 R191, R194) -/

/-- k + 2 over 2, and 0 below 0. -/
def tri (k : Int) : Int := if k < 0 then 0 else (k + 1) * (k + 2) / 2

/-- Tap k of three averages of r bits in a row. -/
def sincTap (r k : Nat) : Int := tri k - 3 * tri ((k : Int) - r) + 3 * tri ((k : Int) - 2 * r) - tri ((k : Int) - 3 * r)

/-- The value of the newest bits, times 2^scale and saturated. -/
def fastValue (r scale : Nat) (bits : List Bool) : Sample :=
  let ones := ((bits.take (3 * r - 2)).zipIdx).foldl (fun (a : Int) p => if p.1 then a + sincTap r p.2 else a) 0
  satQ31 ((2 * ones - (r * r * r : Nat)) * 2 ^ 31 / (r * r * r : Nat) * 2 ^ scale)

/-- A magnitude in units of 2^-31 is at or above a/b decades. -/
def atLeastLevel (v : Sample) (a : Int) (b : Nat) : Bool := decide (fxPow10 a b ≤ (v.natAbs : Int) * 2 ^ 97)

/-- The clip detection on a value. -/
def State.clipCheck (s : State) (i : Nat) (v : Sample) : State :=
  let c := s.dctx i
  if !(c.clipEn && decide (i < 128)) then s
  else
    let still := c.clipped && (match c.clipQuietFrom with
      | some t => !decide (t + 2 ≤ s.time.tick)
      | none => true)
    let high := atLeastLevel v (-(c.clipLevel : Int)) 200
    let loud := (v.natAbs != 0) && !decide ((v.natAbs : Int) * 2 ^ 97 ≤ fxPow10 (-(10 * c.clipLevel + 300 : Nat)) 2000)
    let s1 := s.setCtx i { c with
      clipped := still || high
      clipQuietFrom := if loud then some s.time.tick else c.clipQuietFrom }
    if high && !still then s1.detectEvent 3 i (levelWord (powerLevel (v.natAbs * v.natAbs) 62)) 0 s.time.tick else s1

/-- A fast-path value is made from the period's bits, oldest first. -/
def State.fastStep (s : State) (i : Nat) (bits : List Bool) : State :=
  if s.decOff || !s.decClocked i then s
  else
    let c := s.dctx i
    let r := if i < 128 && s.dec.clk.getD (i / 32) 0 == 2 then 32 else 16
    let hist := (bits.reverse ++ c.bits).take (3 * r)
    let v := fastValue r c.scale hist
    let moved := match c.stuck with
      | some b => bits.any (fun x => x != b)
      | none => false
    let s1 := (s.setCtx i { c with bits := hist, fast := v, stuck := if moved then none else c.stuck }).clipCheck i v
    if i < 512 then s1
    else
      let l := (i - 512) / 2
      let s2 := s1.setLane l (if i % 2 = 0 then { s1.lane l with rail := v } else s1.lane l)
      if i % 2 = 0 then
        let g := s2.ggroup l
        let volt := clamp 0 ((g.railFs : Int) * fxOne) (Config.freeInt s2.fresh 0)
        ({ s2 with fresh := s2.fresh + 1 }).setG l (g.drive volt)
      else s2

/-! ## Synchronisation (07 R196-R198) -/

/-- Every enabled context 0-127 restarts at boundary b. -/
def State.syncAt (s : State) (b : Nat) : State :=
  { s with dec := { s.dec with ctxs := s.dec.ctxs.mapIdx (fun i c => if i < 128 && c.enable then c.restart b else c) } }

/-- A boundary that waits for its synchronisation. -/
def State.addSync (s : State) (b : Nat) : State :=
  if s.dec.syncs.contains b then s else { s with dec := { s.dec with syncs := s.dec.syncs ++ [b] } }

/-- A pulse on DEC_SYNC_OUT before boundary b: an owned output (07 R181, R198). -/
def State.syncPulse (s : State) (b : Nat) : State :=
  if s.pair.owner && !s.decOff then
    s.emit (.pulse .decSyncOut (b - 1) (boundaryNs b - boundaryNs (b - 1) - 10000) 1302)
  else s

/-- Synchronisations that are due. -/
def State.runSyncs (s : State) : State :=
  let due := s.dec.syncs.filter (fun b => decide (b ≤ s.time.tick))
  let s1 := { s with dec := { s.dec with syncs := s.dec.syncs.filter (fun b => !decide (b ≤ s.time.tick)) } }
  if s.decOff then s1 else due.foldl State.syncAt s1

/-! ## Sense lanes (07 R199-R202) -/

def crc8 (w : W32) : Nat :=
  (List.range 24).foldl (fun (c : Nat) i =>
    let top := (c / 128 + b2n (bit w (31 - i))) % 2
    let sh := c * 2 % 256
    if top = 1 then Nat.xor sh 7 else sh) 0

/-- A status word whose SYNC and CRC are valid (07 Table 7-9). -/
def statusValid (w : W32) : Bool := fld w 31 26 == 0b101100 && fld w 7 0 == crc8 w

def Lane.takeBits (x : Lane) (w : W32) (density : Nat) : Lane :=
  { x with psOk := bit w 25, otWarn := bit w 24, railUv := bit w 23, chFlt := fld w 22 15, density := density }

/-- What a lane that is not LOCKED reads. -/
def Lane.blank (x : Lane) (st : LaneMode) : Lane :=
  { x with st := st, valid := 0, bad := 0, psOk := false, otWarn := false, railUv := false, chFlt := 0, density := 0, rail := 0 }

/-- The stage temperature in 0.1 degrees. -/
def Lane.temp (x : Lane) : Int := roundDiv (2500 * (x.density : Int)) 65536 - 500

/-- EVENT_THERMAL of a group (08 R232). -/
def State.stageHeat (s : State) (g : Nat) : State :=
  let x := s.lane g
  let y := s.ggroup g
  let hot := x.otWarn || decide ((10 * y.tLimit : Nat) ≤ x.temp)
  if hot && !y.hotSent then
    (s.setG g { y with hotSent := true }).event 0xEB [pack [(3, 28), (g, 0)], pack [(code 16 x.temp, 16)], s.tick32]
  else if y.hotSent && !x.otWarn && decide (x.temp ≤ (10 * y.tLimit : Nat) - 50) then s.setG g { y with hotSent := false }
  else s

/-- A valid word's bits act (08 R228, R231, R232). -/
def State.laneBits (s : State) (l : Nat) : State :=
  let s1 := s.stageHeat l
  let s2 := if (s.lane l).chFlt = 0 then s1 else s1.geyDecide (.chFlt l (s.lane l).chFlt)
  if (s.lane l).railUv && (s2.ggroup l).st.fromDiag then s2.geyDecide (.rail l 3) else s2

/-- A lane is LOCKED: its contexts restart at the next boundary, and a pause it caused ends. -/
def State.laneLocks (s : State) (l : Nat) : State :=
  let b := s.time.tick + 1
  let s1 := { s with dec := { s.dec with ctxs := s.dec.ctxs.mapIdx (fun i c =>
    if 128 + 16 * l ≤ i && i < 144 + 16 * l && c.enable then c.restart b else c) } }
  if (s1.ggroup l).psFlt then s1 else s1.geyDecide (.resume l false)

/-- A lane is lost (07 R202). -/
def State.laneLost (s : State) (l : Nat) : State :=
  ((s.setLane l ((s.lane l).blank .hunt)).raise 0x0B l 0x10 1).geyDecide (.pause l false)

def State.statusWord (s : State) (l : Nat) (w : W32) (density : Nat) : State :=
  let x := s.lane l
  let ok := statusValid w
  match x.st with
  | .off => s
  | .hunt =>
    if !ok then s.setLane l { x with valid := 0 }
    else if x.valid + 1 < 4 then s.setLane l { x with valid := x.valid + 1 }
    else ((s.setLane l { x.takeBits w density with st := .locked, valid := 0, bad := 0 }).laneLocks l).laneBits l
  | .locked =>
    if ok then (s.setLane l { x.takeBits w density with bad := 0 }).laneBits l
    else if x.bad + 1 < 4 then s.setLane l { x with bad := x.bad + 1, invalid := x.invalid + 1 }
    else (s.setLane l { x with invalid := x.invalid + 1 }).laneLost l

/-! ## Commands -/

/-- The contexts of a range word (07 Tables 7-3, 7-4, 7-6). -/
def ctxRange (w : W32) : List Nat := span (fld w 17 9) (fld w 8 0)

def ctxRangeBad (w : W32) : Bool := fld w 8 0 < fld w 17 9

def State.mapCtxs (s : State) (l : List Nat) (f : DecCtx → DecCtx) : State :=
  { s with dec := { s.dec with ctxs := s.dec.ctxs.mapIdx (fun i c => if l.contains i then f c else c) } }

/-- Form 0 on one context at boundary b (07 R190). -/
def DecCtx.configure (c : DecCtx) (b : Nat) (w : W32) : DecCtx :=
  let c1 := { c with enable := bit w 31, preset := fld w 30 29, domain := fld w 28 27, scale := fld w 26 25, rate := fld w 17 0 }
  if !c1.enable then { c1 with settle := none, settling := false, fade := none, block := [] }
  else if !c.enable || c1.preset != c.preset || c1.domain != c.domain || c1.rate != c.rate then c1.restart b
  else c1

/-- DEC_CONFIG form 0. -/
def decContexts (p : List W32) (s : State) : Ans :=
  let w := pw p 4
  let rate := fld w 17 0
  let bad := p.length != 2 || fld (pw p 3) 29 18 != 0 || ctxRangeBad (pw p 3) || fld w 30 29 == 3 || fld w 26 25 == 3 || fld w 24 18 != 0 ||
    (if fld w 28 27 = 3 then decide (rate < 8000 ∨ 200000 < rate) else rate != 0)
  if bad then .ok (s.hostError .decimators)
  else (s.mapCtxs (ctxRange (pw p 3)) (fun c => c.configure s.time.tick w)).reassign s

/-- DEC_CONFIG form 1: a change of a clock's rate restarts its contexts. -/
def decClocks (p : List W32) (s : State) : Ans :=
  let w := pw p 3
  let clk := (List.range 4).map (fun k => fld w (2 * k + 1) (2 * k))
  if p.length != 1 || fld w 29 9 != 0 || clk.contains 3 then .ok (s.hostError .decimators)
  else
    let ctxs := s.dec.ctxs.mapIdx (fun i c =>
      if i < 128 && c.enable && clk.getD (i / 32) 0 != s.dec.clk.getD (i / 32) 0 then c.restart s.time.tick else c)
    .ok { s with dec := { s.dec with clk := clk, syncInEn := bit w 8, ctxs := ctxs } }

/-- DEC_CONFIG form 2 (07 R202). -/
def decLanes (p : List W32) (s : State) : Ans :=
  let w := pw p 3
  if p.length != 1 || fld w 29 24 != 0 then .ok (s.hostError .decimators)
  else
    .ok ((List.range 24).foldl (fun (s : State) l =>
      let x := s.lane l
      if bit w l && x.st == .off then s.setLane l (x.blank .hunt)
      else if !bit w l && x.st != .off then
        let s1 := s.setLane l (x.blank .off)
        if (s1.ggroup l).st.live then (s1.raise 0x0B l 0x10 1).pauseGroup l false else s1
      else s) s)

/-- DEC_CONFIG (07 R189). -/
def applyDecConfig (p : List W32) (s : State) : Ans :=
  if s.decOff then .refuse stState s
  else
    match fld (pw p 3) 31 30 with
    | 0 => decContexts p s
    | 1 => decClocks p s
    | 2 => decLanes p s
    | _ => .ok (s.hostError .decimators)

/-- DEC_SYNC (07 R196). -/
def applyDecSync (p : List W32) (s : State) : Ans :=
  if s.decOff then .refuse stState s
  else if fld (pw p 3) 31 1 != 0 then .ok (s.hostError .decimators)
  else .ok (if bit (pw p 3) 0 then (s.syncAt s.time.tick).syncPulse s.time.tick else s.syncAt s.time.tick)

/-- DETECT_CONFIG on one context: turning the detector on, and a new block or frequency, start a new block. -/
def DecCtx.detector (c : DecCtx) (p : List W32) : DecCtx :=
  let w4 := pw p 4
  let w6 := pw p 6
  let same := c.det == bit w4 31 && c.detBlock == fld w4 29 22 && c.detFreq == fld w4 17 0
  { c with
    det := bit w4 31
    detReport := bit w4 30
    detBlock := fld w4 29 22
    detFreq := fld w4 17 0
    detPresent := fld (pw p 5) 10 0
    clipEn := bit w6 31
    stuckEn := bit w6 30
    clipLevel := fld w6 10 0
    block := if same then c.block else []
    skipBlock := if !c.det && bit w4 31 then true else c.skipBlock
    present := c.present && c.det && bit w4 31
    clipped := c.clipped && bit w6 31
    stuck := if bit w6 30 then c.stuck else none }

/-- DETECT_CONFIG (07 R193). -/
def applyDetectConfig (p : List W32) (s : State) : Ans :=
  let w4 := pw p 4
  let l := ctxRange (pw p 3)
  let bad := fld (pw p 3) 31 18 != 0 || ctxRangeBad (pw p 3) || fld w4 29 22 == 0 || 240 < fld w4 29 22 || fld w4 21 18 != 0 ||
    fld w4 17 0 < 10 || l.any (fun i => decide (45 * (s.dctx i).preRate < 100 * fld w4 17 0)) ||
    fld (pw p 5) 31 11 != 0 || 1440 < fld (pw p 5) 10 0 || fld (pw p 6) 29 11 != 0 || 1440 < fld (pw p 6) 10 0
  if s.decOff then .refuse stState s
  else if bad then .ok (s.hostError .decimators)
  else .ok (s.mapCtxs l (fun c => c.detector p))

/-- DCBLOCK_CONFIG (07 R195). -/
def applyDcblockConfig (p : List W32) (s : State) : Ans :=
  let w4 := pw p 4
  let bad := fld (pw p 3) 31 18 != 0 || ctxRangeBad (pw p 3) || fld w4 29 10 != 0 || fld w4 9 0 < 10 || 1000 < fld w4 9 0
  if s.decOff then .refuse stState s
  else if bad then .ok (s.hostError .decimators)
  else .ok (s.mapCtxs (ctxRange (pw p 3)) (fun c => { c with
    dc := bit w4 31
    dcFreeze := bit w4 30
    dcCorner := fld w4 9 0
    m := if c.dc && bit w4 31 then c.m else 0 }))

/-- BLOCK_RESET of the decimators (07 R204). -/
def State.resetDec (s : State) : State :=
  let f (c : DecCtx) : DecCtx :=
    let i := DecCtx.init
    let d := { c with
      det := i.det
      detReport := i.detReport
      detBlock := i.detBlock
      detFreq := i.detFreq
      detPresent := i.detPresent
      clipEn := i.clipEn
      stuckEn := i.stuckEn
      clipLevel := i.clipLevel
      dc := i.dc
      dcFreeze := i.dcFreeze
      dcCorner := i.dcCorner
      m := 0
      skipBlock := true
      block := []
      present := false
      clipped := false
      clipQuietFrom := none
      stuck := none }
    if d.enable then d.restart s.time.tick else d
  ({ s with dec := { s.dec with ctxs := s.dec.ctxs.map f } }).predictable [.decimators]

/-! ## The meanings of the rows -/

def execDecConfig (st : Stage) (p : List W32) (s : State) : Host.Outcome State Fault Refusal := .next (s.command 0x60 st p applyDecConfig)

def execDecSync (st : Stage) (p : List W32) (s : State) : Host.Outcome State Fault Refusal := .next (s.command 0x61 st p applyDecSync)

def execDetectConfig (st : Stage) (p : List W32) (s : State) : Host.Outcome State Fault Refusal := .next (s.command 0x62 st p applyDetectConfig)

def execDcblockConfig (st : Stage) (p : List W32) (s : State) : Host.Outcome State Fault Refusal := .next (s.command 0x63 st p applyDcblockConfig)

/-- 07 R196: the first boundary at least 2.0 us after the edge; a standby ignores its own pin (07 R206). -/
def execDecSyncInEdge (t : Nat) (s : State) : Host.Outcome State Fault Refusal :=
  let s := s.goto t
  let b := firstTick s.now 2000
  .next (if s.decOff || !s.dec.syncInEn then s else s.decideFor (.decSync b) (fun s => s.addSync b))

def execDecimatorSync (s : State) : Host.Outcome State Fault Refusal := .next s.runSyncs

def execDecSettleEnd (ctx : Nat) (s : State) : Host.Outcome State Fault Refusal :=
  let c := s.dctx ctx
  onUnit (ctx < 512) (match c.settle with
    | some e => if e ≤ s.time.tick && c.settling then s.setCtx ctx { c with settling := false, fade := some (c.fade.getD 0) } else s
    | none => s)

/-- 07 R192: a block ends after each tick p with p mod B = B - 1. -/
def execDetectorBlockEnd (t ctx : Nat) (s : State) : Host.Outcome State Fault Refusal :=
  let s := s.goto t
  let c := s.dctx ctx
  onUnit (ctx < 512) (if c.enable && c.det && !s.decOff && s.time.tick % c.detBlock == 0 && s.time.tick != 0 then
    s.endBlock ctx (s.time.tick - 1) else s)

/-- 07 R194: the input has held one value for 4,096 bits. -/
def execStuckDetect (t ctx : Nat) (value : Bool) (s : State) : Host.Outcome State Fault Refusal :=
  let s := s.goto t
  let c := s.dctx ctx
  onUnit (ctx < 512) (if ctx < 128 && c.stuckEn && !s.decOff && s.decClocked ctx && c.stuck != some value then
    (s.setCtx ctx { c with stuck := some value }).detectEvent 4 ctx 0 (b2n value) s.time.tick else s)

def execFastPathValue (t ctx : Nat) (bits : List Bool) (s : State) : Host.Outcome State Fault Refusal :=
  onUnit (ctx < 560) ((s.goto t).fastStep ctx bits)

def execSenseStatusWord (t lane : Nat) (w : W32) (density : Nat) (s : State) : Host.Outcome State Fault Refusal :=
  let s := s.goto t
  onUnit (lane < 24) (if s.decOff then s else s.statusWord lane w density)

end Sys2Proof.Machine
end

