-- ==== Sys2Proof/Machine/Tdm.lean ====
section
/-! DEFINITION. The TDM ports (09): configuration, frames against the tick, group states, masks, slips, restarts and the
port buffers in the Basin. -/

namespace Sys2Proof.Machine
open Sys2Proof

def State.setTG (s : State) (g : Nat) (x : TGroup) : State := { s with tdm := { s.tdm with groups := s.tdm.groups.set g x } }

def State.setTP (s : State) (p : Nat) (x : TPort) : State := { s with tdm := { s.tdm with ports := s.tdm.ports.set p x } }

def State.tdmOff (s : State) : Bool := !s.islandOn 14

def State.groupPorts (s : State) (g : Nat) : List Nat := (List.range 32).filter (fun p => (s.tport p).group == g)

/-- The bits of a WIDTH or DATA code. -/
def tdmBits (c : Nat) : Nat := match c with
  | 0 => 16
  | 1 => 24
  | _ => 32

/-- Words and rates of a port: words a second in one direction. -/
def State.portRate (s : State) (p : Nat) : Nat :=
  let x := s.tport p
  x.slots * domainRate s.route.family44 (s.tgroup x.group).domain

/-- The emission of a sample follows its capture by this many samples of its domain (01 Table 1-3: two ticks). -/
def tdmDelay (d : Nat) : Nat := 4 * 2 ^ d

/-! ## Status and events (09 R258, R259) -/

def TGroup.word1 (x : TGroup) : W32 := pack [(min 65535 x.phase, 16)]

def TPort.isMuted (x : TPort) (tick : Nat) : Bool := match x.muteFrom with
  | some m => decide (m ≤ tick)
  | none => false

def TPort.word (x : TPort) (tick : Nat) : W32 :=
  pack [(b2n x.slip, 31), (b2n (x.isMuted tick), 30), (x.inRot, 25), (x.outRot, 20), (min 65535 x.slips, 0)]

def State.tportEvent (s : State) (p cause : Nat) : State := s.portEvent 1 cause p ((s.tport p).word s.time.tick)

/-! ## Restarts (09 R256) -/

/-- A port restarts at the running tick. A port whose group does not run is restarted when the group enters RUN. -/
def State.restartPort (s : State) (p : Nat) : State :=
  let x := s.tport p
  if (s.tgroup x.group).st != .run then s
  else s.setTP p { x with
    inFifo := []
    outFifo := []
    inNext := none
    outNext := none
    inFill := 32000000000
    outFill := 32000000000
    slip := false
    muteFrom := none
    inRot := 0
    outRot := 0
    restart := true
    muteTo := s.time.tick + 2
    aligning := true }

def State.restartPorts (s : State) (l : List Nat) : State := l.foldl State.restartPort s

/-- Ports whose two zero ticks are over send EVENT_PORT with cause 5; called at each boundary. -/
def State.tdmAligned (s : State) : State :=
  (List.range 32).foldl (fun (s : State) p =>
    let x := s.tport p
    if x.aligning && decide (x.muteTo ≤ s.time.tick) then
      let s1 := s.setTP p { x with aligning := false }
      if (x.inEn || x.outEn) && (s.tgroup x.group).st == .run then s1.tportEvent p 5 else s1
    else s) s

/-- A group enters RUN with its ports restarted. -/
def State.runGroup (s : State) (g : Nat) : State :=
  let s1 := s.setTG g { s.tgroup g with st := .run, badRun := 0, qualified := false, goodFrames := 0 }
  (s1.restartPorts (s1.groupPorts g)).tgroupEvent g 1

/-- A slave group is lost (09 R250). -/
def State.loseGroup (s : State) (g cause : Nat) : State :=
  let x := s.tgroup g
  if x.st != .run || x.sync == 0 then s
  else
    let s1 := s.setTG g { x with st := .search, goodFrames := 0, qualified := false, badRun := 0 }
    let s2 := (s1.raise 0x0A (32 + g) 0x0D (pack [(cause, 24), (s.tick16, 0)])).tgroupEvent g cause
    if (s.rfc 7).param == g then s2.refLoss 7 4 else s2

/-! ## Slips (09 R254, R255) -/

/-- The flag, the message, the event and the mute of a slip whose rotations are set. -/
def State.slipped (s : State) (p cause : Nat) : State :=
  let x := s.tport p
  let mute := s.classNow 0x0A 0x0D != 1
  let s1 := s.setTP p { x with
    slip := true
    slips := min 65535 (x.slips + 1)
    muteFrom := if mute then some (x.muteFrom.getD (s.time.tick + 1)) else x.muteFrom }
  (s1.raise 0x0A p 0x0D (pack [(cause, 24), (s.tick16, 0)])).tportEvent p cause

/-- A rotation by one slot, up after an underrun and down after an overrun. -/
def turnUp (n r : Nat) : Nat := (r + 1) % n

def turnDown (n r : Nat) : Nat := (r + n - 1) % n

/-- What a slip of a cause (09 Table 9-6) does to the words: an underrun repeats the previous word, an overrun drops one. -/
def TPort.shift (x : TPort) (cause : Nat) : TPort :=
  match cause with
  | 1 => { x with
      inFifo := x.inFifo ++ (x.inFifo.getLast?).toList
      inNext := x.inNext.map (· + 1)
      inFill := x.inFill + 1000000000
      inRot := turnUp x.slots x.inRot }
  | 2 => { x with
      inFifo := x.inFifo.dropLast
      inNext := x.inNext.map (· - 1)
      inFill := x.inFill - 1000000000
      inRot := turnDown x.slots x.inRot }
  | 3 => { x with
      outNext := x.outNext.map (· - 1)
      outFill := x.outFill + 1000000000
      outRot := turnUp x.slots x.outRot }
  | _ => { x with
      outNext := x.outNext.map (· + 1)
      outFill := x.outFill - 1000000000
      outRot := turnDown x.slots x.outRot }

/-- A slip of this engine's port; an engine that follows re-centres without slipping (09 R260). -/
def State.slipPort (s : State) (p cause : Nat) : State :=
  let x := (s.tport p).shift cause
  s.decideFor (.tdmSlip p [cause, x.inRot, x.outRot]) (fun s => (s.setTP p x).slipped p cause)

/-- The standby takes the active's slip. -/
def State.takeSlip (s : State) (p : Nat) (data : List Nat) : State :=
  let x := s.tport p
  (s.setTP p { x with inRot := data.getD 1 0, outRot := data.getD 2 0 }).slipped p (data.getD 0 0)

/-- The slips of one direction that a fill asks for; a fill at or past a bound by part of a word has not yet slipped. -/
def slipCount (fill : Int) : Nat × Nat :=
  (if fill < 0 then min 64 ((-fill + 999999999) / 1000000000).toNat else 0,
   if 64000000000 < fill then min 64 ((fill - 64000000000 + 999999999) / 1000000000).toNat else 0)

def State.slipTimes (s : State) (p cause n : Nat) : State := (List.range n).foldl (fun s _ => s.slipPort p cause) s

/-- The FIFOs of a slave port run on to this frame start (09 R254): the tick side reads and writes at the port's rate. -/
def State.runFifos (s : State) (p : Nat) : State :=
  let x := s.tport p
  let moved : Int := ((s.portRate p * (s.now - x.fillAt) : Nat) : Int)
  let word : Int := x.slots * 1000000000
  if s.follows then s.setTP p { x with inFill := 32000000000, outFill := 32000000000, fillAt := s.now }
  else
    let x1 := { x with inFill := x.inFill + word - moved, outFill := x.outFill + moved - word, fillAt := s.now }
    let i := if x.inEn then slipCount x1.inFill else (0, 0)
    let o := if x.outEn then slipCount x1.outFill else (0, 0)
    ((((s.setTP p x1).slipTimes p 1 i.1).slipTimes p 2 i.2).slipTimes p 3 o.1).slipTimes p 4 o.2

/-! ## Frames (09 R244-R248, R252, R253) -/

/-- A sample from the bits of a slot, the first in bit 31 (09 R245). -/
def slotSample (data : Nat) (w : W32) : Sample := signed 32 (w.toNat / 2 ^ (32 - tdmBits data) * 2 ^ (32 - tdmBits data))

/-- A sample rounded half up to DATA bits and saturated, as a Q1.31 value (09 R245). -/
def wireSample (data : Nat) (x : Sample) : Sample :=
  let n := tdmBits data
  let top : Int := 2 ^ (n - 1)
  clamp (-top) (top - 1) (roundDiv x (2 ^ (32 - n))) * 2 ^ (32 - n)

/-- The first frame after a restart fixes the attribution (09 R248). -/
def State.attribute (s : State) (p : Nat) : State :=
  let x := s.tport p
  let g := s.tgroup x.group
  let fs := domainRate s.route.family44 g.domain
  let k := fs * s.now / 1000000000
  let late := fs * s.now - k * 1000000000
  let near := decide (late ≤ 1000 * fs)
  let s1 := if g.sync == 1 then s.setTG x.group { g with phase := late / fs / 10, offset := !near } else s
  s1.setTP p { x with
    restart := false
    fillAt := s.now
    inNext := some ((if near then k else k + 1) * x.slots)
    outNext := some (k * x.slots) }

/-- With SYNC = 2 a mask moves at the first frame start after the boundary of tick t, and one frame later where that boundary
falls within the last 2 BCLK periods before the frame start (09 R253). -/
def State.asrcMaskDue (s : State) (g : TGroup) (t : Nat) : Bool :=
  decide (t < s.time.tick) || (decide (t = s.time.tick) && decide (2000000000 < s.time.sub * (g.frameBits * (g.rate * 10))))

/-- Masks move from pending into force at the frames that they govern (09 R253). -/
def State.moveMasks (s : State) (p : Nat) : State :=
  let x := s.tport p
  let g := s.tgroup x.group
  let f44 := s.route.family44
  let dueIn := match x.inPendAt with
    | none => false
    | some t => if g.sync == 2 then s.asrcMaskDue g t else decide (samplesBefore f44 g.domain t * x.slots ≤ x.inNext.getD 0)
  let dueOut := match x.outPendAt with
    | none => false
    | some t => if g.sync == 2 then s.asrcMaskDue g (t + 2)
      else decide ((samplesBefore f44 g.domain t + tdmDelay g.domain) * x.slots ≤ x.outNext.getD 0)
  s.setTP p { x with
    inMask := if dueIn then x.inPend else x.inMask
    inPendAt := if dueIn then none else x.inPendAt
    outMask := if dueOut then x.outPend else x.outMask
    outPendAt := if dueOut then none else x.outPendAt }

/-- The words that a frame brings in; a masked slot reads zero (09 R252). -/
def State.frameIn (s : State) (p : Nat) (words : List W32) : State :=
  let x := s.tport p
  if !x.inEn then s
  else
    let ws := (List.range x.slots).map (fun i => if bit x.inMask i then slotSample x.data (words.getD i 0) else 0)
    s.setTP p { x with inFifo := x.inFifo ++ ws, inNext := x.inNext.map (· + x.slots) }

/-- A source of the entry of a sink has an ASRC channel (09 R251). -/
def State.sinkConverted (s : State) (sink : Nat) : Bool :=
  match s.route.entry sink with
  | some e => s.route.asrc.any (fun a => a.2.src == e.src)
  | none => false

/-- The words that a frame sends, and the port after it. A word that the FIFO should still hold but the tick side has not
made is a free value, as is one that an ASRC channel made (logs 11, 21). -/
def State.frameOut (s : State) (p : Nat) : List Sample × State :=
  let x := s.tport p
  let g := s.tgroup x.group
  let n0 := s.fresh
  if g.sync == 2 then
    ((List.range x.slots).map (fun i => if s.sinkConverted (0x3000 + 32 * p + i) then wireSample x.data (satQ31 (Config.freeInt n0 i)) else 0),
      { s with fresh := n0 + 1 })
  else
    let w0 := x.outNext.getD 0 - tdmDelay g.domain * x.slots
    let first := x.outEnd - x.outFifo.length
    let ws := (List.range x.slots).map (fun i =>
      let w := w0 + i
      if w < first then 0
      else if w < x.outEnd then x.outFifo.getD (w - first) 0
      else wireSample x.data (satQ31 (Config.freeInt n0 i)))
    (ws, ({ s with fresh := n0 + 1 }).setTP p { x with
      outNext := x.outNext.map (· + x.slots)
      outFifo := x.outFifo.drop (w0 + x.slots - first) })

/-- One port at a frame start of its running group. -/
def State.portFrame (s : State) (p : Nat) (words : List W32) : State :=
  let x := s.tport p
  if !x.inEn && !x.outEn then s
  else
    let s1 := if x.restart then s.attribute p else if (s.tgroup x.group).sync == 1 then s.runFifos p else s
    let s2 := (s1.moveMasks p).frameIn p words
    if !x.outEn then s2
    else
      let r := s2.frameOut p
      let y := r.2.tport p
      let quiet := y.isMuted s.time.tick
      if s.pair.owner then
        r.2.emit (.tdm p ((r.1.zipIdx).map (fun e => if bit y.outMask e.2 then some (if quiet then 0 else BitVec.ofInt 32 e.1) else none)))
      else r.2

/-- The frame rate lies within 100 ppm of the domain's; rate in 0.01 Hz. -/
def rateNear (fs rate : Nat) : Bool := decide (((rate : Int) - 100 * fs).natAbs * 10000 ≤ 100 * fs)

/-- A frame starts on a group: the monitors of a slave, then its ports (09 R249, R250). bclks counts the BCLK periods of
the frame that ended, rate is the measured frame rate in 0.01 Hz, din the bits of each slot of the frame that starts. -/
def State.tdmFrame (s : State) (g bclks rate : Nat) (din : List (Nat × List W32)) : State :=
  let x := s.tgroup g
  if s.tdmOff || x.st == .off then s
  else
    let good := bclks == x.frameBits
    let near := x.sync != 1 || rateNear (domainRate s.route.family44 x.domain) rate
    let ten := (rate + 500) / 1000
    let x1 :=
      if x.sync == 0 then x
      else if x.st == .search then
        let n := if good && near then x.goodFrames + 1 else 0
        { x with goodFrames := n, qualified := decide (8 ≤ n), rate := ten }
      else if good then { x with badRun := 0, rate := ten }
      else { x with badRun := x.badRun + 1, frameErr := min 4095 (x.frameErr + 1), rate := ten }
    let s1 := s.setTG g x1
    if x1.st != .run then s1
    else (s1.groupPorts g).foldl (fun (s : State) p => s.portFrame p (kgetD din p [])) s1

/-! ## The tick side -/

/-- The block of a port direction in the Basin for tick t (09 R257). -/
def State.tdmBlock (s : State) (p dir t : Nat) (words : List Sample) : State :=
  let bytes (x : Sample) : List Byte :=
    let b := wordBytes (BitVec.ofInt 32 x)
    if (s.tport p).pack3 then b.drop 1 else b
  { s with mem := memWrites s.mem (0x217C0000 + 0x1000 * (2 * p + dir) + 256 * (t % 16)) ((words.flatMap bytes).take 256) }

/-- The input words of tick d of a port, by wire position (09 R247, R248). A word that has not come while the FIFO still
covers it is a free value (log 21). -/
def State.takeWords (s : State) (p d : Nat) : List Sample × State :=
  let x := s.tport p
  let g := s.tgroup x.group
  let f44 := s.route.family44
  let lo := samplesBefore f44 g.domain d * x.slots
  let hi := samplesBefore f44 g.domain (d + 1) * x.slots
  let next := x.inNext.getD lo
  let gone := if g.sync == 1 && x.inNext.isSome then hi - 32 - next else 0
  let s1 := s.slipTimes p 1 (min 64 gone)
  let y := s1.tport p
  let stop := y.inNext.getD lo
  let first := stop - y.inFifo.length
  let ws := (List.range (hi - lo)).map (fun i =>
    let w := lo + i
    if first ≤ w && decide (w < stop) then y.inFifo.getD (w - first) 0 else satQ31 (Config.freeInt s1.fresh i))
  (ws, ({ s1 with fresh := s1.fresh + 1 }).setTP p { y with inFifo := y.inFifo.drop (hi - first) })

/-- The input slots of tick d of every port (09 R252, R255, R256). -/
def State.tdmCapture (s : State) (d : Nat) : State :=
  if s.tdmOff then s
  else
    ((List.range 32).filter (fun p => (s.tport p).inEn && (s.tgroup (s.tport p).group).st == .run)).foldl (fun (s : State) p =>
      let x := s.tport p
      let g := s.tgroup x.group
      if g.sync == 2 then (s.tdmBlock p 0 d x.inFifo).setTP p { x with inFifo := [] }
      else
        let r := s.takeWords p d
        let quiet := decide (d < x.muteTo) || (r.2.tport p).isMuted d
        let ws := if quiet then r.1.map (fun _ => 0) else r.1
        let n := tickSamples s.route.family44 g.domain d
        let s1 := r.2.tdmBlock p 0 d ws
        (List.range x.slots).foldl (fun (s : State) i =>
          let ys := (List.range n).map (fun j => ws.getD (j * x.slots + i) 0)
          { s with aud := { s.aud with cap := kset s.aud.cap (0x2000 + 32 * p + i) ys } }) s1) s

/-- The sinks of tick d, now final, go into the output FIFOs; ins holds them by sink address. -/
def State.tdmPush (s : State) (d : Nat) (ins : List (Nat × List Sample)) : State :=
  if s.tdmOff then s
  else
    ((List.range 32).filter (fun p => (s.tport p).outEn)).foldl (fun (s : State) p =>
      let x := s.tport p
      let g := s.tgroup x.group
      let n := tickSamples s.route.family44 g.domain d
      let lo := samplesBefore s.route.family44 g.domain d * x.slots
      let quiet := decide (d < x.muteTo) || g.st != .run
      let ws := (List.range (n * x.slots)).map (fun i =>
        if quiet then 0 else wireSample x.data ((kgetD ins (0x3000 + 32 * p + i % x.slots) []).getD (i / x.slots) 0))
      let old := if x.outEnd = lo then x.outFifo else []
      (s.tdmBlock p 1 d ws).setTP p { x with outFifo := lastN 512 (old ++ ws), outEnd := lo + n * x.slots }) s

/-! ## Commands -/

/-- A port that runs contradicts its group (09 R243). -/
def portClash (g : TGroup) (x : TPort) : Bool :=
  (x.inEn || x.outEn) &&
    (decide (g.frameBits < x.slots * tdmBits x.width + b2n (g.delay && g.format == 0)) || decide (32 / 2 ^ g.domain < x.slots) ||
      decide (tdmBits x.width < tdmBits x.data) ||
      (g.format != 0 && (x.slots != 2 || g.frameBits != 2 * tdmBits x.width)))

/-- A master's frame length (09 R243). -/
def masterClash (g : TGroup) : Bool :=
  g.sync == 0 && (2 ^ g.frameBits.log2 != g.frameBits || decide (1024 / 2 ^ g.domain < g.frameBits))

/-- TDM_CONFIG form 0 (09 R242, R246, R249). -/
def tdmGroupForm (p : List W32) (s : State) : Ans :=
  let w := pw p 4
  let g := fld (pw p 3) 2 0
  let o := s.tgroup g
  let n := { o with
    enable := bit w 31
    sync := fld w 30 29
    domain := fld w 28 27
    format := fld w 26 25
    delay := bit w 24
    bclkInv := bit w 23
    fsInv := bit w 22
    mclk := fld w 21 20
    frameBits := fld w 10 0 }
  let bad := fld (pw p 3) 29 3 != 0 || n.sync == 3 || n.domain == 3 || n.format == 3 || fld w 19 11 != 0 || n.frameBits < 32 ||
    1024 < n.frameBits || masterClash n || (s.groupPorts g).any (fun p => portClash n (s.tport p))
  if bad then .ok (s.hostError .tdm)
  else
    let st := if !n.enable then TMode.off
      else if n.sync == 0 then .run
      else if o.st == .off || o.sync == 0 then .search
      else o.st
    let changed := { n with mclk := o.mclk } != o
    let n1 := if changed then { n with st := st, goodFrames := 0, qualified := false, badRun := 0 } else { n with st := st }
    let s1 := s.setTG g n1
    let s2 := if !changed then s1
      else if st == .run && o.st != .run then s1.runGroup g
      else if st == .off then
        (s1.groupPorts g).foldl (fun (s : State) p => s.setTP p { s.tport p with inFifo := [], outFifo := [], inNext := none, outNext := none }) s1
      else s1.restartPorts (s1.groupPorts g)
    let s3 := if o.st == .run && o.sync != 0 && st == .off && (s.rfc 7).param == g then s2.refLoss 7 4 else s2
    (s3.reblock).reassign s

/-- TDM_CONFIG form 1. -/
def tdmPortForm (p : List W32) (s : State) : Ans :=
  let w := pw p 4
  let k := fld (pw p 3) 4 0
  let o := s.tport k
  let n := { o with
    inEn := bit w 31
    outEn := bit w 30
    group := fld w 29 27
    slots := fld w 26 21
    width := fld w 20 19
    data := fld w 18 17
    pack3 := bit w 16 }
  let bad := fld (pw p 3) 29 5 != 0 || n.slots == 0 || 32 < n.slots || n.width == 3 || n.data == 3 || fld w 15 0 != 0 ||
    tdmBits n.width < tdmBits n.data || portClash (s.tgroup n.group) n
  if bad then .ok (s.hostError .tdm)
  else (if n == o then s else (s.setTP k n).restartPort k).reassign s

/-- TDM_CONFIG (09 R242). -/
def applyTdmConfig (p : List W32) (s : State) : Ans :=
  if s.tdmOff then .refuse stState s
  else
    match fld (pw p 3) 31 30 with
    | 0 => tdmGroupForm p s
    | 1 => tdmPortForm p s
    | _ => .ok (s.hostError .tdm)

/-- TDM_SLOTMASK (09 R252, R253). -/
def applyTdmSlotmask (p : List W32) (s : State) : Ans :=
  let n := fld (pw p 3) 5 0
  let bad := fld (pw p 3) 31 6 != 0 || n == 0 || 32 < n || p.length != 1 + 3 * n ||
    (List.range n).any (fun i => fld (pw p (4 + 3 * i)) 31 5 != 0)
  if s.tdmOff then .refuse stState s
  else if bad then .ok (s.hostError .tdm)
  else .ok ((List.range n).foldl (fun (s : State) i =>
    let k := fld (pw p (4 + 3 * i)) 4 0
    s.setTP k { s.tport k with
      inPend := pw p (5 + 3 * i)
      outPend := pw p (6 + 3 * i)
      inPendAt := some s.time.tick
      outPendAt := some s.time.tick }) s)

/-- TDM_RESTART (09 R256). -/
def applyTdmRestart (p : List W32) (s : State) : Ans :=
  if s.tdmOff then .refuse stState s else .ok (s.restartPorts (maskBits 32 (pw p 3).toNat))

/-- BLOCK_RESET of the TDM island (09 R261). -/
def State.resetTdm (s : State) : State :=
  let s1 := s.restartPorts (List.range 32)
  ({ s1 with tdm := { s1.tdm with
    groups := s1.tdm.groups.map (fun (g : TGroup) => { g with frameErr := 0 })
    ports := s1.tdm.ports.map (fun (x : TPort) => { x with slips := 0 }) } }).predictable [.tdm]

/-! ## The meanings of the rows -/

def execTdmConfig (st : Stage) (p : List W32) (s : State) : Host.Outcome State Fault Refusal := .next (s.command 0x64 st p applyTdmConfig)

def execTdmSlotmask (st : Stage) (p : List W32) (s : State) : Host.Outcome State Fault Refusal := .next (s.command 0x65 st p applyTdmSlotmask)

def execTdmRestart (st : Stage) (p : List W32) (s : State) : Host.Outcome State Fault Refusal := .next (s.command 0x66 st p applyTdmRestart)

def execTdmFrameStart (t g bclks rate : Nat) (din : List (Nat × List W32)) (s : State) : Host.Outcome State Fault Refusal :=
  onUnit (g < 8) ((s.goto t).tdmFrame g bclks rate din)

/-- At the boundary after the eighth good frame (09 R249). -/
def execTdmGroupQualify (g : Nat) (s : State) : Host.Outcome State Fault Refusal :=
  let x := s.tgroup g
  onUnit (g < 8) (if !s.tdmOff && x.st == .search && x.qualified then s.decideFor (.tdmQualify g) (fun s => s.runGroup g) else s)

/-- The causes of 09 Table 9-3; cause 4 needs two bad frames in a row and cause 5 SYNC = 1. -/
def execTdmGroupLoss (t g cause : Nat) (s : State) : Host.Outcome State Fault Refusal :=
  let s := s.goto t
  let x := s.tgroup g
  let holds := cause == 2 || cause == 3 || (cause == 4 && decide (2 ≤ x.badRun)) || (cause == 5 && x.sync == 1)
  onUnit (g < 8) (if !s.tdmOff && x.st == .run && x.sync != 0 && holds then s.decideFor (.tdmLoss g cause) (fun s => s.loseGroup g cause) else s)

end Sys2Proof.Machine
end

