-- ==== Sys2Proof/Machine/NetPort.lean ====
section
/-! DEFINITION. The network ports (10): frames and their bytes, the receive path, queues and pause, the gate schedule and
transmission, segmentation, statistics, and the addresses (18 R495, R496). -/

namespace Sys2Proof.Machine
open Sys2Proof

/-! ## Bytes and frames -/

/-- n bytes of a number, most significant first. -/
def beBytes (n v : Nat) : List Byte := (List.range n).map (fun i => BitVec.ofNat 8 (v / 256 ^ (n - 1 - i)))

/-- The number of bytes, most significant first. -/
def beNat (bs : List Byte) : Nat := bs.foldl (fun a b => a * 256 + b.toNat) 0

def byteAt (bs : List Byte) (i n : Nat) : Nat := beNat ((bs.drop i).take n)

def Frame.bytes (f : Frame) : List Byte :=
  beBytes 6 f.dst ++ beBytes 6 f.src ++ (match f.tag with
    | some (pcp, vid) => beBytes 2 0x8100 ++ beBytes 2 (pcp * 8192 + vid)
    | none => []) ++ beBytes 2 f.etype ++ f.payload

/-- A frame from its bytes without the FCS (10 R264). -/
def frameOf (bs : List Byte) : Frame :=
  let tagged := byteAt bs 12 2 == 0x8100
  { dst := byteAt bs 0 6
    src := byteAt bs 6 6
    tag := if tagged then some (byteAt bs 14 2 / 8192, byteAt bs 14 2 % 4096) else none
    etype := if tagged then byteAt bs 16 2 else byteAt bs 12 2
    payload := bs.drop (if tagged then 18 else 14)
    fcsOk := true
    cut := false }

/-- The length from the destination address to the FCS. -/
def Frame.len (f : Frame) : Nat := 18 + (if f.tag.isSome then 4 else 0) + f.payload.length

/-- The frame check sequence of IEEE 802.3. -/
def fcs32 (bs : List Byte) : W32 :=
  (bs.foldl (fun (c : W32) b => (List.range 8).foldl (fun c _ => crcBit 0xEDB88320 c) (c ^^^ b.zeroExtend 32)) 0xFFFFFFFF) ^^^ 0xFFFFFFFF

/-- The words of a received frame in its queue (15 R426). -/
def Frame.rxWords (f : Frame) : List W32 :=
  pack [((f.tag.map (·.1)).getD 0, 16), (f.len, 0)] :: wordsLE (f.bytes ++ wordBytes (fcs32 f.bytes))

/-- The frame that a packet of a receive queue holds. -/
def rxFrame (ws : List W32) : Frame :=
  let n := fld (ws.headD 0) 15 0
  frameOf (((ws.drop 1).flatMap wordBytes).take (n - 4))

/-- An IPv4 UDP datagram, whole or a fragment. -/
structure Dgram where
  src : Nat
  dst : Nat
  id : Nat
  more : Bool
  off : Nat
  sport : Nat
  dport : Nat
  body : List Byte
  data : List Byte

/-- body is what follows the IPv4 header; data what follows the UDP header. -/
def parseUdp (f : Frame) : Option Dgram :=
  let b := f.payload
  let ihl := byteAt b 0 1 % 16 * 4
  let total := byteAt b 2 2
  if f.etype != 0x0800 || byteAt b 0 1 / 16 != 4 || ihl < 20 || byteAt b 9 1 != 17 || b.length < total || total < ihl then none
  else
    let body := (b.take total).drop ihl
    let fl := byteAt b 6 2
    some ⟨byteAt b 12 4, byteAt b 16 4, byteAt b 4 2, fl / 8192 % 2 == 1, fl % 8192 * 8, byteAt body 0 2, byteAt body 2 2, body,
      (body.take (byteAt body 4 2)).drop 8⟩

/-! ## Checksums and segmentation (10 R282, R283) -/

def sum16 : List Byte → Nat
  | a :: b :: t => a.toNat * 256 + b.toNat + sum16 t
  | [a] => a.toNat * 256
  | [] => 0

/-- The Internet checksum. -/
def inetSum (n : Nat) : Nat :=
  let a := n % 65536 + n / 65536
  let b := a % 65536 + a / 65536
  65535 - (b % 65536 + b / 65536) % 65536

/-- Replaces bytes at an offset. -/
def putBytes (bs : List Byte) (i : Nat) (v : List Byte) : List Byte := bs.take i ++ v ++ bs.drop (i + v.length)

/-- An IPv4 header with its checksum filled in. -/
def ipSum (h : List Byte) : List Byte :=
  let z := putBytes h 10 (beBytes 2 0)
  putBytes z 10 (beBytes 2 (inetSum (sum16 z)))

/-- A UDP or TCP header and payload with the checksum filled in; ip is the IPv4 header. -/
def l4Sum (ip l4 : List Byte) (tcp : Bool) : List Byte :=
  let at' := if tcp then 16 else 6
  let z := putBytes l4 at' (beBytes 2 0)
  let pseudo := (ip.drop 12).take 8 ++ beBytes 2 (if tcp then 6 else 17) ++ beBytes 2 l4.length
  let v := inetSum (sum16 pseudo + sum16 z)
  putBytes z at' (beBytes 2 (if v = 0 && !tcp then 65535 else v))

/-- The prefix of a transmit packet (10 Table 10-7). -/
structure TxHead where
  seg : Bool
  csum : Bool
  l4 : Nat
  mss : Nat
  n4 : Nat
  n3 : Nat
  n2 : Nat
  rsv : Bool

def txHead (w0 w1 : W32) : TxHead :=
  ⟨bit w0 31, bit w0 30, fld w0 29 28, fld w0 13 0, fld w1 23 16, fld w1 15 8, fld w1 7 0, fld w0 27 14 != 0 || fld w1 31 24 != 0⟩

/-- Segment i of a send; last tells that it is the final one (10 R283). -/
def segment (h : TxHead) (bs : List Byte) (i : Nat) (last : Bool) : List Byte :=
  let l2 := bs.take h.n2
  let ip := (bs.drop h.n2).take h.n3
  let l4 := (bs.drop (h.n2 + h.n3)).take h.n4
  let data := ((bs.drop (h.n2 + h.n3 + h.n4)).drop (i * h.mss)).take h.mss
  let ip1 := putBytes (putBytes ip 2 (beBytes 2 (h.n3 + h.n4 + data.length))) 4 (beBytes 2 ((byteAt ip 4 2 + i) % 65536))
  let ip2 := ipSum ip1
  let t :=
    if h.l4 = 1 then putBytes l4 4 (beBytes 2 (h.n4 + data.length))
    else
      let fl := byteAt l4 13 1
      let keep := (if last then 0xFF else 0xF6) &&& (if i = 0 then 0xFF else 0x7F)
      putBytes (putBytes l4 4 (beBytes 4 ((byteAt l4 4 4 + i * h.mss) % 2 ^ 32))) 13 (beBytes 1 (fl &&& keep))
  l2 ++ ip2 ++ l4Sum ip2 (t ++ data) (h.l4 == 2)

/-- A prefix that breaks a rule of 10 R282 or R283. -/
def TxHead.bad (h : TxHead) (bs : List Byte) (mtu : Nat) : Bool :=
  let v4 := byteAt bs (h.n2 - 2) 2 == 0x0800 && byteAt bs h.n2 1 / 16 == 4
  h.rsv || h.l4 == 3 ||
    ((h.seg || h.csum) && (!v4 || (h.n2 != 14 && h.n2 != 18) || h.n3 < 20 || 60 < h.n3 ||
      (h.l4 == 1 && h.n4 != 8) || (h.l4 == 2 && (h.n4 < 20 || 60 < h.n4)))) ||
    (h.seg && (h.l4 == 0 || h.mss < 64 || 8960 < h.mss || decide (65536 < bs.length) || decide (mtu + 18 < h.n2 + h.n3 + h.n4 + min h.mss (bs.length - (h.n2 + h.n3 + h.n4)))))

/-- The frames of a packet that a master wrote. -/
def txFrames (h : TxHead) (bs : List Byte) : List Frame :=
  let body := bs.length - (h.n2 + h.n3 + h.n4)
  if h.seg then
    let n := max 1 (ceilDiv body h.mss)
    (List.range n).map (fun i => frameOf (segment h bs i (i + 1 == n)))
  else if h.csum then
    let l2 := bs.take h.n2
    let ip := ipSum ((bs.drop h.n2).take h.n3)
    let rest := bs.drop (h.n2 + h.n3)
    [frameOf (l2 ++ ip ++ (if h.l4 = 0 then rest else l4Sum ip rest (h.l4 == 2)))]
  else [frameOf bs]

/-! ## Status, events and counters -/

/-- Time on the wire is counted in units of 1/153,600 ns, in which the media clock and every byte time are whole. -/
def perNs : Nat := 153600

def perCycle : Nat := 390625

def perTick : Nat := 16384 * perCycle

/-- The units of one byte at a port's speed. -/
def Port.byteTime (p : Port) (i : Nat) : Nat :=
  if i < 2 then (if p.speed = 0 then 49152 else 122880)
  else if p.speed = 0 then 1228800
  else match p.sgmiiRate with
    | 0 => 1228800
    | 1 => 12288000
    | _ => 122880000

/-- A transmit queue is paused at an instant (10 R279). -/
def Port.heldQ (p : Port) (now q : Nat) : Bool :=
  p.pauses.any (fun u => decide (now < u.stop) && u.ignoring.isNone &&
    ((p.mode == 1 && u.unit == 8) || (p.mode == 2 && decide (q < 6) && fld p.txPcp (3 * q + 2) (3 * q) == u.unit)))

/-- The status word of a port (10 Table 10-11). -/
def Port.statusWord (p : Port) (i now : Nat) : W32 :=
  let held := (List.range 8).filter (fun q => p.heldQ now q)
  let high := (List.range 8).filter (fun q => (p.rxq.getD q (Queue.init 0 75 50)).flag)
  let rate := if i < 2 then p.speed else if p.speed = 0 then 0 else p.sgmiiRate
  pack [(b2n p.linkUp, 31), (b2n p.lock, 30), (rate, 28), (b2n (!held.isEmpty), 27), (b2n (!p.pausing.isEmpty), 26),
    (b2n (p.pauses.any (fun u => u.ignoring.isSome)), 25), (maskOf high, 16), (maskOf held, 8)]

def State.netEvent (s : State) (i kind cause : Nat) : State :=
  s.portEvent kind cause i ((s.port i).statusWord i s.time.mono)

/-- Counters that a frame of a length and destination adds to; the bins begin at base + 7 or base - 0 of 10 Table 10-8. -/
def Port.countFrame (p : Port) (f : Frame) (ok octets kinds bins : Nat) : Port :=
  let n := f.len
  let kind := if f.dst == 2 ^ 48 - 1 then 2 else if f.dst / 2 ^ 40 % 2 == 1 then 1 else 0
  let p1 := ((p.count ok 1).count octets n).count (kinds + kind) 1
  if n < 64 then p1
  else p1.count (bins + (if n = 64 then 0 else if n < 128 then 1 else if n < 256 then 2 else if n < 512 then 3
    else if n < 1024 then 4 else if n < 1519 then 5 else 6)) 1

/-- The frame on the wire has ended and counts. -/
def Port.settle (p : Port) (now : Nat) : Port :=
  match p.wire with
  | none => p
  | some (q, e, f) =>
    if now < e then p
    else
      let p1 := ({ p with wire := none } : Port).countFrame f 26 27 28 33
      if q = 7 then p1.count 40 1 else if q = 6 then p1.count 41 1 else p1

/-! ## Sending and obeying pause (10 R278-R280) -/

/-- The units for which the receive queues ask for pause. -/
def Port.wantPause (p : Port) : List Nat :=
  let flag (q : Nat) : Bool := decide (q < 6) && (p.rxq.getD q (Queue.init 0 75 50)).flag
  if !p.linkUp then []
  else match p.mode with
    | 1 => if (List.range 6).any flag then [8] else []
    | 2 => (List.range 8).filter (fun r => flag (fld p.rxMap (3 * r + 2) (3 * r)))
    | _ => []

/-- One pause frame goes out. -/
def State.sendPause (s : State) (i : Nat) (units : List Nat) (quanta : Nat) : State :=
  if units.isEmpty || !(s.port i).linkUp then s
  else
    let pfc := units != [8]
    (s.countPort i (if pfc then 32 else 31) 1).emit (.pauseFrame i units quanta pfc)

/-- Pausing follows the flags of the receive queues. -/
def State.pauseCheck (s : State) (i : Nat) : State :=
  let p := s.port i
  let want := p.wantPause
  if want == p.pausing then s
  else
    let on := want.filter (fun u => !p.pausing.contains u)
    let off := p.pausing.filter (fun u => !want.contains u)
    let s1 := s.setPort i { p with pausing := want, pauseAt := s.time.mono }
    (s1.sendPause i on p.quanta).sendPause i off 0

/-- A received pause for one unit. -/
def Port.takePause (p : Port) (i unit quanta now : Nat) : Port :=
  let old := p.pauses.find? (fun u => u.unit == unit)
  let rest := p.pauses.filter (fun u => u.unit != unit)
  match old.bind (·.ignoring) with
  | some _ => { p with pauses := rest ++ [⟨unit, now, now, some now⟩] }
  | none =>
    if quanta = 0 then { p with pauses := rest }
    else
      let since := match old with
        | some u => if now < u.stop then u.since else now
        | none => now
      { p with pauses := rest ++ [⟨unit, now + ceilDiv (quanta * 64 * p.byteTime i) perNs, since, none⟩] }

/-- A MAC control frame is consumed (10 R267 step 5, R279). -/
def State.macControl (s : State) (i : Nat) (f : Frame) : State :=
  let b := f.payload
  let p := s.port i
  match byteAt b 0 2 with
  | 0x0001 =>
    let p1 := p.count 5 1
    s.setPort i (if p.mode == 1 then p1.takePause i 8 (byteAt b 2 2) s.time.mono else p1)
  | 0x0101 =>
    let p1 := p.count 6 1
    let units := maskBits 8 (byteAt b 2 2)
    s.setPort i (if p.mode == 2 then
      units.foldl (fun (p : Port) u => p.takePause i u (byteAt b (4 + 2 * u) 2) s.time.mono) p1 else p1)
  | _ => s

/-! ## The gate schedule (10 R272-R276) -/

/-- The entries of a list with their start and end in media-clock cycles. -/
def gateSpans (es : List (Nat × Nat)) : List (Nat × Nat × Nat) :=
  (es.foldl (fun (a : List (Nat × Nat × Nat) × Nat) e => (a.1 ++ [(e.1, a.2, a.2 + e.2)], a.2 + e.2)) (([] : List (Nat × Nat × Nat)), 0)).1

/-- Queue q's gate is open from lo to hi, in units, inside one cycle of a list. -/
def GateList.spanOpen (g : GateList) (q lo hi : Nat) : Bool :=
  (gateSpans g.entries).all (fun e => decide (e.2.2 * perCycle ≤ lo) || decide (hi ≤ e.2.1 * perCycle) || e.1.testBit q)

/-- Queue q's gate is open for len units from pos of a list's cycle, on into the next list. -/
def GateList.windowOpen (g next : GateList) (q pos len : Nat) : Bool :=
  let cyc := g.cycle * perTick
  if pos + len ≤ cyc then g.spanOpen q pos (pos + len)
  else
    let rest := pos + len - cyc
    g.spanOpen q pos cyc &&
      (if rest ≤ next.cycle * perTick then next.spanOpen q 0 rest else next.entries.all (fun e => e.1.testBit q))

def GateList.pos (g : GateList) (tick sub : Nat) : Nat := tick % g.cycle * perTick + sub * perNs

/-- The entry that governs an instant. -/
def GateList.entryAt (g : GateList) (tick sub : Nat) : Nat :=
  ((gateSpans g.entries).findIdx? (fun e => decide (g.pos tick sub < e.2.2 * perCycle))).getD 0

/-- A new list takes over at the start of a cycle (10 R273). -/
def Port.turnGates (p : Port) (tick : Nat) : Port :=
  match p.gatesNext with
  | some n => if tick % p.gates.cycle = 0 then { p with gates := n, gatesNext := none, gateEntry := 0 } else p
  | none => p

/-- Open intervals of queue 7 in tick k of a list's cycle: start, end (in cycles from the tick), shared with another queue. -/
def GateList.audioSpans (g : GateList) (k : Nat) : List (Nat × Nat × Bool) :=
  (gateSpans g.entries).foldl (fun (a : List (Nat × Nat × Bool)) e =>
    let lo := max e.2.1 (k * 16384) - k * 16384
    let hi := min e.2.2 ((k + 1) * 16384) - k * 16384
    if !(e.1.testBit 7) || hi ≤ lo then a
    else
      let sh := e.1 % 128 != 0
      match a.getLast? with
      | some l => if l.2.1 = lo then a.dropLast ++ [(l.1, hi, l.2.2 || sh)] else a ++ [(lo, hi, sh)]
      | none => [(lo, hi, sh)]) []

/-- The bytes of a transmit stream's frame that carries n samples of each channel, from destination address to FCS. -/
def StreamCfg.frameBytes (c : StreamCfg) (n : Nat) : Nat :=
  18 + (if c.tagged then 4 else 0) + (if c.trunk then 64 + 4 * c.chans * n else 40 + c.chans * n * (if c.l24 then 3 else 2))

def StreamCfg.usesPort (c : StreamCfg) (i : Nat) : Bool := (i == 0 && c.useA) || (i == 1 && c.useB)

/-- The bytes on the wire of the queue 7 frames of one stream that are emitted in tick t (11 R299, R310). -/
def TxSlot.wireBytes (x : TxSlot) (f44 : Bool) (t : Nat) : Nat :=
  let c := x.cfg
  if c.trunk then c.frameBytes (tickSamples f44 c.domain (t + 1)) + 20
  else if (t + 94 * c.depth - 2 - x.openTick % c.depth) % c.depth = c.depth - 1 then c.frameBytes (2 * 2 ^ c.domain * c.depth) + 20
  else 0

/-- 10 R276: A + B ≤ W for every tick of the least common multiple of the periods. -/
def fitsPort (f44 : Bool) (p : Port) (i : Nat) (slots : List TxSlot) : Bool :=
  let l := slots.filter (fun x => x.st != .closed && x.cfg.usesPort i)
  let g := p.gatesNext.getD p.gates
  let period := l.foldl (fun a x => if x.cfg.trunk then a else Nat.lcm a x.cfg.depth) (Nat.lcm g.cycle (if f44 then 160 else 1))
  l.isEmpty || (List.range period).all (fun t =>
    let a := (l.map (fun x => x.wireBytes f44 t)).sum * p.byteTime i
    let spans := g.audioSpans (t % g.cycle)
    let w := (spans.map (fun e => e.2.1 * perCycle - max (e.1 * perCycle) (1000 * perNs))).sum
    let b := (spans.filter (·.2.2)).length * (p.mtu + 42) * p.byteTime i
    decide (a + b ≤ w))

def State.portFits (s : State) (i : Nat) (p : Port) : Bool := fitsPort s.route.family44 p i s.strm.tx

/-! ## Transmission (10 R270, R274, R275) -/

/-- A packet for a transmit queue, or a drop when the queue has no room for it. -/
def State.txPush (s : State) (i q : Nat) (x : Pkt) : State :=
  let y := (s.port i).txq.getD q (Queue.init 0 75 50)
  if y.words < y.level + x.words.length then s.countPort i 45 1
  else s.setQueue (16 * i + 8 + q) { y with pkts := y.pkts ++ [x] }.reflag

/-- A frame that the engine itself builds, as a packet. -/
def framePkt (f : Frame) : Pkt := ⟨wordsLE f.bytes, [f], false⟩

/-- The frame that a transmit queue would send next. -/
def Queue.nextFrame (q : Queue) : Option (Pkt × Frame) :=
  match q.pkts with
  | [] => none
  | p :: _ => p.frames.head?.map (fun f => (p, f))

/-- The MAC picks a frame and starts it (10 R274). -/
def State.transmit (s : State) (i : Nat) : State :=
  let now := s.time.mono
  let p := (s.port i).settle now
  let next := p.gatesNext.getD p.gates
  let time (f : Frame) : Nat := (f.len + 20) * p.byteTime i
  let pos := p.gates.pos s.time.tick s.time.sub
  let ready (q : Nat) : Bool := !p.heldQ now q && p.gates.windowOpen next q pos 1 && ((p.txq.getD q (Queue.init 0 75 50)).nextFrame).isSome
  let fits (q : Nat) : Bool := match (p.txq.getD q (Queue.init 0 75 50)).nextFrame with
    | some x => p.gates.windowOpen next q pos (time x.2)
    | none => false
  let order := [7, 6, 5, 4, 3, 2, 1, 0].filter ready
  let pick := order.find? fits
  let waits := order.takeWhile (fun q => !fits q)
  if !p.enable || !p.linkUp || p.wire.isSome then s.setPort i p
  else
    let p1 := waits.foldl (fun (p : Port) q =>
      let y := p.txq.getD q (Queue.init 0 75 50)
      match y.pkts with
      | h :: t => if h.held then p else ({ p with txq := p.txq.set q { y with pkts := { h with held := true } :: t } } : Port).count 43 1
      | [] => p) p
    match pick with
    | none => s.setPort i p1
    | some q =>
      let y := p1.txq.getD q (Queue.init 0 75 50)
      match y.pkts with
      | [] => s.setPort i p1
      | h :: t =>
        match h.frames with
        | [] => s.setPort i { p1 with txq := p1.txq.set q ({ y with pkts := t } : Queue).reflag }
        | f :: more =>
          let pk := if more.isEmpty then t else { h with frames := more, held := false } :: t
          let p2 := { p1 with
            txq := p1.txq.set q ({ y with pkts := pk } : Queue).reflag
            wire := some (q, now + ceilDiv (time f) perNs, f) }
          (s.setPort i p2).emit (.frame i f)

/-- The frame of a queue that is on the wire is cut short (10 R271). -/
def State.cutWire (s : State) (i q : Nat) : State :=
  let p := (s.port i).settle s.time.mono
  match p.wire with
  | some (k, _, _) => if k = q then ((s.setPort i { p with wire := none }).countPort i 45 1).emit (.cut i) else s.setPort i p
  | none => s.setPort i p

/-- A flush empties a queue at once (15 R431). -/
def Queue.flush (q : Queue) : Queue :=
  ({ q with pkts := [], part := none, discard := q.discard || q.part.isSome, truncated := q.truncated || q.read != 0, read := 0 } : Queue).reflag

/-- Queue 7 frames that have not started by the end of their tick are discarded (10 R275, R290). -/
def State.dropLateAudio (s : State) (i : Nat) : State :=
  let p := (s.port i).settle s.time.mono
  let y := p.txq.getD 7 (Queue.init 0 75 50)
  let n := y.pkts.length
  let p1 := { p with txq := p.txq.set 7 ({ y with pkts := [] } : Queue).reflag }
  if n = 0 then s.setPort i p
  else if !p.linkUp then s.setPort i p1
  else ((s.setPort i { p1 with lateAudio := some s.time.tick }).countPort i 44 n).netEvent i 5 0

/-! ## Links (10 R265, R266, R290) -/

/-- The reference of a port's recovered clock (12 Table 12-1). -/
def portRef (i : Nat) : Option Nat := if i = 0 then some 5 else if i = 1 then some 6 else none

def State.linkFall (s : State) (i : Nat) : State :=
  let p := (s.port i).settle s.time.mono
  if !p.linkUp then s.setPort i { p with lock := false }
  else
    let s1 := s.setPort i { p with linkUp := false, lock := false, wire := none, pauses := [], pausing := [] }
    let s2 := s1.netEvent i 3 2
    match portRef i with
    | some r => s2.refLoss r 4
    | none => s2

def State.linkRise (s : State) (i rate : Nat) : State :=
  let p := s.port i
  if !p.enable || p.linkUp then s
  else ((s.setPort i { p with linkUp := true, lock := true, sgmiiRate := if i = 2 && p.speed = 1 then min 2 rate else 0 }).netEvent i 3 1).pauseCheck i

/-! ## The receive path (10 R267, R268) -/

/-- The group address of an IPv4 group (RFC 1112). -/
def groupMac (ip : Nat) : Nat := 0x01005E000000 + ip % 2 ^ 23

def isGroupIp (ip : Nat) : Bool := ip / 2 ^ 28 == 14

/-- The receive stream whose packets a frame carries. -/
def State.rxMatch (s : State) (i : Nat) (f : Frame) : Option (Nat × Dgram) :=
  match parseUdp f with
  | none => none
  | some d =>
    if d.more || d.off != 0 then none
    else
      ((s.strm.rx.zipIdx).find? (fun e =>
        let c := e.1.cfg
        e.1.st != .closed && c.usesPort i && c.destIp == d.dst && c.port == d.dport &&
          (!c.trunk || c.srcIp == 0 || c.srcIp.toNat == d.src) &&
          (c.idAny || c.id.toNat == byteAt d.data (if c.trunk then 4 else 8) 4))).map (fun e => (e.2, d))

/-- The destination filter; a pause frame's address passes it too (log 22). -/
def State.addrPasses (s : State) (i : Nat) (f : Frame) : Bool :=
  let p := s.port i
  p.promisc || f.dst == p.mac || f.dst == 2 ^ 48 - 1 || f.dst == 0x0180C2000001 || f.dst == 0x0180C200000E || f.dst == 0x011B19000000 ||
    f.dst == 0x01005E000181 || f.dst == 0x01005E00006B ||
    s.net.mcast.any (fun e => e.2 && e.1 == f.dst) ||
    s.strm.rx.any (fun x => x.st != .closed && x.cfg.usesPort i && isGroupIp x.cfg.destIp && groupMac x.cfg.destIp == f.dst)

/-- A frame goes to a receive queue, or is dropped whole (10 R268). -/
def State.rxPush (s : State) (i q : Nat) (f : Frame) : State :=
  let y := (s.port i).rxq.getD q (Queue.init 0 75 50)
  let ws := f.rxWords
  if y.words < y.level + ws.length then
    let s1 := s.countPort i 21 1
    if q < 6 then s1
    else
      let t := s1.freeTick
      t.2.raise 0x07 (16 * i + q) 0x08 t.1
  else
    let s1 := s.setQueue (16 * i + q) ({ y with pkts := y.pkts ++ [⟨ws, [], false⟩] } : Queue).reflag
    s1.pauseCheck i

/-- The engine answers ARP requests for its addresses and learns next hops (18 R496). -/
def State.arp (s : State) (i : Nat) (f : Frame) : State :=
  let b := f.payload
  let p := s.port i
  if f.etype != 0x0806 || byteAt b 0 6 != 0x000108000604 then s
  else
    let tell := byteAt b 24 4
    let sha := byteAt b 8 6
    let spa := byteAt b 14 4
    let mine := tell != 0 && (tell == p.ip || tell == p.streamIp)
    if !mine then s
    else
      let s1 := { s with net := { s.net with arp := (s.net.arp.filter (fun e => !(e.1 == i && e.2.1 == spa))) ++ [(i, spa, sha)] } }
      if byteAt b 6 2 == 1 then
        let me := if tell == p.ip then p.mac else p.streamMac
        let body := beBytes 8 0x0001080006040002 ++ beBytes 6 me ++ beBytes 4 tell ++ beBytes 6 sha ++ beBytes 4 spa
        s1.txPush i 0 (framePkt ⟨sha, me, none, 0x0806, body, true, false⟩)
      else s1

/-- The parts of a datagram, put together: none until every byte is there. -/
def joinParts : Nat → List (Nat × List Byte) → Nat → Nat → Option (List Byte)
  | 0, _, at', total => if at' = total then some [] else none
  | n + 1, l, at', total =>
    if at' = total then some []
    else
      match l.find? (fun e => e.1 == at' && !e.2.isEmpty) with
      | none => none
      | some e => (joinParts n l (at' + e.2.length) total).map (fun r => e.2 ++ r)

/-- Fragments of UDP datagrams on NET_M are put together (02 R55): the datagram once it is whole. -/
def State.reassemble (s : State) (d : Dgram) : Option (List Byte) × State :=
  if !d.more && d.off == 0 then (some d.body, s)
  else
    let key := (d.src, d.dst, d.id)
    let old := (s.net.frags.find? (fun r => r.key == key)).getD ⟨key, [], none⟩
    let r : Reasm := { old with
      parts := (old.parts.filter (fun e => e.1 != d.off)) ++ [(d.off, d.body)]
      total := if d.more then old.total else some (d.off + d.body.length) }
    let rest := s.net.frags.filter (fun r => r.key != key)
    match r.total.bind (fun t => joinParts r.parts.length r.parts 0 t) with
    | some b => (some b, { s with net := { s.net with frags := rest } })
    | none => (none, { s with net := { s.net with frags := rest ++ [r] } })

/-- A fragment that belongs to the UDP command channel: its datagram's first part names the port. -/
def State.isCmdFrag (s : State) (d : Dgram) : Bool :=
  let key := (d.src, d.dst, d.id)
  (d.off == 0 && d.dport == 40216) ||
    (d.off != 0 && s.net.frags.any (fun r => r.key == key && r.parts.any (fun e => e.1 == 0 && byteAt e.2 2 2 == 40216)))

/-- A datagram for the UDP command channel: the packet, and the tag that follows it (02 R55-R57). -/
def State.udpCommand (s : State) (d : Dgram) (body : List Byte) (run : Cmd → State → State) : State :=
  let data := (body.take (byteAt body 4 2)).drop 8
  let ws := wordsBE data
  let n := fld (ws.headD 0) 15 0
  if data.length % 4 != 0 || 4112 < data.length then s.countPort 2 25 1
  else s.receive .udp ⟨d.src, byteAt body 0 2, ws.drop n⟩ (ws.take n) run

/-- Steps 6 to 9 of 10 R267. -/
def State.sortFrame (s : State) (i : Nat) (f : Frame) (run : Cmd → State → State) : State :=
  let general (s : State) : State :=
    let pr := (f.tag.map (·.1)).getD 0
    (s.arp i f).rxPush i (fld (s.port i).rxMap (3 * pr + 2) (3 * pr)) f
  if (s.rxMatch i f).isSome then (s.countPort i 23 1).rxPush i 7 f
  else
    match parseUdp f with
    | none => if f.etype == 0x88F7 then (s.countPort i 24 1).rxPush i 6 f else general s
    | some d =>
      if f.etype == 0x88F7 || (d.off == 0 && (d.dport == 319 || d.dport == 320)) then (s.countPort i 24 1).rxPush i 6 f
      else if i != 2 then general s
      else
        let mine := s.isCmdFrag d
        let r := s.reassemble d
        match r.1 with
        | some b => if byteAt b 2 2 == 40216 then r.2.udpCommand d b run else general r.2
        | none => if mine then r.2 else general r.2

/-- FRAME_RECEIVE (10 R267). -/
def State.receiveFrame (s : State) (i : Nat) (f : Frame) (run : Cmd → State → State) : State :=
  let p := s.port i
  let good := f.fcsOk && !f.cut
  let s0 := if f.cut then s.countPort i 19 1 else s
  if !p.enable || !p.linkUp then s
  else if f.len < 64 then s0.countPort i (if good then 14 else 15) 1
  else if p.mtu + 22 < f.len then s0.countPort i (if good then 16 else 17) 1
  else if !good then s0.countPort i 18 1
  else
    let s1 := s0.setPort i ((s0.port i).countFrame f 0 1 2 7)
    if !s1.addrPasses i f then s1.countPort i 20 1
    else if f.etype == 0x8808 then s1.macControl i f
    else s1.sortFrame i f run

/-! ## Commands -/

/-- PORT_CONFIG in its configuration form (10 R265). -/
def applyPortConfig (p : List W32) (s : State) : Ans :=
  let w3 := pw p 3
  let w4 := pw p 4
  let i := fld w3 1 0
  let o := s.port i
  let n := { o with
    enable := bit w4 31
    speed := fld w4 30 30
    fec := fld w4 29 28
    an := bit w4 27
    loopback := fld w4 26 25
    promisc := bit w4 24
    mtu := fld w4 13 0
    rxMap := pw p 5
    txPcp := pw p 6 }
  let bad := p.length != 4 || fld w3 31 2 != 0 || i == 3 || n.fec == 3 || (n.fec == 2 && n.speed == 1 && decide (i < 2)) || (i == 2 && n.fec != 0) ||
    (n.an && (i != 2 || n.speed == 1)) || n.loopback == 3 || fld w4 23 14 != 0 || n.mtu < 1500 || 9000 < n.mtu ||
    fld (pw p 5) 31 24 != 0 || fld (pw p 6) 31 24 != 0
  if bad then .ok (s.hostError (.port (if i = 3 then 0 else i)))
  else if n.speed != o.speed && !s.portFits i n then .refuse stResource s
  else
    let restart := n.enable != o.enable || n.speed != o.speed || n.fec != o.fec || n.an != o.an || n.loopback != o.loopback
    let s1 := if restart then
        let f := s.linkFall i
        let q := f.port i
        f.setPort i { q with enable := n.enable, speed := n.speed, fec := n.fec, an := n.an, loopback := n.loopback, promisc := n.promisc, mtu := n.mtu, rxMap := n.rxMap, txPcp := n.txPcp, sgmiiRate := 0 }
      else s.setPort i n
    .ok (s1.pauseCheck i)

/-- GATE_LIST_LOAD (10 R273). -/
def applyGateListLoad (p : List W32) (s : State) : Ans :=
  let w3 := pw p 3
  let n := fld w3 24 16
  let cyc := fld w3 12 8
  let i := fld w3 1 0
  let es := (p.drop 1).map (fun w => (fld w 31 24, fld w 18 0))
  let bad := fld w3 31 25 != 0 || fld w3 15 13 != 0 || fld w3 7 2 != 0 || i == 3 || cyc == 0 || 24 < cyc || n == 0 || 256 < n ||
    p.length != 1 + n || (p.drop 1).any (fun w => fld w 23 19 != 0) || es.any (fun e => decide (e.2 < 64 ∨ 393216 < e.2)) ||
    (es.map (·.2)).sum != cyc * 16384
  if bad then .ok (s.hostError (.port (if i = 3 then 0 else i)))
  else
    let o := s.port i
    let q := { o with gatesNext := some ⟨cyc, es⟩ }
    if !s.portFits i q then .refuse stResource s else .ok (s.setPort i (q.turnGates s.time.tick))

/-- FLOW_CONFIG (10 R269, R271, R277). -/
def applyFlowConfig (p : List W32) (s : State) : Ans :=
  let w3 := pw p 3
  let w4 := pw p 4
  let i := fld w3 1 0
  let o := s.port i
  let rx (q : Nat) : W32 := pw p (5 + q)
  let tx (q : Nat) : W32 := pw p (13 + q)
  let total := ((List.range 8).map (fun q => fld (rx q) 7 0 + fld (tx q) 7 0)).sum
  let bad := fld w3 15 4 != 0 || fld w3 3 2 == 3 || i == 3 || fld w4 31 16 == 0 || fld w4 15 10 != 0 || fld w4 9 0 == 0 || 1000 < fld w4 9 0 ||
    (List.range 8).any (fun q => fld (rx q) 31 24 != 0 || fld (rx q) 23 16 == 0 || 100 < fld (rx q) 23 16 ||
      fld (rx q) 23 16 ≤ fld (rx q) 15 8 || fld (tx q) 31 8 != 0) || total != (if i = 2 then 64 else 256)
  let q0 := Queue.init 0 75 50
  let resized := (List.range 8).any (fun q => fld (rx q) 7 0 != (o.rxq.getD q q0).size || fld (tx q) 7 0 != (o.txq.getD q q0).size)
  if bad then .ok (s.hostError (.port (if i = 3 then 0 else i)))
  else if o.enable && resized then .refuse stState s
  else
    let rxq := o.rxq.mapIdx (fun k (y : Queue) =>
      let z := ({ y with high := fld (rx k) 23 16, low := fld (rx k) 15 8, size := fld (rx k) 7 0 } : Queue).reflag
      if bit w3 (24 + k) then z.flush else z)
    let txq := o.txq.mapIdx (fun k (y : Queue) =>
      let z := ({ y with size := fld (tx k) 7 0 } : Queue).reflag
      if bit w3 (16 + k) then z.flush else z)
    let s1 := s.setPort i { o with rxq := rxq, txq := txq, mode := fld w3 3 2, quanta := fld w4 31 16, wdLimit := fld w4 9 0 }
    .ok (((maskBits 8 (fld w3 23 16)).foldl (fun (s : State) q => s.cutWire i q) s1).pauseCheck i)

/-- STATS_READ (10 R286). -/
def queryStatsRead (p : List W32) (s : State) : Ans :=
  let w := pw p 3
  let i := fld w 1 0
  let a := fld w 15 10
  let n := fld w 9 4
  if fld w 30 16 != 0 || fld w 3 2 != 0 || i == 3 || n == 0 || 48 < a + n then .ok (s.hostError (.port (if i = 3 then 0 else i)))
  else
    let o := (s.port i).settle s.time.mono
    let vals := (List.range n).map (fun k => w32 (o.counters.getD (a + k) 0))
    let o1 := if bit w 31 then
        { o with counters := o.counters.mapIdx (fun k c => if a ≤ k && decide (k < a + n) then c % 2 ^ 31 else c) }
      else o
    .okData vals (s.setPort i o1)

/-- EVENT_STATS_HALF at the end of a tick (10 R285). -/
def State.statsHalf (s : State) (i : Nat) : State :=
  let p := s.port i
  if p.half.isEmpty then s
  else
    let lo := p.half.filter (fun c => decide (c < 32))
    let hi := (p.half.filter (fun c => decide (32 ≤ c))).map (· - 32)
    (s.setPort i { p with half := [] }).event 0xE5 [w32 i, w32 (maskOf lo), w32 (maskOf hi), s.tick32]

/-- BLOCK_RESET of a port (10 R291). -/
def State.resetPort (s : State) (i : Nat) : State :=
  let s1 := (List.range 8).foldl (fun (s : State) q => s.cutWire i q) s
  let s2 := s1.linkFall i
  let p := s2.port i
  (s2.setPort i { p with
    rxq := p.rxq.map (fun (q : Queue) => q.flush)
    txq := p.txq.map (fun (q : Queue) => q.flush)
    pauses := []
    pausing := []
    lateAudio := none }).predictable [.port i]

/-- Form 0 of ADDRESS_CONFIG: one port (18 R495, R496). -/
def addressPort (p : List W32) (s : State) : Ans :=
  let w := pw p 3
  let i := fld w 1 0
  let role := fld w 3 2
  let bad := p.length != 9 || fld w 29 4 != 0 || role == 3 || i == 3 || fld (pw p 5) 15 0 != 0 || fld (pw p 7) 31 6 != 0 || 32 < fld (pw p 7) 5 0 ||
    fld (pw p 10) 15 0 != 0 || (i == 2 && (pw p 9 != 0 || pw p 10 != 0 || pw p 11 != 0))
  if bad then .ok (s.hostError (.port (if i = 3 then 0 else i)))
  else if (role == 1 && s.sys.pairRole == 2) || (role == 2 && s.sys.pairRole != 2) then .ok s
  else .ok (s.setPort i { s.port i with
    mac := (pw p 4).toNat * 65536 + fld (pw p 5) 31 16
    ip := (pw p 6).toNat
    plen := fld (pw p 7) 5 0
    gateway := (pw p 8).toNat
    streamMac := (pw p 9).toNat * 65536 + fld (pw p 10) 31 16
    streamIp := (pw p 11).toNat })

/-- Form 1: the command channel. -/
def addressChannel (p : List W32) (s : State) : Ans :=
  let n := fld (pw p 3) 4 0
  let mtu := fld (pw p 5) 13 0
  let bad := fld (pw p 3) 29 5 != 0 || 16 < n || p.length != 3 + 2 * n || fld (pw p 5) 15 14 != 0 || mtu < 576 || 9000 < mtu ||
    (List.range n).any (fun k => fld (pw p (7 + 2 * k)) 31 6 != 0 || 32 < fld (pw p (7 + 2 * k)) 5 0)
  if bad then .ok (s.hostError (.port 2))
  else .ok { s with host := { s.host with
    evtIp := (pw p 4).toNat
    evtPort := fld (pw p 5) 31 16
    cmdMtu := mtu
    allow := (List.range n).map (fun k => ((pw p (6 + 2 * k)).toNat, fld (pw p (7 + 2 * k)) 5 0)) } }

/-- Form 2: the multicast table. -/
def addressGroups (p : List W32) (s : State) : Ans :=
  let a := fld (pw p 3) 13 8
  let n := fld (pw p 3) 6 0
  let bad := fld (pw p 3) 29 14 != 0 || bit (pw p 3) 7 || n == 0 || 64 < a + n || p.length != 1 + 2 * n ||
    (List.range n).any (fun k => fld (pw p (5 + 2 * k)) 14 0 != 0)
  if bad then .ok (s.hostError (.port 2))
  else .ok { s with net := { s.net with mcast := s.net.mcast.mapIdx (fun k e =>
    if a ≤ k && decide (k < a + n) then
      ((pw p (4 + 2 * (k - a))).toNat * 65536 + fld (pw p (5 + 2 * (k - a))) 31 16, bit (pw p (5 + 2 * (k - a))) 15)
    else e) } }

def applyAddressConfig (p : List W32) (s : State) : Ans :=
  match fld (pw p 3) 31 30 with
  | 0 => addressPort p s
  | 1 => addressChannel p s
  | 2 => addressGroups p s
  | _ => .ok (s.hostError (.port 2))

/-! ## Queue ports (15 R426, R427) -/

/-- A master's access to a queue block is answered by CT13 for queues 6 and 7 and where the matrix does not let it pass. -/
def State.queueOpen (s : State) (m q : Nat) (wr : Bool) : Bool :=
  decide (q % 8 < 6) && s.permits m (0x78000000 + 0x1000 * q) wr

def State.queueRefused (s : State) (m q off : Nat) : State :=
  let a := 0x78000000 + 0x1000 * q + off
  (s.busDecode m a).emit (.bus m a false [])

/-- A packet is committed: its frames become eligible, and the segments of a send count (10 R282, R283). -/
def State.commitPkt (s : State) (q : Nat) (ws : List W32) : State :=
  let i := qPort q
  let h := txHead (ws.getD 0 0) (ws.getD 1 0)
  let bs := (ws.drop 2).flatMap wordBytes
  let y := s.queue q
  if h.bad bs (s.port i).mtu then (s.setQueue q ({ y with part := none } : Queue).reflag).hostError (.port i)
  else
    let fs := txFrames h bs
    let s1 := s.setQueue q ({ y with part := none, pkts := y.pkts ++ [⟨ws, fs, false⟩] } : Queue).reflag
    if h.seg then s1.countPort i 42 fs.length else s1

/-- COMMIT appends the last word (15 R427). -/
def State.queueCommit (s : State) (q : Nat) (w : W32) : State :=
  let y := s.queue q
  if !qIsTx q then s
  else if y.discard then s.setQueue q { y with discard := false }
  else if y.words < y.level + 1 then (s.setQueue q ({ y with part := none } : Queue).reflag).countPort (qPort q) 45 1
  else s.commitPkt q (y.part.getD [] ++ [w])

/-- An uncorrectable error in a queue (10 R289): the packet at its head is lost. -/
def State.queueEcc (s : State) (q : Nat) : State :=
  let y := s.queue q
  let i := qPort q
  if y.pkts.isEmpty then s
  else
    let z := ({ y with pkts := y.pkts.drop 1, read := 0, truncated := !qIsTx q && y.read != 0 } : Queue).reflag
    let s1 := (s.setQueue q z).countPort i (if qIsTx q then 45 else 22) 1
    if qIsTx q then s1.emit (.cut i) else s1.pauseCheck i

/-! ## The meanings of the rows -/

def execPortConfig (st : Stage) (p : List W32) (s : State) : Host.Outcome State Fault Refusal := .next (s.command 0x20 st p applyPortConfig)

def execGateListLoad (st : Stage) (p : List W32) (s : State) : Host.Outcome State Fault Refusal := .next (s.command 0x21 st p applyGateListLoad)

def execFlowConfig (st : Stage) (p : List W32) (s : State) : Host.Outcome State Fault Refusal := .next (s.command 0x22 st p applyFlowConfig)

def execStatsRead (h : CmdHead) (p : List W32) (s : State) : Host.Outcome State Fault Refusal := .next (s.query 0x23 h p queryStatsRead)

def execAddressConfig (st : Stage) (p : List W32) (s : State) : Host.Outcome State Fault Refusal := .next (s.command 0x29 st p applyAddressConfig)

/-- A pause whose time has run out ends (10 R279). -/
def execPauseTimerExpire (t port unit : Nat) (s : State) : Host.Outcome State Fault Refusal :=
  let s := s.goto t
  let p := s.port port
  onUnit (port < 3 && unit ≤ 8) (s.setPort port { p with
    pauses := p.pauses.filter (fun u => !(u.unit == unit && u.ignoring.isNone && decide (u.stop ≤ s.time.mono))) })

/-- Every half pause time for as long as the port pauses (10 R278). -/
def execPauseRepeat (t port unit : Nat) (s : State) : Host.Outcome State Fault Refusal :=
  let s := s.goto t
  let p := s.port port
  onUnit (port < 3 && unit ≤ 8) (if p.pausing.contains unit then s.sendPause port [unit] p.quanta else s)

/-- WD_LIMIT in units of 0.1 ms (10 R280). -/
def execPauseWatchdog (t port unit : Nat) (s : State) : Host.Outcome State Fault Refusal :=
  let s := s.goto t
  let p := s.port port
  let now := s.time.mono
  let beyond := p.pauses.any (fun u => u.unit == unit && u.ignoring.isNone && decide (u.since + p.wdLimit * 100000 ≤ now))
  onUnit (port < 3 && unit ≤ 8) (if beyond then
    ((s.setPort port { p with pauses := p.pauses.map (fun u => if u.unit == unit then ⟨unit, now, now, some now⟩ else u) }).countPort port 46 1).netEvent port 4 unit
    else s)

def execPauseIgnoreEnd (t port unit : Nat) (s : State) : Host.Outcome State Fault Refusal :=
  let s := s.goto t
  let p := s.port port
  onUnit (port < 3 && unit ≤ 8) (s.setPort port { p with pauses := p.pauses.filter (fun u =>
    !(u.unit == unit && (match u.ignoring with
      | some a => decide (a + p.wdLimit * 100000 ≤ s.time.mono)
      | none => false))) })

def execFrameTransmit (t port : Nat) (s : State) : Host.Outcome State Fault Refusal :=
  onUnit (port < 3) ((s.goto t).transmit port)

def execGateEntryBoundary (t port : Nat) (s : State) : Host.Outcome State Fault Refusal :=
  let s := s.goto t
  let p := s.port port
  onUnit (port < 3) (s.setPort port { p with gateEntry := p.gates.entryAt s.time.tick s.time.sub })

def execLinkUp (t port rate : Nat) (s : State) : Host.Outcome State Fault Refusal :=
  onUnit (port < 3) ((s.goto t).linkRise port rate)

def execLinkDown (t port : Nat) (s : State) : Host.Outcome State Fault Refusal :=
  onUnit (port < 3) ((s.goto t).linkFall port)

/-- A read of a transmit queue's DATA port, which is written only, returns a free value (log 12). -/
def execQueueDataRead (t master q : Nat) (s : State) : Host.Outcome State Fault Refusal :=
  let s := s.goto t
  onUnit (master < 13 && q < 48)
    (if !s.queueOpen master q false then s.queueRefused master q 0
    else if qIsTx q then
      let f := s.freeTick
      f.2.emit (.queueData master q false f.1)
    else
      let r := (s.queue q).readData
      ((s.setQueue q r.2).pauseCheck (qPort q)).emit (.queueData master q r.1.isSome (r.1.getD 0)))

def execQueueDataWrite (t master q : Nat) (w : W32) (s : State) : Host.Outcome State Fault Refusal :=
  let s := s.goto t
  onUnit (master < 13 && q < 48)
    (if !s.queueOpen master q true then s.queueRefused master q 0
    else if !qIsTx q then s
    else
      let r := (s.queue q).writeData w
      if r.2 then (s.setQueue q r.1).countPort (qPort q) 45 1 else s.setQueue q r.1)

def execQueueCommit (t master q : Nat) (w : W32) (s : State) : Host.Outcome State Fault Refusal :=
  let s := s.goto t
  onUnit (master < 13 && q < 48) (if !s.queueOpen master q true then s.queueRefused master q 8 else s.queueCommit q w)

def execQueueRewind (t master q : Nat) (s : State) : Host.Outcome State Fault Refusal :=
  let s := s.goto t
  onUnit (master < 13 && q < 48)
    (if !s.queueOpen master q true then s.queueRefused master q 16
    else (s.setQueue q ((s.queue q).rewind (qIsTx q))).pauseCheck (qPort q))

end Sys2Proof.Machine
end

