-- ==== Sys2Proof/Machine/Stream.lean ====
section
/-! DEFINITION. The stream engine (11): stream slots, packet copies and their deadlines, presentation with concealment,
and the packets that transmit streams send; with the trackers that lock to a stream or a group (03 R90). -/

namespace Sys2Proof.Machine
open Sys2Proof

def State.setRx (s : State) (i : Nat) (x : RxSlot) : State := { s with strm := { s.strm with rx := s.strm.rx.set i x } }

def State.setTx (s : State) (i : Nat) (x : TxSlot) : State := { s with strm := { s.strm with tx := s.strm.tx.set i x } }

def State.txSlot (s : State) (i : Nat) : TxSlot := s.strm.tx.getD i TxSlot.init

def TxSlot.word0 (x : TxSlot) : W32 := pack [(x.st.code, 28)]

def State.txEvent (s : State) (slot cause : Nat) : State := s.streamEvent 1 cause slot (s.txSlot slot).word0

/-- The loss time L_s in ticks (11 R303). -/
def RxSlot.lossTicks (x : RxSlot) : Nat := max 24 (2 * x.packetTicks)

/-! ## Packets (11 R298-R301) -/

/-- The number nearest to ref whose low n bits are those of v. -/
def nearest (n v ref : Nat) : Nat :=
  let m := 2 ^ n
  let d := modSub n v ref
  if 2 * d ≤ m ∨ ref + d < m then ref + d else ref + d - m

/-- A parsed packet: its sequence number, its samples by presentation tick with the position of the first, and the ticks
that a packet of its kind covers. -/
structure RxPacket where
  seq : Nat
  ticks : List (Nat × Nat × List (List Sample))
  span : Nat

/-- A trunk packet; none for one that 11 R301 discards. FAMILY must be the chip's unless the stream is foreign. -/
def StreamCfg.trunkPacket (c : StreamCfg) (f44 : Bool) (tick : Nat) (b : List Byte) : Option RxPacket :=
  let w := w32 (byteAt b 0 4)
  let off := fld w 10 4
  let n := fld w 14 11
  let p := nearest 32 (byteAt b 12 4) tick
  let fam := bit w 15
  if fld w 31 24 != 0xA9 || fld w 23 20 != 1 || 64 * 2 ^ fld w 19 18 != c.chans || fld w 17 16 != c.domain || (fam != f44 && !c.foreign) ||
      n != tickSamples fam c.domain (p - off) || b.length != 36 + 4 * c.chans * n then none
  else some ⟨byteAt b 8 4, [(p, 0, (List.range c.chans).map (fun ch =>
    (List.range n).map (fun j => signed 32 (byteAt b (36 + 4 * (j * c.chans + ch)) 4))))], 1⟩

/-- An AES67 packet: now is TB0 in ns, last the extended number last used. A packet that is not in the supported form is
discarded. -/
def StreamCfg.aesPacket (c : StreamCfg) (now last : Nat) (b : List Byte) : Option RxPacket :=
  let h := byteAt b 0 1
  let x := 12 + 4 * (h % 16)
  let head := x + (if h / 16 % 2 = 1 then 4 + 4 * byteAt b (x + 2) 2 else 0)
  let pad := if h / 32 % 2 = 1 then byteAt b (b.length - 1) 1 else 0
  let body := (b.drop head).take (b.length - head - pad)
  let w := if c.l24 then 3 else 2
  let n := body.length / (w * c.chans)
  let spt := 2 * 2 ^ c.domain
  let rate := 48000 * 2 ^ c.domain
  let k0 := nearest 32 ((byteAt b 4 4 + 2 ^ 32 - c.srcIp.toNat) % 2 ^ 32) (rate * now / 1000000000)
  let val (i ch : Nat) : Sample := signed 32 (byteAt body (w * (i * c.chans + ch)) w * 2 ^ (32 - 8 * w))
  if h / 64 != 2 || byteAt b 1 1 % 128 != c.pt || body.length != w * c.chans * n || n < 3 * spt || 96 * spt < n then none
  else
    let one (t : Nat) : Nat × Nat × List (List Sample) :=
      let lo := max k0 (t * spt)
      let hi := min (k0 + n) ((t + 1) * spt)
      (t + c.offset, lo - t * spt, (List.range c.chans).map (fun ch => (List.range (hi - lo)).map (fun j => val (lo - k0 + j) ch)))
    some ⟨nearest 16 (byteAt b 2 2) last, (span (k0 / spt) ((k0 + n - 1) / spt)).map one, ceilDiv n spt⟩

/-- The extended number that AES67 sequences are taken against: the last one used, or the middle of a first round. -/
def RxSlot.lastSeq (x : RxSlot) : Nat := (x.taken.head?.map (·.2)).getD 65536

/-! ## Copies (11 R295, R296, R302-R304; 14 R374 step 1) -/

/-- The deadline for presentation tick P in TB0 ns. -/
def copyDeadline (p : Nat) : Nat := boundaryNs (p + 1) + 1000

/-- A path has shown a copy. -/
def State.pathSeen (s : State) (slot port : Nat) : State :=
  let x := s.rxSlot slot
  let was := if port = 0 then x.pathA else x.pathB
  let s1 := s.setRx slot (if port = 0 then { x with pathA := true, lastA := s.now } else { x with pathB := true, lastB := s.now })
  if was then s1 else s1.rxEvent slot (if port = 0 then 7 else 9)

/-- A copy of the same number was or will be used for a tick. -/
def State.coversCopy (s : State) (slot seq p : Nat) : Bool :=
  let x := s.rxSlot slot
  x.taken.contains (p, seq) || x.buf.any (fun j => j.ptick == p && j.seq == seq) || s.pair.patches.any (fun e => e.1 == ⟨slot, seq, p⟩)

/-- The partner's bitmap decides too: on an engine of a pair in step, and on one that follows. -/
def State.unites (s : State) : Bool := !s.solo && s.pair.linkUp && (s.follows || s.inStep)

/-- STREAM_LATE for a late copy, at most once a tick (11 R304). -/
def State.raiseLate (s : State) (c : CopyId) (port tick stamp : Nat) : State :=
  let x := s.rxSlot c.slot
  if x.lateTick = some tick then s
  else
    let used := s.coversCopy c.slot c.seq c.ptick
    (s.setRx c.slot { x with lateTick := some tick }).raiseWith stamp 0x09 c.slot 0x0B (pack [(port, 16), (c.ptick % 65536, 0)])
      (if used then 1 else 2) used

/-- A late copy counts, and raises STREAM_LATE in both engines of a pair in step (14 R374). -/
def State.lateCopy (s : State) (slot port seq p : Nat) : State :=
  let x := s.rxSlot slot
  let c : CopyId := ⟨slot, seq, p⟩
  let s1 := (s.setRx slot { x with late := x.late + 1 }).raiseLate c port s.time.tick s.now
  if s.unites then s1.sendCell (.late c port s.time.tick s.now) else s1

/-- The partner is told of a copy that is on time. -/
def State.noticeCopy (s : State) (c : CopyId) : State :=
  if s.solo || !s.pair.linkUp then s else s.sendCell (.notice c)

/-- A copy of a stream that keeps the engine's time. -/
def State.timedCopy (s : State) (slot port : Nat) (k : RxPacket) : State :=
  let x := s.rxSlot slot
  let p0 := (k.ticks.headD (0, 0, [])).1
  if s.time.tick + x.cfg.depth < p0 then s.setRx slot { x with early := min 65535 (x.early + 1) }
  else
    let onTime := k.ticks.filter (fun e => decide (s.now ≤ copyDeadline e.1))
    let missed := k.ticks.find? (fun e => decide (copyDeadline e.1 < s.now))
    let dup := x.seen.contains k.seq
    let x1 :=
      if dup then { x with dup := x.dup + 1 }
      else { x with
        seen := (k.seq :: x.seen).take 65536
        packetTicks := k.span
        buf := onTime.map (fun e => ⟨e.1, k.seq, e.2.1, (copyDeadline e.1 - s.now) / 1000, e.2.2⟩) ++ x.buf }
    let s1 := s.setRx slot x1
    let s2 := if dup then s1 else onTime.foldl (fun (s : State) e => s.noticeCopy ⟨slot, k.seq, e.1⟩) s1
    match missed with
    | some e => s2.lateCopy slot port k.seq e.1
    | none => s2

/-- A copy of a foreign stream waits in sequence order in a buffer of DEPTH ticks (11 R309). -/
def State.foreignCopy (s : State) (slot : Nat) (k : RxPacket) : State :=
  let x := s.rxSlot slot
  if x.seen.contains k.seq then s.setRx slot { x with dup := x.dup + 1 }
  else if x.cfg.depth < x.buf.length + k.ticks.length then s.setRx slot { x with early := min 65535 (x.early + 1) }
  else
    let new : List JitTick := k.ticks.map (fun e => ⟨e.1, k.seq, e.2.1, 0, e.2.2⟩)
    s.setRx slot { x with
      seen := (k.seq :: x.seen).take 65536
      packetTicks := k.span
      buf := sortBy (fun a b => decide (a.seq < b.seq ∨ (a.seq = b.seq ∧ a.ptick < b.ptick))) (x.buf ++ new) }

/-- A packet copy of a slot has committed. -/
def State.streamCopy (s : State) (port slot : Nat) (data : List Byte) : State :=
  let x := s.rxSlot slot
  let c := x.cfg
  match (if c.trunk then c.trunkPacket s.route.family44 s.time.tick data else c.aesPacket s.now x.lastSeq data) with
  | none => if c.trunk then s.setRx slot { x with badPkt := min 65535 (x.badPkt + 1) } else s
  | some k =>
    let s1 := s.pathSeen slot port
    if c.foreign then s1.foreignCopy slot k else s1.timedCopy slot port k

/-- The packet at the head of receive queue 7 is taken by the stream engine. -/
def State.streamCommit (s : State) (port : Nat) : State :=
  let q := 16 * port + 7
  let y := s.queue q
  match y.pkts with
  | [] => s
  | k :: rest =>
    let s1 := s.setQueue q ({ y with pkts := rest, read := 0 } : Queue).reflag
    match s1.rxMatch port (rxFrame k.words) with
    | none => s1
    | some (slot, d) => s1.streamCopy port slot d.data

/-! ## Presentation (11 R305, R306, R308; 14 R374) -/

/-- The copies that this engine has for presentation tick P: its own on time and the patches that have arrived. -/
def State.haveSet (s : State) (p : Nat) : List CopyId :=
  let own := (s.strm.oldRx ++ s.strm.rx.zipIdx.map (fun e => (e.2, e.1))).flatMap (fun e =>
    if e.2.st == .closed || e.2.cfg.foreign then []
    else (e.2.buf.filter (fun j => j.ptick == p)).map (fun j => (⟨e.1, j.seq, p⟩ : CopyId)))
  (own ++ (s.pair.patches.filter (fun e => e.1.ptick == p)).map (·.1)).eraseDups

/-- The copies present for tick P. -/
def State.presentSet (s : State) (p : Nat) : List CopyId :=
  let own := (kget s.pair.frozen p).getD (s.haveSet p)
  match kget s.pair.bitmaps p with
  | some b => if s.unites then own.filter (fun c => b.contains c) else own
  | none => own

/-- A present copy's samples: number, first position, samples by channel, and the slack of an own copy. -/
def State.copySamples (s : State) (x : RxSlot) (c : CopyId) : Option (Nat × Nat × List (List Sample) × Option Nat) :=
  match x.buf.find? (fun j => j.ptick == c.ptick && j.seq == c.seq) with
  | some j => some (c.seq, j.first, j.samples, some j.slack)
  | none => (s.pair.patches.find? (fun e => e.1 == c)).map (fun e => (c.seq, e.2.1, e.2.2, none))

/-- The gain of each sample of a tick and the samples received for it, with the gain after the last. -/
def concealGains (conceal : Bool) (hits : List (Option (Nat × List (List Sample)))) (g : Nat) :
    List (Option (Nat × List (List Sample)) × Nat) × Nat :=
  hits.foldl (fun (a : List (Option (Nat × List (List Sample)) × Nat) × Nat) h =>
    match h with
    | none => (a.1 ++ [(none, if conceal then a.2 else 0)], if conceal then a.2 - 1 else 64)
    | some _ =>
      let g1 := if conceal then min (a.2 + 1) 64 else 64
      (a.1 ++ [(h, g1)], g1)) ([], g)

/-- n samples of a tick from the copies present, with concealment: the samples by channel, whether one was missing, and the
slot after them. -/
def RxSlot.play (x : RxSlot) (n : Nat) (copies : List (Nat × List (List Sample))) : List (List Sample) × Bool × RxSlot :=
  let hits := (List.range n).map (fun j =>
    (copies.find? (fun e => decide (e.1 ≤ j ∧ j < e.1 + (e.2.headD []).length))).map (fun e => (j - e.1, e.2)))
  let r := concealGains x.cfg.conceal hits x.g
  let value (c j : Nat) (h : Option (Nat × List (List Sample))) : Sample :=
    match h with
    | some e => (e.2.getD c []).getD e.1 0
    | none => (x.last.getD c []).getD j 0
  let ys := (List.range x.cfg.chans).map (fun c =>
    (r.1.zipIdx).map (fun e => roundDiv (value c e.2 e.1.1 * (e.1.2 : Int)) 64))
  let last := x.last.mapIdx (fun c l => l.mapIdx (fun j v => if j < n then value c j (r.1.getD j (none, 0)).1 else v))
  (ys, hits.any (·.isNone), { x with g := r.2, last := last })

/-- The packets used for a tick count, each once. -/
def RxSlot.use (x : RxSlot) (p : Nat) (seqs : List Nat) : RxSlot :=
  seqs.foldl (fun (x : RxSlot) q =>
    let known := x.taken.any (fun e => e.2 == q)
    let follows := match x.taken.head? with
      | some e => (e.2 + 1) % 2 ^ 32 == q % 2 ^ 32
      | none => false
    let x1 := if known then x else { x with used := x.used + 1, consec := if follows then x.consec + 1 else 1 }
    { x1 with taken := ((p, q) :: x1.taken).take 256 }) x

/-- A slot goes to RUN or stays, given that a copy is present; the cause of the event if it moves. -/
def RxSlot.advance (x : RxSlot) (any : Bool) : RxSlot × Option Nat :=
  match x.st with
  | .wait => if any then ({ x with st := .run }, some 3) else (x, none)
  | .lost => if any && 2 ≤ x.consec then ({ x with st := .run }, some 5) else (x, none)
  | _ => (x, none)

/-- The samples of tick d of one slot, the slot after it, and the cause of a change of state. -/
def RxSlot.present (x : RxSlot) (d n : Nat) (copies : List (Nat × Nat × List (List Sample) × Option Nat)) :
    List (List Sample) × RxSlot × Option Nat :=
  let x1 := x.use d (copies.map (·.1))
  let slack := copies.foldl (fun a e => min a (e.2.2.2.getD 0x3FFF)) x1.minSlack
  let x2 := { x1 with
    minSlack := slack
    lastOn := if copies.isEmpty then x1.lastOn else d
    buf := x1.buf.filter (fun j => decide (d < j.ptick)) }
  let a := x2.advance (!copies.isEmpty)
  match a.1.st with
  | .run | .lost =>
    let r := a.1.play n (if a.1.st == .run then copies.map (fun e => (e.2.1, e.2.2.1)) else [])
    (r.1, { r.2.2 with missing := if r.2.1 then r.2.2.missing + 1 else r.2.2.missing }, a.2)
  | _ => (List.replicate x.cfg.chans (List.replicate n 0), a.1, a.2)

/-- One tick of a foreign slot: one tick of samples in sequence order, or a gap (11 R309). -/
def RxSlot.presentForeign (x : RxSlot) (d n : Nat) : List (List Sample) × RxSlot × Option Nat :=
  let go := x.st != .wait || decide (x.cfg.depth ≤ 2 * x.buf.length)
  let want := match x.taken.head? with
    | some e => some e.2
    | none => none
  match x.buf with
  | j :: rest =>
    let inOrder := match want with
      | some q => decide (j.seq ≤ q + 1)
      | none => true
    if !go then (List.replicate x.cfg.chans (List.replicate n 0), x, none)
    else if inOrder then
      let r := ({ x with buf := [] } : RxSlot).present d n [(j.seq, 0, j.samples, none)]
      (r.1, { r.2.1 with buf := rest }, r.2.2)
    else
      let r := x.present d n []
      (r.1, { r.2.1 with buf := x.buf, taken := ((d, want.getD 0 + 1) :: r.2.1.taken).take 256 }, r.2.2)
  | [] => if go then x.present d n [] else (List.replicate x.cfg.chans (List.replicate n 0), x, none)

/-- The samples per tick of a stream's channels: those of its domain, or of its own family where it is not the chip's. -/
def State.streamCount (s : State) (c : StreamCfg) (d : Nat) : Nat := tickSamples (s.route.family44 && c.trunk && !c.foreign) c.domain d

/-- A slot's samples of tick d at the cut-off. -/
def State.presentSlot (s : State) (x : RxSlot) (slot d : Nat) : List (List Sample) × RxSlot × Option Nat :=
  let n := s.streamCount x.cfg d
  if x.cfg.foreign then x.presentForeign d n
  else
    let ids := (s.presentSet d).filter (fun c => c.slot == slot)
    x.present d n (sortBy (fun a b => decide (a.1 < b.1)) (ids.filterMap (fun c => s.copySamples x c)))

def State.putSources (s : State) (base : Nat) (ys : List (List Sample)) : State :=
  { s with aud := { s.aud with src := (ys.zipIdx).foldl (fun l e => kset l (base + e.2) e.1) s.aud.src } }

/-- Every receive stream at the cut-off of data tick d. A slot opened after that tick is not presented; one closed at the
tick after it is presented for the last time. -/
def State.presentStreams (s : State) (d : Nat) : State :=
  let old := s.strm.oldRx.foldl (fun (s : State) e => s.putSources e.2.cfg.base (s.presentSlot e.2 e.1 d).1) s
  let s1 := (List.range 256).foldl (fun (s : State) i =>
    let x := s.rxSlot i
    if x.st == .closed || d < x.openTick then s
    else
      let r := s.presentSlot x i d
      let s1 := (s.setRx i r.2.1).putSources x.cfg.base r.1
      match r.2.2 with
      | some c => s1.rxEvent i c
      | none => s1) { old with strm := { old.strm with oldRx := [] } }
  { s1 with pair := { s1.pair with
    frozen := s1.pair.frozen.filter (fun e => decide (d < e.1))
    bitmaps := s1.pair.bitmaps.filter (fun e => decide (d < e.1))
    patches := s1.pair.patches.filter (fun e => decide (d < e.1.ptick))
    notices := s1.pair.notices.filter (fun c => decide (d < c.ptick)) } }

/-! ## Transmission (11 R299, R300, R310, R313) -/

/-- The engine's role code in a trunk header. -/
def State.roleCode (s : State) : Nat := if s.solo then 0 else s.sys.pairRole

/-- The UDP datagram of a stream as a frame of a port. The IPv4 identification, its flag DF and the UDP checksum are free
values (log 23). -/
def State.streamFrame (s : State) (i : Nat) (c : StreamCfg) (payload : List Byte) (key : Nat) : Frame :=
  let p := s.port i
  let ip := [0x45, BitVec.ofNat 8 (c.dscp * 4)] ++ beBytes 2 (28 + payload.length) ++ beBytes 2 (Config.freeNat key) ++
    [if Config.freeBool key then 0x40 else 0, 0, BitVec.ofNat 8 c.ttl, 17, 0, 0] ++ beBytes 4 p.streamIp ++ beBytes 4 c.destIp
  let udp := beBytes 2 c.port ++ beBytes 2 c.port ++ beBytes 2 (8 + payload.length) ++ beBytes 2 (Config.freeNat (key + 1))
  { dst := if isGroupIp c.destIp then groupMac c.destIp else c.destMac
    src := p.streamMac
    tag := if c.tagged then some (c.pcp, c.vid) else none
    etype := 0x0800
    payload := ipSum ip ++ udp ++ payload
    fcsOk := true
    cut := false }

/-- A stream's packet goes to queue 7 of the ports that it uses. -/
def State.sendStream (s : State) (c : StreamCfg) (payload : List Byte) : State :=
  [0, 1].foldl (fun (s : State) i =>
    if c.usesPort i then
      let f := s.streamFrame i c payload s.fresh
      ({ s with fresh := s.fresh + 2 }).txPush i 7 (framePkt f)
    else s) s

/-- TB0 is in holdover for the trunk bit (12 R323). -/
def State.inHoldover (s : State) : Bool :=
  let st := (s.dpll 0).st
  st == .freerun || st == .switch || st == .holdover

/-- The trunk packet of data tick d; ys holds the samples by channel. -/
def State.trunkBytes (s : State) (x : TxSlot) (d : Nat) (ys : List (List Sample)) : List Byte :=
  let c := x.cfg
  let st := d + 3
  let n := tickSamples s.route.family44 c.domain st
  let w0 := pack [(0xA9, 24), (1, 20), (if c.chans = 64 then 0 else if c.chans = 128 then 1 else 2, 18), (c.domain, 16), (b2n s.route.family44, 15),
    (n, 11), (c.offset, 4), (b2n s.inHoldover, 3)]
  let ns := s.now + Config.freeNat s.fresh % 1001
  ([w0, c.id, w32 x.seq, w32 (st + c.offset), w32 ns, pack [(s.roleCode, 30)], 0, 0, 0].flatMap wordBytesBE) ++
    (List.range n).flatMap (fun j => (List.range c.chans).flatMap (fun ch =>
      wordBytesBE (BitVec.ofInt 32 ((ys.getD ch []).getD j (satQ31 (Config.freeInt s.fresh (j * 256 + ch)))))))

/-- A sample rounded half up to n bits and saturated (09 R245). -/
def roundBits (n : Nat) (x : Sample) : Int := clamp (-(2 ^ (n - 1))) (2 ^ (n - 1) - 1) (roundDiv x (2 ^ (32 - n)))

/-- The RTP packet of the gathered data ticks. -/
def TxSlot.rtpBytes (x : TxSlot) : List Byte :=
  let c := x.cfg
  let spt := 2 * 2 ^ c.domain
  let t0 := (x.acc.headD (0, [])).1 + 3
  let w := if c.l24 then 3 else 2
  [(0x80 : Byte), BitVec.ofNat 8 c.pt] ++ beBytes 2 (x.seq % 65536) ++ beBytes 4 ((t0 * spt + c.srcIp.toNat) % 2 ^ 32) ++ beBytes 4 c.id.toNat ++
    x.acc.flatMap (fun e => (List.range spt).flatMap (fun j => (List.range c.chans).flatMap (fun ch =>
      beBytes w (code (8 * w) (roundBits (8 * w) ((e.2.getD ch []).getD j 0))))))

/-- A packet is sent by the owner and discarded by any other engine. -/
def State.emitPacket (s : State) (x : TxSlot) (payload : List Byte) : TxSlot × State :=
  let x1 := { x with seq := x.seq + 1 }
  if s.pair.owner then ({ x1 with sent := x.sent + 1, lastSeq := if x.cfg.trunk then w32 x.seq else w32 (x.seq % 65536) }, s.sendStream x.cfg payload)
  else (x1, s)

/-- The data of tick d, final, of one transmit slot; last is its final tick. AES67 channels on a chip of the 44.1 kHz
family come from ASRC channels, so their samples are free values (log 11). -/
def State.emitSlot (s : State) (x : TxSlot) (d : Nat) (last : Bool) (sinks : List (Nat × List Sample)) : TxSlot × State :=
  let c := x.cfg
  let ys := (List.range c.chans).map (fun ch => kgetD sinks (0x1000 + c.base + ch) [])
  if c.trunk then
    let b := s.trunkBytes x d ys
    ({ s with fresh := s.fresh + 1 }).emitPacket x b
  else
    let zs := if s.route.family44 then
        (List.range c.chans).map (fun ch => (List.range (2 * 2 ^ c.domain)).map (fun j => satQ31 (Config.freeInt s.fresh (j * 64 + ch))))
      else ys
    let s1 := { s with fresh := s.fresh + 1 }
    let x1 := { x with acc := x.acc ++ [(d, zs)] }
    if c.depth ≤ x1.acc.length || last then
      let r := s1.emitPacket x1 x1.rtpBytes
      ({ r.1 with acc := [] }, r.2)
    else (x1, s1)

/-- A transmit slot follows the ownership, with its event. -/
def State.turnTx (s : State) (i : Nat) : State :=
  let x := s.txSlot i
  if x.st == .closed then s
  else
    let want := if s.pair.owner then TxMode.send else .silent
    if x.st == want then s else (s.setTx i { x with st := want }).txEvent i (if s.pair.owner then 12 else 13)

/-- The packets whose last data tick is d are built at the boundary of their emission tick d + 2. -/
def State.emitStreams (s : State) (d : Nat) (sinks : List (Nat × List Sample)) : State :=
  let old := s.strm.oldTx.foldl (fun (a : List TxSlot × State) x =>
    let stop := x.closeTick.getD 0
    if stop ≤ d then a
    else
      let r := a.2.emitSlot x d (d + 1 == stop) sinks
      (if d + 1 < stop then a.1 ++ [r.1] else a.1, r.2)) (([] : List TxSlot), s)
  let s1 := { old.2 with strm := { old.2.strm with oldTx := old.1 } }
  (List.range 256).foldl (fun (s : State) i =>
    let s1 := s.turnTx i
    let x := s1.txSlot i
    if x.st == .closed || d < x.openTick then s1
    else
      let r := s1.emitSlot x d false sinks
      r.2.setTx i r.1) s1

/-! ## Commands (11 R307-R311) -/

/-- The parameters of 11 Table 11-4. -/
def streamCfg (p : List W32) (tx : Bool) : StreamCfg :=
  let w3 := pw p 3
  let w4 := pw p 4
  let w6 := pw p 6
  let w9 := pw p 9
  let off := fld w4 19 13
  let trunk := bit w3 31
  { trunk := trunk
    useA := bit w3 30
    useB := bit w3 29
    domain := fld w3 28 27
    conceal := bit w3 26
    foreign := bit w3 25
    l24 := bit w3 24
    chans := fld w3 8 0
    base := fld w4 31 20
    offset := if trunk == tx && off == 0 then 2 else off
    depth := fld w4 12 6
    destIp := (pw p 5).toNat
    port := fld w6 31 16
    ttl := fld w6 15 8
    dscp := fld w6 7 2
    idAny := bit w6 1
    id := pw p 7
    srcIp := pw p 8
    pcp := fld w9 31 29
    tagged := bit w9 28
    vid := fld w9 27 16
    pt := fld w9 6 0
    destMac := (pw p 10).toNat * 65536 + fld (pw p 11) 31 16
    seq0 := fld (pw p 11) 15 0 }

/-- A parameter that breaks 11 Table 11-4. -/
def streamBad (p : List W32) (tx : Bool) : Bool :=
  let c := streamCfg p tx
  let off := fld (pw p 4) 19 13
  let reserved := fld (pw p 3) 15 9 != 0 || fld (pw p 4) 5 0 != 0 || bit (pw p 6) 0 || fld (pw p 9) 15 7 != 0
  let kind :=
    if c.trunk then c.domain == 3 || !(c.chans == 64 || c.chans == 128 || c.chans == 256) || c.l24 || c.pt != 0 || c.seq0 != 0
    else 2 ≤ c.domain || c.chans == 0 || 64 < c.chans || c.pt < 96 || 127 < c.pt
  let offset := if c.trunk == tx then decide (64 < off) else off != 0
  let dir :=
    if tx then c.conceal || c.foreign || c.ttl == 0 || (isGroupIp c.destIp && c.destMac != 0) ||
      (if c.trunk then c.depth != 0 || c.srcIp != 0 else decide (c.depth < 3 ∨ 96 < c.depth))
    else c.depth == 0 || 64 < c.depth || c.destMac != 0
  reserved || (!c.useA && !c.useB) || kind || offset || dir

/-- Indices that leave the class or overlap an open stream, or a budget of 01 Table 1-7 that would be exceeded. -/
def streamClash (c : StreamCfg) (open' : List StreamCfg) : Bool :=
  decide (4096 < c.base + c.chans) ||
    open'.any (fun o => decide (o.base < c.base + c.chans ∧ c.base < o.base + o.chans)) ||
    decide (8192 < ((c :: open').map (fun o => o.chans * budgetSamples o.domain)).sum)

/-- AES67 on a chip of the 44.1 kHz family needs a free ASRC channel for each channel (01 Table 1-10). -/
def State.asrcShort (s : State) (c : StreamCfg) : Bool := s.route.family44 && !c.trunk && decide (64 < s.route.asrc.length + c.chans)

/-- STREAM_RX_OPEN. -/
def applyStreamRxOpen (p : List W32) (s : State) : Ans :=
  let i := fld (pw p 3) 23 16
  let c := streamCfg p false
  if (s.rxSlot i).st != .closed || streamClash c ((s.strm.rx.filter (fun x => x.st != .closed)).map (·.cfg)) || s.asrcShort c then .refuse stResource s
  else if streamBad p false then .ok (s.hostError .streams)
  else
    let x : RxSlot := { RxSlot.init with
      st := .wait
      cfg := c
      openTick := s.time.tick
      last := List.replicate c.chans (List.replicate 8 0)
      g := if c.conceal then 0 else 64
      lastOn := s.time.tick }
    let r := (s.setRx i x).reassign s
    if r.status = 0 then .ok (r.s.rxEvent i 1) else r

/-- STREAM_RX_CLOSE. -/
def applyStreamRxClose (p : List W32) (s : State) : Ans :=
  let w := pw p 3
  let i := fld w 7 0
  let x := s.rxSlot i
  if fld w 31 8 != 0 then .ok (s.hostError .streams)
  else if x.st == .closed then .ok s
  else
    let s1 := s.setRx i RxSlot.init
    let r := ({ s1 with strm := { s1.strm with oldRx := s1.strm.oldRx ++ [(i, x)] } }).reassign s
    if r.status = 0 then .ok (r.s.rxEvent i 2) else r

/-- A transmit packet of a stream fits the MTU of a port (11 R297, R300). -/
def StreamCfg.fitsMtu (c : StreamCfg) (mtu : Nat) : Bool :=
  if c.trunk then decide (64 + 4 * c.chans * (2 * 2 ^ c.domain) ≤ mtu)
  else decide (c.chans * (c.depth * (2 * 2 ^ c.domain)) * (if c.l24 then 3 else 2) + 40 ≤ mtu)

/-- STREAM_TX_OPEN. -/
def applyStreamTxOpen (p : List W32) (s : State) : Ans :=
  let i := fld (pw p 3) 23 16
  let c := streamCfg p true
  let x : TxSlot := { TxSlot.init with
    st := if s.pair.owner then .send else .silent
    cfg := c
    openTick := s.time.tick
    seq := c.seq0 }
  let s1 := s.setTx i x
  let unfit := [0, 1].any (fun k => c.usesPort k && (!c.fitsMtu (s.port k).mtu || !s1.portFits k (s.port k)))
  if (s.txSlot i).st != .closed || streamClash c ((s.strm.tx.filter (fun x => x.st != .closed)).map (·.cfg)) || s.asrcShort c || unfit then
    .refuse stResource s
  else if streamBad p true then .ok (s.hostError .streams)
  else
    let r := s1.reassign s
    if r.status = 0 then .ok (r.s.txEvent i 1) else r

/-- STREAM_TX_CLOSE. -/
def applyStreamTxClose (p : List W32) (s : State) : Ans :=
  let w := pw p 3
  let i := fld w 7 0
  let x := s.txSlot i
  if fld w 31 8 != 0 then .ok (s.hostError .streams)
  else if x.st == .closed then .ok s
  else
    let r := (s.setTx i TxSlot.init).reassign s
    if r.status = 0 then
      .ok (({ r.s with strm := { r.s.strm with oldTx := r.s.strm.oldTx ++ [{ x with closeTick := some s.time.tick }] } }).txEvent i 2)
    else r

def RxSlot.words (x : RxSlot) : List W32 := [x.word0, x.used, x.dup, x.late, x.missing, pack [(x.early, 16), (x.badPkt, 0)]]

def TxSlot.words (x : TxSlot) : List W32 := [x.word0, x.sent, x.lastSeq, 0, 0, 0]

/-- STREAM_STATUS. -/
def queryStreamStatus (p : List W32) (s : State) : Ans :=
  let w := pw p 3
  let a := fld w 15 8
  let b := fld w 7 0
  let l := span a b
  if fld w 29 16 != 0 || b < a then .ok (s.hostError .streams)
  else if bit w 31 then
    .okData (l.flatMap (fun i => (s.txSlot i).words))
      (if bit w 30 then l.foldl (fun (s : State) i => s.setTx i { s.txSlot i with sent := 0 }) s else s)
  else
    .okData (l.flatMap (fun i => (s.rxSlot i).words))
      (if bit w 30 then l.foldl (fun (s : State) i => s.setRx i { s.rxSlot i with
        minSlack := 0x3FFF, used := 0, dup := 0, late := 0, missing := 0, early := 0, badPkt := 0 }) s else s)

/-! ## Trackers (03 R90) -/

/-- A tracker moves between ACQUIRE and LOCKED, its channels fade, and the event follows. -/
def State.trackerTo (s : State) (k : Nat) (st : TrkMode) : State :=
  let t := s.route.trackers.getD k Tracker.init
  let s1 := s.onRoutes (fun r =>
    ({ r with trackers := r.trackers.set k { r.trackers.getD k Tracker.init with st := st } } : RouteBlk).fadeAsrc k (st == TrkMode.locked))
  s1.trackerEvent t (st == TrkMode.locked)

/-! ## The meanings of the rows -/

def execStreamRxOpen (st : Stage) (p : List W32) (s : State) : Host.Outcome State Fault Refusal := .next (s.command 0x24 st p applyStreamRxOpen)

def execStreamRxClose (st : Stage) (p : List W32) (s : State) : Host.Outcome State Fault Refusal := .next (s.command 0x25 st p applyStreamRxClose)

def execStreamTxOpen (st : Stage) (p : List W32) (s : State) : Host.Outcome State Fault Refusal := .next (s.command 0x26 st p applyStreamTxOpen)

def execStreamTxClose (st : Stage) (p : List W32) (s : State) : Host.Outcome State Fault Refusal := .next (s.command 0x27 st p applyStreamTxClose)

def execStreamStatus (h : CmdHead) (p : List W32) (s : State) : Host.Outcome State Fault Refusal := .next (s.query 0x28 h p queryStreamStatus)

def execStreamPacketCommit (t port : Nat) (s : State) : Host.Outcome State Fault Refusal :=
  onUnit (port < 2) ((s.goto t).streamCommit port)

/-- 11 R303: an open path on which no copy has come for L_s. -/
def execStreamPathDown (t slot port : Nat) (s : State) : Host.Outcome State Fault Refusal :=
  let s := s.goto t
  let x := s.rxSlot slot
  let up := if port = 0 then x.pathA else x.pathB
  let seen := if port = 0 then x.lastA else x.lastB
  onUnit (slot < 256 && port < 2)
    (if x.st != .closed && up && decide (3 * seen + 125000 * x.lossTicks ≤ 3 * s.now) then
      (s.setRx slot (if port = 0 then { x with pathA := false } else { x with pathB := false })).rxEvent slot (if port = 0 then 6 else 8)
    else s)

/-- 11 R308: a stream in RUN for which no tick has had an on-time copy for L_s. -/
def execStreamLost (t slot : Nat) (s : State) : Host.Outcome State Fault Refusal :=
  let s := s.goto t
  let x := s.rxSlot slot
  onUnit (slot < 256)
    (if x.st == .run && decide (x.lastOn + x.lossTicks ≤ s.aud.dataTick) then
      ((s.setRx slot { x with st := .lost, consec := 0 }).raise 0x09 slot 0x0C (w32 s.tick16)).rxEvent slot 4
    else s)

def execAsrcLock (t tracker : Nat) (s : State) : Host.Outcome State Fault Refusal :=
  let s := s.goto t
  onUnit (tracker < 16) (if (s.route.trackers.getD tracker Tracker.init).st == .acquire then s.trackerTo tracker .locked else s)

def execAsrcUnlock (t tracker : Nat) (s : State) : Host.Outcome State Fault Refusal :=
  let s := s.goto t
  onUnit (tracker < 16) (if (s.route.trackers.getD tracker Tracker.init).st == .locked then s.trackerTo tracker .acquire else s)

end Sys2Proof.Machine
end

