-- ==== Sys2Proof/Machine/Pair.lean ====
section
/-! DEFINITION. The pair engine (14): states and events, ownership and the keepalive, the loss of the two paths and takeover,
planned handover and revert, digests and their comparison, and the start and failure of a resynchronisation. What a cell
brings is in Machine/PairLink.lean. -/

namespace Sys2Proof.Machine
open Sys2Proof

/-! ## Events and small steps -/

def State.setPair (s : State) (p : PairBlk) : State := { s with pair := p }

/-- EVENT_PAIR (14 R400): the old state, the phase for causes 10 and 12, and the tick. -/
def State.pairEvent (s : State) (cause : Nat) (old : PairMode) (phase : Nat) (tick : W32) : State :=
  s.event 0xE2 [pack [(cause, 24), (s.pair.st.code, 20), (old.code, 16), (phase, 12)], s.pairWord, tick]

/-- EVENT_PAIR of now, with the state that the pair engine had before. -/
def State.pairNow (s : State) (cause : Nat) (old : PairMode) : State := s.pairEvent cause old 0 s.tick32

def sat16 (n : Nat) : Nat := min 65535 n

/-- The first role, the preferred active (14 R363). -/
def State.firstRole (s : State) : Bool := s.sys.pairRole == 1

/-- An engine that acts as one in START (14 R366). -/
def State.starting (s : State) : Bool := s.pair.st == .start || (s.pair.st == .cold && !s.pair.phase1Done)

/-- The hold-off runs while the second-role engine is ACTIVE and its first-role partner STANDBY (14 R394). -/
def State.holdCheck (s : State) : State :=
  let p := s.pair
  let run := p.st == .active && s.sys.pairRole == 2 && p.linkUp && (p.partner.map (·.state)) == some 4
  if run then (if p.holdFrom.isSome || p.hand.isSome then s else s.setPair { p with holdFrom := some s.time.mono })
  else s.setPair { p with holdFrom := none }

/-- A resynchronisation begins on a COLD engine, from phase 1 once the link is up (14 R378). -/
def State.beginResync (s : State) : State :=
  s.setPair { s.pair with phase := if s.pair.linkUp then 1 else 0, progress := 0, restarts := 0, matched := 0, runLength := 0, failedAt := none }

/-- A resynchronisation ends as failed (14 R380). -/
def State.resyncFails (s : State) : State :=
  let p := s.pair
  (s.setPair { p with phase := 0, progress := 0, resyncFails := sat16 (p.resyncFails + 1), failedAt := some s.time.mono }).pairEvent
    12 p.st p.phase s.tick32

/-- The standby is aligned (14 R382). -/
def State.isAligned (s : State) : Bool :=
  s.pair.aligned && s.pair.calibrated && s.qualified 8 &&
    [0, 1].all (fun i => (s.dpll i).st == .locked && (s.dpll i).source == some 8)

/-! ## Ownership (14 R365, R386, R390) -/

/-- The engine owns the outputs from now on, in the given state, with its keepalive. -/
def State.own (s : State) (st : PairMode) : State :=
  (s.setPair { s.pair with
    st := st, owner := true, ka := true, kaStopped := none, kaLost := false, phase := 0, progress := 0, aligned := false
    failedAt := none, hand := none }).reblock

/-- The engine releases the outputs at once, in the given state. -/
def State.disown (s : State) (st : PairMode) : State :=
  (s.setPair { s.pair with
    st := st, owner := false, ka := false, kaStopped := none, kaLost := false, lastKa := some s.time.mono, startSince := s.time.mono
    holdFrom := none, hand := none }).reblock

/-- An engine that leaves START as owner loads its startup scene (17 R471). -/
def State.ownFromStart (s : State) (st : PairMode) : State := ((s.own st).pairNow 1 s.pair.st).startScene

/-- Commands that were forwarded and can no longer be answered by the partner are answered NOT_OWNER (02 R61). -/
def State.dropForwards (s : State) : State :=
  let l := s.pair.fwd
  l.foldl (fun (s : State) f =>
    let t := s.freeTick
    t.2.answer f.org f.op 7 f.seq t.1 [] true) (s.setPair { s.pair with fwd := [] })

/-- Takeover (14 R386, Table 14-8). -/
def State.takeover (s : State) (cause : Nat) : State :=
  let old := s.pair.st
  let cold := old == .cold
  let mis := s.pair.mismatching
  let s1 := s.dropForwards.redoLater.own .alone
  let s2 := s1.setPair { s1.pair with
    cold := s1.pair.cold || cold
    takeovers := sat16 (s1.pair.takeovers + 1)
    lastTakeover := s1.tick32 }
  (s2.raise 0x10 0 0x1A (pack [(b2n cold, 31), (b2n mis, 30), (cause, 24), (s2.tick16, 0)])).pairNow 13 old

/-- The condition of 14 Table 14-8 that holds; 0 for none. -/
def State.takeoverCause (s : State) : Nat :=
  let p := s.pair
  if p.owner || s.solo || s.sys.phase == .halted || !(p.st == .standby || (p.st == .cold && p.phase1Done)) || !p.kaLost then 0
  else if !p.linkUp then 1
  else if p.fatalSinceKa then 2
  else 0

/-! ## The link (14 R367, R385, R387) -/

/-- The link is lost: 1 heartbeat cells missing, 2 lane lock lost. A standby that has lost both paths takes over as such. -/
def State.pairLinkLost (s : State) (cause : Nat) : State :=
  let p := s.pair
  if !p.linkUp then s
  else
    let st := match p.st with
      | .active => PairMode.alone
      | .standby => if p.kaLost then .standby else .cold
      | x => x
    let s1 := s.setPair { p with
      st := st, linkUp := false, calibrated := false, cal := [], phase := 0, progress := 0, aligned := false, missing := 0
      slotSeen := none, hand := none, holdFrom := none }
    let s2 := (s1.raise 0x10 0 0x17 (pack [(cause, 24), (s.tick16, 0)])).refLoss 8 4
    (s2.pairNow 3 p.st).dropForwards

/-- The link comes up. -/
def State.pairLinkRise (s : State) : State :=
  if s.solo || s.pair.linkUp then s
  else
    let s1 := s.setPair { s.pair with linkUp := true, missing := 0, slotSeen := none, cseqIn := List.replicate 8 none, sent := [], cal := [] }
    let s2 := if s1.pair.st == .cold then s1.beginResync else s1
    s2.pairNow 2 s.pair.st

/-! ## Heartbeats (14 R369, R384, R385) -/

def State.sendHeartbeat (s : State) (k : Nat) : State :=
  if s.pair.hb && s.pair.linkUp then
    let s1 := s.sendCell (s.hbCell k false)
    s1.setPair { s1.pair with hbSeq := (s1.pair.hbSeq + 1) % 65536 }
  else s

/-- The check of cell k at 30 ns before its slot; a grant follows 10 ns later. -/
def State.checkHeartbeat (s : State) (k : Nat) : State :=
  if s.solo then s
  else
    let p := s.pair
    let missing := if p.slotSeen = some k then 0 else p.missing + 1
    let s1 := s.setPair { p with slotSeen := none, missing := if p.linkUp then missing else 0 }
    let s2 := if p.linkUp && 3 ≤ missing then s1.pairLinkLost 1 else s1
    let c := s2.takeoverCause
    if c = 0 then s2 else (s2.goto (s2.time.sub + 10)).takeover c

/-- An edge on KA_IN. -/
def State.kaEdge (s : State) : State :=
  if s.solo then s
  else
    let p := s.pair
    let was := p.kaLost
    let st := if was && !p.linkUp && p.st == .standby then PairMode.cold else p.st
    let s1 := s.setPair { p with st := st, kaSeen := true, kaLost := false, lastKa := some s.time.mono, fatalSinceKa := false, startSince := s.time.mono }
    if was then s1.pairNow 7 p.st else s1

/-- No edge for 2.0 us. -/
def State.kaGone (s : State) : State :=
  let p := s.pair
  if s.solo || s.time.mono < p.lastKa.getD p.startSince + 2000 then s
  else
    let s1 := s.setPair { p with kaSeen := false, kaLost := !p.owner }
    if p.owner || p.kaLost then s1
    else (s1.raise 0x10 0 0x18 (w32 s.tick16)).pairNow 6 p.st

/-! ## Planned handover and revert (14 R392-R395) -/

/-- What must hold at the boundary of T, on the active engine. -/
def State.handoverOk (s : State) : Bool :=
  s.inStep && s.pair.phase == 0 && s.pair.calibrated && s.pair.owner && (s.pair.partner.map (·.follows)) == some true

/-- Once a tick the standby tells the active whether its DPLL0 follows PAIR in LOCKED. -/
def State.tellLock (s : State) : State :=
  if s.follows then s.sendCell (.following ((s.dpll 0).st == .locked && (s.dpll 0).source == some 8)) else s

/-- PAIR_HANDOVER: the active decides at T and tells the standby, where the command has its effect, and counts, when it is told. -/
def applyPairHandover (_ : List W32) (s : State) : Ans :=
  let p := s.pair
  if s.solo || !p.linkUp || p.st == .alone || p.st == .start then .refuse stState s
  else if !s.handoverOk || p.hand.isSome then .refuse stState s
  else .ok (((s.setPair { p with hand := some ⟨s.time.tick, false⟩, holdFrom := none }).sendCell (.handover s.time.tick false)).pairNow 14 p.st)

/-- PAIR_RESYNC. -/
def applyPairResync (_ : List W32) (s : State) : Ans :=
  let p := s.pair
  if s.solo || !p.linkUp || p.st == .alone || p.st == .start then .refuse stState s
  else if p.st == .active then .ok (s.setPair { p with phase := 1, progress := 0 })
  else .ok (if p.st == .standby then (s.setPair { p with st := .cold }).beginResync.pairNow 1 p.st else s.beginResync)

/-- The hold-off has passed: a handover is planned for the first tick whose boundary lies at least 30.0 us ahead. -/
def State.planRevert (s : State) : State :=
  let p := s.pair
  match p.holdFrom with
  | none => s
  | some f =>
    if p.st == .active && s.sys.pairRole == 2 && p.hand.isNone && f + p.holdOff * 100000000 ≤ s.time.mono then
      let t := firstTick s.now 30000
      (s.setPair { p with hand := some ⟨t, true⟩, holdFrom := none }).pairEvent 16 p.st 0 (w32 t)
    else s

/-- A revert whose T finds the conditions unmet is not carried out, and its hold-off starts again; else the standby is told. -/
def State.checkRevert (s : State) : State :=
  match s.pair.hand with
  | some h =>
    if h.revert && h.tick == s.time.tick && s.pair.owner then
      if s.handoverOk then s.sendCell (.handover h.tick true) else (s.setPair { s.pair with hand := none }).holdCheck
    else s
  | none => s

/-- H in TB0 ns: 13.021 us after the boundary of T, ten slots of the 768 kHz grid. -/
def handoverNs (t : Nat) : Nat := ceilDiv ((32 * t + 10) * 125000) 96

/-- The instant H. -/
def State.handOver2 (s : State) : State :=
  let p := s.pair
  match p.hand with
  | none => s
  | some h =>
    if s.now < handoverNs h.tick then s
    else
      let s0 := s.setPair { p with handovers := sat16 (p.handovers + 1) }
      let s1 := if p.owner then s0.disown .standby else s0.own .active
      let partner := p.partner.map (fun (x : Partner) => { x with state := if p.owner then 2 else 4, owner := p.owner, follows := false })
      let s2 := s1.setPair { s1.pair with phase1Done := true, partner := partner }
      (s2.pairNow 15 p.st).holdCheck

/-! ## Digests (14 R376, R377) -/

/-- One bit of the CRC-64 of ECMA-182, bits of a byte taken least significant first (log 33). -/
def crc64Bit (c : BitVec 64) : BitVec 64 := if c.getLsbD 0 then (c >>> 1) ^^^ 0xC96C5795D7870F42 else c >>> 1

def crc64Byte (c : BitVec 64) (b : Byte) : BitVec 64 :=
  let x := c ^^^ b.zeroExtend 64
  crc64Bit (crc64Bit (crc64Bit (crc64Bit (crc64Bit (crc64Bit (crc64Bit (crc64Bit x)))))))

def crc64 (bs : List Byte) : BitVec 64 := (bs.foldl crc64Byte (BitVec.allOnes 64)) ^^^ BitVec.allOnes 64

/-- The bytes of a digest: sinks is the list of the assigned sinks of the classes that count, with their samples. -/
def State.digestBytes (s : State) (t : Nat) (sinks : List (Nat × List Sample)) : List Byte :=
  let audio := (sinks.filter (fun e => addrClass e.1 ∈ [1, 3, 5, 7, 9])).flatMap (fun e => e.2.flatMap (fun x => wordBytes (BitVec.ofInt 32 x)))
  wordBytes (w32 t) ++ wordBytes s.pair.cfgVer ++ wordBytes s.cald.version ++ audio ++
    s.gey.groups.map (fun g => BitVec.ofNat 8 g.st.code) ++ s.gey.chans.map (fun c => BitVec.ofNat 8 c.st.code) ++
    s.tdm.ports.flatMap (fun p => [BitVec.ofNat 8 p.inRot, BitVec.ofNat 8 p.outRot])

/-- The digest of tick t is computed and sent. -/
def State.sendDigest (s : State) (t : Nat) (sinks : List (Nat × List Sample)) : State :=
  if s.solo || !s.pair.linkUp then s
  else
    let v := crc64 (s.digestBytes t sinks)
    (s.setPair { s.pair with own := kset s.pair.own t v }).sendCell (.digest (t % 2 ^ 32) v)

/-- The two digests of a tick are compared. -/
def State.compareDigest (s : State) (t : Nat) : State :=
  let p := s.pair
  match kget p.own t with
  | none => s
  | some v =>
    if s.solo || !p.linkUp then s
    else
      let same := kget p.theirs (t % 2 ^ 32) == some v
      let s0 := s.setPair { p with own := p.own.filter (fun e => decide (t < e.1)), theirs := kdel p.theirs (t % 2 ^ 32) }
      let checking := p.st == .cold && p.phase == 4 && s.isAligned
      if same then
        let s1 := s0.setPair { s0.pair with mismatching := false, runLength := 0, matched := p.matched + 1 }
        if checking && 23 ≤ p.matched then
          (s1.setPair { s1.pair with st := .standby, phase := 0, progress := 0, resyncs := sat16 (p.resyncs + 1), phase1Done := true }).pairNow 11 p.st
        else s1
      else
        let s1 := s0.setPair { s0.pair with
          mismatching := true
          runLength := p.runLength + 1
          matched := 0
          diverge := p.diverge + 1
          lastMismatch := w32 t
          holdFrom := p.holdFrom.map (fun _ => s.time.mono) }
        if s.inStep then
          let s2 := if p.mismatching then s1 else (s1.raise 0x10 0 0x19 (w32 (t % 65536))).pairNow 9 p.st
          if p.st == .standby && 7 ≤ p.runLength then
            (s2.setPair { s2.pair with st := .cold }).beginResync.pairNow 1 p.st
          else s2
        else if checking && 7 ≤ p.runLength then s1.resyncFails
        else s1

/-! ## Commands (14 R396-R399) -/

/-- PAIR_CONFIG. -/
def applyPairConfig (p : List W32) (s : State) : Ans :=
  let w := pw p 3
  let n := fld w 19 0
  if fld w 31 20 != 0 || 655350 < n then .ok (s.hostError .pair)
  else .ok (s.setPair { s.pair with holdOff := if n = 0 then 20 else n, holdFrom := s.pair.holdFrom.map (fun _ => s.time.mono) })

/-- The hold-off that remains, in units of 0.1 s. -/
def State.holdLeft (s : State) : Nat :=
  match s.pair.holdFrom with
  | none => 0
  | some f =>
    let left := f + s.pair.holdOff * 100000000 - s.time.mono
    left / 100000000 + (if left % 100000000 ≠ 0 ∧ Config.freeBool s.fresh = true then 1 else 0)

/-- PAIR_STATUS (14 Table 14-11). -/
def queryPairStatus (p : List W32) (s : State) : Ans :=
  let b := s.pair
  let d := [s.pairWord, pack [(min 65535 b.linkDelay, 0)], pack [(s.holdLeft, 0)], b.diverge, b.lastMismatch,
    pack [(b.takeovers, 16), (b.handovers, 0)], b.lastTakeover, pack [(b.resyncs, 16), (b.resyncFails, 0)]]
  let s0 := { s with fresh := s.fresh + 1 }
  let s1 := if bit (pw p 3) 31 then
      s0.setPair { b with
        cold := false, partnerFatal := false, diverge := 0, lastMismatch := 0, takeovers := 0, handovers := 0, lastTakeover := 0
        resyncs := 0, resyncFails := 0 }
    else s0
  .okData d (if fld (pw p 3) 30 0 == 0 then s1 else s1.hostError .pair)

/-- HEARTBEAT_CONFIG. -/
def applyHeartbeatConfig (p : List W32) (s : State) : Ans :=
  let w := pw p 3
  if fld w 28 22 != 0 || fld w 30 29 == 3 then .ok (s.hostError .pair)
  else .ok (s.setPair { s.pair with
    nhEnable := bit w 31, nhPort := fld w 30 29, nhDscp := fld w 21 16, nhUdp := fld w 15 0, nhIp := (pw p 4).toNat })

/-- BLOCK_RESET of the pair engine retrains the link, as a link loss (14 R402). -/
def State.resetPair (s : State) : State := (s.pairLinkLost 2).predictable [.pair]

/-- The datagram of the network heartbeat (14 Table 14-12): the fields and the queue that the spec does not fix are free
(log 23). A next hop that is not known yet is asked for by ARP (18 R496), and the datagram is not sent. -/
def State.networkHeartbeat (s : State) : State :=
  let p := s.pair
  let q := s.port p.nhPort
  let key := s.fresh
  let hop := p.nhIp / 2 ^ (32 - q.plen) == q.ip / 2 ^ (32 - q.plen)
  let next := if hop then p.nhIp else q.gateway
  let body := ([pack [(0xAB, 24), (1, 20)], s.pairWord, p.nhSeq, s.tick32, w32 s.now, p.diverge] : List W32).flatMap wordBytesBE
  let ip := [0x45, BitVec.ofNat 8 (p.nhDscp * 4)] ++ beBytes 2 (28 + body.length) ++ beBytes 2 (Config.freeNat key) ++
    [if Config.freeBool key then 0x40 else 0, 0, BitVec.ofNat 8 (Config.freeNat (key + 2)), 17, 0, 0] ++ beBytes 4 q.ip ++ beBytes 4 p.nhIp
  let udp := beBytes 2 p.nhUdp ++ beBytes 2 p.nhUdp ++ beBytes 2 (8 + body.length) ++ beBytes 2 (Config.freeNat (key + 1))
  let s1 := { s with fresh := key + 4, pair := { p with nhSeq := p.nhSeq + 1 } }
  let known := s.net.arp.find? (fun e => e.1 == p.nhPort && e.2.1 == next)
  let frame (dst : Nat) : Frame :=
    { dst := dst, src := q.mac, tag := none, etype := 0x0800, payload := ipSum ip ++ udp ++ body, fcsOk := true, cut := false }
  if isGroupIp p.nhIp then s1.txPush p.nhPort (Config.freeNat (key + 3) % 8) (framePkt (frame (groupMac p.nhIp)))
  else if !hop && q.gateway == 0 then s1.countPort p.nhPort 45 1
  else
    match known with
    | some e => s1.txPush p.nhPort (Config.freeNat (key + 3) % 8) (framePkt (frame e.2.2))
    | none =>
      let ask := beBytes 8 0x0001080006040001 ++ beBytes 6 q.mac ++ beBytes 4 q.ip ++ beBytes 6 0 ++ beBytes 4 next
      s1.txPush p.nhPort 0 (framePkt ⟨0xFFFFFFFFFFFF, q.mac, none, 0x0806, ask, true, false⟩)

/-! ## The meanings of the rows -/

def execPairConfig (st : Stage) (p : List W32) (s : State) : Host.Outcome State Fault Refusal := .next (s.command 0x80 st p applyPairConfig)

def execPairStatus (h : CmdHead) (p : List W32) (s : State) : Host.Outcome State Fault Refusal := .next (s.query 0x81 h p queryPairStatus)

def execPairHandover (st : Stage) (p : List W32) (s : State) : Host.Outcome State Fault Refusal := .next (s.command 0x82 st p applyPairHandover)

def execPairResync (st : Stage) (p : List W32) (s : State) : Host.Outcome State Fault Refusal := .next (s.command 0x83 st p applyPairResync)

def execHeartbeatConfig (st : Stage) (p : List W32) (s : State) : Host.Outcome State Fault Refusal := .next (s.command 0x84 st p applyHeartbeatConfig)

def execHeartbeatSend (t k : Nat) (s : State) : Host.Outcome State Fault Refusal := onUnit (k < 32) ((s.goto t).sendHeartbeat k)

def execHeartbeatCheck (t k : Nat) (s : State) : Host.Outcome State Fault Refusal := onUnit (k < 32) ((s.goto t).checkHeartbeat k)

def execKaInEdge (t : Nat) (s : State) : Host.Outcome State Fault Refusal := .next (s.goto t).kaEdge

def execKaLost (t : Nat) (s : State) : Host.Outcome State Fault Refusal := .next (s.goto t).kaGone

/-- The guard tri-states every owned output 1.0 us after the internal keepalive stopped (14 R389). -/
def execGuardRelease (t : Nat) (s : State) : Host.Outcome State Fault Refusal :=
  let s := s.goto t
  .next (match s.pair.kaStopped with
    | some x => if x + 1000 ≤ s.time.mono then s.setPair { s.pair with owner := false, kaStopped := none } else s
    | none => s)

/-- The startup wait has passed with no sign of an owner (14 R365): 200 ms in the first role, 400 ms in the second. -/
def execStartupWaitExpire (t : Nat) (s : State) : Host.Outcome State Fault Refusal :=
  let s := s.goto t
  let wait := if s.firstRole then 200000000 else 400000000
  .next (if !s.solo && s.starting && !s.pair.linkUp && decide (s.pair.startSince + wait ≤ s.time.mono) then s.ownFromStart .alone else s)

def execDweuneLinkUp (t : Nat) (s : State) : Host.Outcome State Fault Refusal := .next (s.goto t).pairLinkRise

/-- A lane loses block lock. -/
def execDweuneLinkDown (t : Nat) (s : State) : Host.Outcome State Fault Refusal := .next ((s.goto t).pairLinkLost 2)

def execDigestCompare (t tick : Nat) (s : State) : Host.Outcome State Fault Refusal := .next ((s.goto t).compareDigest tick)

/-- 60 s after a failed resynchronisation (14 R380). -/
def execResyncRetry (t : Nat) (s : State) : Host.Outcome State Fault Refusal :=
  let s := s.goto t
  .next (match s.pair.failedAt with
    | some x => if s.pair.st == .cold && s.pair.linkUp && decide (x + 60000000000 ≤ s.time.mono) then s.beginResync else s
    | none => s)

def execHoldOffExpire (t : Nat) (s : State) : Host.Outcome State Fault Refusal := .next (s.goto t).planRevert

def execHandoverInstant (t : Nat) (s : State) : Host.Outcome State Fault Refusal := .next (s.goto t).handOver2

/-- At the TB0 instants that are multiples of 100,000 ns (14 R399). -/
def execNetworkHeartbeatSend (t : Nat) (s : State) : Host.Outcome State Fault Refusal :=
  let s := s.goto t
  .next (if s.pair.nhEnable && s.now % 100000 == 0 then s.networkHeartbeat else s)

/-- DPLL0 and DPLL1 have followed PAIR within 1.0 ns for 1.0 s: phase 4 begins, or will begin once phase 3 has ended
(14 R382). -/
def execStandbyAligned (t : Nat) (s : State) : Host.Outcome State Fault Refusal :=
  let s := s.goto t
  let s1 := s.setPair { s.pair with aligned := true }
  .next (if !s.solo && !s.pair.owner && s1.isAligned && [0, 1].all (fun i => decide ((s.dpll i).phase.natAbs ≤ 10)) then
    s1.setPair { s1.pair with matched := 0, runLength := 0 } else s)

end Sys2Proof.Machine
end

