-- ==== Sys2Proof/Machine/TimeStep.lean ====
section
/-! DEFINITION. The time bases (13 R340-R347): the step of TB0 with its effects, time errors and steering, the locks of the
DPLLs, which may step a time base (12 R323-R326), the time epoch, and the commands on time bases. -/

namespace Sys2Proof.Machine
open Sys2Proof

def State.base (s : State) (i : Nat) : TimeBase := s.time.bases.getD i (TimeBase.init i)

def State.setBase (s : State) (i : Nat) (b : TimeBase) : State := { s with time := { s.time with bases := s.time.bases.set i b } }

/-- A time base's count in whole nanoseconds (13 R340). -/
def State.baseNs (s : State) (i : Nat) : Nat := if i = 0 then s.now else ((s.base i).val / 1000000).toNat % 2 ^ 64

/-- EVENT_REF of kinds 8 and 9: the DPLL field names the time base (13 R360). -/
def State.baseEvent (s : State) (kind cause i : Nat) : State :=
  s.refEvent kind cause ((s.dpll i).source.getD 15) i (s.dpll i).st.code (s.dpllWord i)

/-! ## The time epoch (13 R346) -/

/-- EVENT_TIME_EPOCH when bits [63:32] of TB0 have changed; ns is the instant of the change. -/
def State.epochEvent (s : State) (ns : Nat) : State :=
  let hi := s.now / 2 ^ 32
  if hi = s.time.epoch then s
  else
    let t := tickOf ns
    { s with time := { s.time with epoch := hi } }.eventAt 0xE3 ns [w32 hi, w32 (t / 2 ^ 32), w32 t]

/-! ## A step of TB0 (13 R345, Table 13-2) -/

/-- A tick that dates something in a block that keeps running moves with the grid. -/
def shiftTick (old new x : Nat) : Nat := if old ≤ new then x + (new - old) else x - (old - new)

/-- Streams: buffers are emptied, open receive slots return to WAIT, transmit slots go on with the tick after m. -/
def StrmBlk.step (b : StrmBlk) (m : Nat) : StrmBlk :=
  { b with
    rx := b.rx.map (fun x =>
      if x.st == .closed then x
      else { x with
        st := .wait
        buf := []
        taken := x.taken.map (fun e => (0, e.2))
        openTick := m
        lastOn := m
        lastA := boundaryNs m
        lastB := boundaryNs m
        lateTick := none
        consec := 0
        g := if x.cfg.conceal then 0 else 64 })
    tx := b.tx.map (fun x => if x.st == .closed then x else { x with openTick := m + 1, acc := [] })
    oldRx := []
    oldTx := [] }

/-- The Geyser's groups keep their states and their timers. -/
def GeyBlk.step (b : GeyBlk) (old m : Nat) : GeyBlk :=
  let f := shiftTick old m
  { b with
    groups := b.groups.map (fun g => { g with since := f g.since, psSince := g.psSince.map f, released := g.released.map f })
    chans := b.chans.map (fun c => { c with
      since := f c.since
      failTick := f c.failTick
      playSince := f c.playSince
      diag := c.diag.map (fun d => { d with since := f d.since }) }) }

/-- A command whose target is m or earlier applies at m + 1 and is LATE. -/
def Pend.step (p : Pend) (m : Nat) : Pend := if p.target ≤ m then { p with target := m + 1, late := true } else p

/-- Triggers timed by TB0 whose instant the step skips fire once at m + 1; so do actions that waited for a tick up to m. -/
def Trig.step (x : Trig) (oldNs ns m : Nat) : Trig :=
  { x with
    lateDue := match x.due with
      | some d => x.lateDue || (x.tb == 0 && decide (oldNs < d ∧ d ≤ ns))
      | none => x.lateDue
    bound := x.bound.map (fun b => if b ≤ m || x.tb != 0 then m + 1 else b) }

/-- Instances measure against TB0, so their errors move with it. -/
def PtpInst.step (x : PtpInst) (delta : Int) : PtpInst :=
  { x with
    err := x.err - delta * 10
    offsets := x.offsets.map (fun e => (e.1, e.2 - delta * 10))
    pendSync := none
    pendPdelay := none
    reqTx := none
    syncAt := none }

/-- TB0 steps by delta ns at the running instant. -/
def State.stepTB0 (s : State) (delta : Int) : State :=
  let old := s.time.tick
  let oldNs := s.now
  let ns := (((oldNs : Int) + delta) % 2 ^ 64).toNat
  let m := tickOf ns
  let f := shiftTick old m
  let b := s.base 0
  let s1 := { s with
    time := { s.time with
      tick := m
      sub := ns - boundaryNs m
      mute := some (m + 49)
      stepTick := some (m + 1)
      bases := s.time.bases.set 0 { b with val := (ns : Int) * 1000000 }
      insts := s.time.insts.map (fun (x : PtpInst) => x.step delta)
      trigs := s.time.trigs.map (fun (x : Trig) => x.step oldNs ns m) }
    strm := s.strm.step m
    gey := s.gey.step old m
    dec := { s.dec with syncs := [m + 1] ++ s.dec.syncs.filter (fun b => decide (m + 1 < b)) }
    route := { s.route with slots := s.route.slots.map (fun (x : Slot) => { x with samples := [] }), famMute := s.route.famMute.map f }
    cald := { s.cald with lockEnd := s.cald.lockEnd.map f }
    aud := { s.aud with cap := [], src := [], hist := [], bridged := [], sinks := [], muted := [], played := [], fadeIn := 0, dataTick := m, running := false }
    vent := { s.vent with cores := s.vent.cores.map (fun (c : Core) => { c with
      sched := c.sched.map (fun (e : Nat × Turn) => (min e.1 m, e.2))
      params := c.params.map (fun (w : ParamWr) => { w with tick := min w.tick m }) }) }
    host := { s.host with cmds := s.host.cmds.map (fun (p : Pend) => p.step m) }
    sys := { s.sys with islands := s.sys.islands.map (fun (x : Island) => { x with since := f x.since }) }
    store := { s.store with sess := s.store.sess.map (fun (o : Option Session) => o.map (fun (x : Session) => { x with lastTick := f x.lastTick })) }
    pair := { s.pair with own := [], theirs := [], inputs := [], frozen := [], bitmaps := [], patches := [], notices := [] }
    back := none
    lateOps := [] }
  (s1.baseEvent 9 0 0).epochEvent ns

/-- TB1 steps; only the time base moves. -/
def State.stepTB1 (s : State) (delta : Int) : State :=
  let b := s.base 1
  (s.setBase 1 { b with val := ((b.val / 1000000 + delta) % 2 ^ 64) * 1000000 + b.val % 1000000 }).baseEvent 9 0 1

def State.stepBase (s : State) (i : Nat) (delta : Int) : State := if i = 0 then s.stepTB0 delta else s.stepTB1 delta

/-- The restarts that a step of TB0 asks for at the boundary of m + 1. -/
def State.stepRestarts (s : State) : State :=
  match s.time.stepTick with
  | none => s
  | some t =>
    if s.time.tick < t then s
    else
      let s1 := { s with time := { s.time with stepTick := none } }.restartPorts (List.range 32)
      (List.range 16).foldl (fun (s : State) k =>
        if (s.route.trackers.getD k Tracker.init).st == .locked then s.trackerTo k .acquire else s) s1

/-! ## Time errors (13 R343) -/

/-- What is left of a time error is removed by the DPLL at its bandwidth, taken here as at once (log 24). -/
def State.clearErr (s : State) (i : Nat) : State :=
  let b := s.base i
  s.setBase i { b with val := if i = 0 then b.val else b.val + b.err * 100000, err := 0, steering := false }

/-- e, in 0.1 ns, is to be added to a privileged time base: above 1.0 us by steering. -/
def State.addErr (s : State) (i : Nat) (e : Int) : State :=
  let b := s.base i
  let total := b.err + e
  let s1 := s.setBase i { b with err := total }
  if total.natAbs ≤ 10000 then
    let s2 := s1.clearErr i
    if b.steering then s2.baseEvent 8 2 i else s2
  else if b.steering then s1
  else (s1.setBase i { s1.base i with steering := true }).baseEvent 8 1 i

/-! ## The locks of the DPLLs (12 R323-R326, 13 R342) -/

/-- The reference's time sets the time base: its whole count, or for PPS the count modulo 10^9. -/
def State.firstStep (s : State) (i r refTime : Nat) : State :=
  let now := s.baseNs i
  let goal := if r = 4 then now / 1000000000 * 1000000000 + refTime % 1000000000 else refTime
  let s1 := s.setBase i { s.base i with err := 0, steering := false, stepped := true }
  s1.stepBase i ((goal : Int) - (now : Int))

/-- ACQUIRE ends: the first lock. -/
def State.lockDpll (s : State) (i refTime : Nat) : State :=
  let d := s.dpll i
  match d.st, d.source with
  | .acquire, some r =>
    if !s.qualified r then s
    else
      let s1 := s.dpllState i .locked (some r)
      let s2 := if carriesTime r && !(s1.base i).stepped then s1.firstStep i r refTime else s1
      s2.evalDpll i
  | _, _ => s

/-- A switch ends with the mean offset of the new reference against the DPLL's own output, in 0.1 ns: the step of first lock
if that is still to come, else the reference's bias, which is a time error where the reference carries time. -/
def State.endSwitch (s : State) (i : Nat) (offset : Int) (refTime : Nat) : State :=
  let d := s.dpll i
  match d.st, d.source with
  | .switch, some r =>
    if !s.qualified r then s
    else
      let first := (r == 0 || r == 1 || r == 8) && !(s.base i).stepped
      let s1 := if first then s else s.setDpll i { d with bias := kset d.bias r offset }
      let s2 := s1.dpllState i .locked (some r)
      let s3 := if first then s2.firstStep i r refTime else if carriesTime r then s2.addErr i offset else s2
      s3.evalDpll i
  | _, _ => s

/-! ## Commands (13 R345, R358, R359) -/

/-- A signed 64-bit number in two words, the upper first. -/
def signed64 (hi lo : W32) : Int := signed 64 (hi.toNat * 2 ^ 32 + lo.toNat)

/-- TIMEBASE_CONFIG. -/
def applyTimebaseConfig (p : List W32) (s : State) : Ans :=
  let w := pw p 3
  let i := fld w 2 0
  let src := fld w 30 28
  let rate := fld w 27 18
  let off := signed64 (pw p 4) (pw p 5)
  let bad := fld w 17 3 != 0 || rate == 0 || (if i < 2 then decide (200 < rate) || off != 0 else decide (1000 < rate) || decide (5 ≤ src))
  let b := s.base i
  if bad then .ok (s.hostError (.timeBase i))
  else if i < 2 then .ok (s.setBase i { b with slew := rate })
  else
    let n := { b with enable := bit w 31, source := src, slew := rate, offset := off }
    if !n.enable then .ok (s.setBase i { n with val := 0, steering := false })
    else if b.enable then .ok (s.setBase i n)
    else
      match s.baseTarget n with
      | some v => .ok (s.setBase i { n with val := v })
      | none => .ok ({ s with fresh := s.fresh + 1 }.setBase i { n with val := ((Config.freeNat s.fresh : Nat) : Int) })

/-- TIMEBASE_ADJUST. -/
def applyTimebaseAdjust (p : List W32) (s : State) : Ans :=
  let w := pw p 3
  let i := fld w 2 0
  let d := signed64 (pw p 4) (pw p 5)
  if fld w 30 3 != 0 then .ok (s.hostError (.timeBase i))
  else if i < 2 then .ok (if bit w 31 then s.stepBase i d else s.addErr i (d * 10))
  else if bit w 31 then .refuse stState s
  else
    let b := s.base i
    .ok (s.setBase i { b with offset := signed 64 (code 64 (b.offset + d)) })

/-- A 64-bit number as two words, the upper first. -/
def pair64 (n : Nat) : List W32 := [w32 (n / 2 ^ 32), w32 n]

/-- B's grandmaster minus A's against TB0, in ns, while both instances are in SLAVE (13 R352). -/
def State.domainOffset (s : State) : W32 :=
  if (s.inst 0).st == .slave && (s.inst 1).st == .slave then
    BitVec.ofInt 32 (clamp (-2147483647) 2147483647 (((s.inst 1).err - (s.inst 0).err) / 10))
  else 0x80000000

/-- TIME_GET (13 Table 13-11). -/
def queryTimeGet (_ : List W32) (s : State) : Ans :=
  let bits (f : Nat → Bool) (n : Nat) : Nat := maskOf ((List.range n).filter f)
  let trig (i : Nat) : Trig := s.time.trigs.getD i Trig.init
  let err (i : Nat) : W32 := BitVec.ofInt 32 (clamp (-2147483648) 2147483647 (s.inst i).err)
  .okData ((List.range 8).flatMap (fun k => pair64 (s.baseNs k)) ++ pair64 s.time.tick ++
    [pack [(bits (fun k => k < 2 || (s.base k).enable) 8, 24), (bits (fun k => (s.base k).steering) 8, 16), ((s.inst 1).st.code, 8), ((s.inst 0).st.code, 0)],
      s.domainOffset, err 0, err 1] ++ s.time.trigIn.flatMap pair64 ++
    [pack [(bits (fun t => (trig t).armed) 16, 16), (bits (fun t => (trig t).late) 16, 0)]]) s

/-! ## The meanings of the rows -/

def execTimebaseConfig (st : Stage) (p : List W32) (s : State) : Host.Outcome State Fault Refusal := .next (s.command 0x16 st p applyTimebaseConfig)

def execTimebaseAdjust (st : Stage) (p : List W32) (s : State) : Host.Outcome State Fault Refusal := .next (s.command 0x17 st p applyTimebaseAdjust)

def execTimeGet (h : CmdHead) (p : List W32) (s : State) : Host.Outcome State Fault Refusal := .next (s.query 0x19 h p queryTimeGet)

def execDpllLock (t dpll refTime : Nat) (s : State) : Host.Outcome State Fault Refusal :=
  onUnit (dpll < 2) ((s.goto t).lockDpll dpll refTime)

def execDpllSwitchComplete (t dpll : Nat) (offset : Int) (refTime : Nat) (s : State) : Host.Outcome State Fault Refusal :=
  onUnit (dpll < 2) ((s.goto t).endSwitch dpll offset refTime)

/-- Steering ends when the error has fallen to 1.0 us (13 R343). -/
def execTimeSteerEnd (t tb : Nat) (s : State) : Host.Outcome State Fault Refusal :=
  let s := s.goto t
  let b := s.base tb
  onUnit (tb < 2) (if b.steering && decide (b.err.natAbs ≤ 10000) then (s.clearErr tb).baseEvent 8 2 tb else s)

/-- Tick m + 48 of a step is over; the fade-in of its sinks goes on by samples. -/
def execStepMuteEnd (s : State) : Host.Outcome State Fault Refusal :=
  .next (match s.time.mute with
    | some m => if m ≤ s.time.tick then
        { s with time := { s.time with mute := none }, aud := { s.aud with fadeIn := m } } else s
    | none => s)

def execEventTimeEpoch (t : Nat) (s : State) : Host.Outcome State Fault Refusal :=
  let s := s.goto t
  .next (s.epochEvent (s.now / 2 ^ 32 * 2 ^ 32))

end Sys2Proof.Machine
end

