-- ==== Sys2Proof/Machine/Ptp.lean ====
section
/-! DEFINITION. The two PTP instances (13 R348-R354): masters and the best master, time and delay measurement, the states
and the losses. Times are in units of 0.1 ns. -/

namespace Sys2Proof.Machine
open Sys2Proof

def State.setInst (s : State) (i : Nat) (x : PtpInst) : State := { s with time := { s.time with insts := s.time.insts.set i x } }

def State.cal (s : State) (port : Nat) : PtpCal := s.time.cals.getD port ⟨0, 0, 0⟩

/-- An instance changes state: EVENT_REF of kind 7 follows (13 R351). -/
def State.instState (s : State) (i : Nat) (st : PtpMode) : State :=
  let x := s.inst i
  if x.st == st then s
  else
    let s1 := s.setInst i { x with st := st }
    s1.refEvent 7 0 i 0 st.code (s1.rfc i).word

/-! ## The best master (IEEE 1588-2019 as 13 R348, R349 use it) -/

/-- One clock ranks before another. -/
def masterBefore (a b : PtpMaster) : Bool :=
  let key (m : PtpMaster) : List Nat := [m.prio1, m.cls, m.accuracy, m.variance, m.prio2, m.gmId, m.steps, m.sender, m.port]
  decide (key a < key b)

def bestMaster (l : List PtpMaster) : Option PtpMaster := (sortBy masterBefore l).head?

/-- What the best master means to an instance that may itself be master. The spec gives its priorities but not its clock
quality, so a tie of PRIORITY1 is decided by a free value (log 25). -/
def State.ownWins (s : State) (x : PtpInst) (m : PtpMaster) : Nat :=
  if x.slaveOnly || s.isStandby then 0
  else if x.prio1 < m.prio1 then 1
  else if m.prio1 < x.prio1 then 0
  else Config.freeNat s.fresh % 3

/-- An instance gives up what it has measured and begins again at a state. -/
def PtpInst.restart (x : PtpInst) (gm : Option PtpMaster) : PtpInst :=
  { x with gm := gm, good := 0, offsets := [], pendSync := none, pendPdelay := none, reqTx := none, syncAt := none }

/-- An instance leaves SLAVE, or loses the master it measures (13 R351): with a master left it is UNCALIBRATED, else
LISTENING. -/
def State.instLoss (s : State) (i cause : Nat) : State :=
  let x := s.inst i
  let locked := x.st == .slave
  let next := bestMaster x.masters
  let s1 := s.setInst i { x.restart next with lastAnn := s.time.mono, lastSync := s.time.mono }
  let s2 := if locked then s1.raise 0x0F i 0x16 (pack [(cause, 24), (s.tick16, 0)]) else s1
  let s3 := s2.instState i (if next.isSome then .uncalibrated else .listening)
  if locked then s3.refLoss i 4 else s3

/-- An Announce message has come (13 R349, R351). -/
def State.announce (s : State) (i : Nat) (m : PtpMaster) : State :=
  let x := s.inst i
  let masters := (x.masters.filter (fun k => !(k.sender == m.sender && k.port == m.port))) ++ [m]
  let fromGm := match x.gm with
    | some g => g.port == m.port && g.sender == m.sender
    | none => true
  let x1 := { x with masters := masters, lastAnn := if fromGm then s.time.mono else x.lastAnn }
  let own := s.ownWins x (((bestMaster masters)).getD m)
  let s1 := { s with fresh := s.fresh + 1 }.setInst i x1
  match bestMaster masters with
  | none => s1
  | some b =>
    if own = 1 then
      let s2 := if x.st == .slave then s1.refLoss i 4 else s1
      (s2.setInst i { x1 with gm := none }).instState i .master
    else if own = 2 then
      let s2 := if x.st == .slave then s1.refLoss i 4 else s1
      s2.instState i .passive
    else
      match x.st, x.gm with
      | .slave, some g =>
        if g.gmId != b.gmId then s1.instLoss i 3
        else s1.setInst i { x1 with gm := some (if g.port = b.port && g.sender = b.sender then b else g) }
      | .uncalibrated, some g =>
        if g.gmId != b.gmId then s1.setInst i { x1.restart (some b) with lastAnn := s.time.mono, lastSync := s.time.mono } else s1
      | _, _ => (s1.setInst i { x1.restart (some b) with lastAnn := s.time.mono, lastSync := s.time.mono }).instState i .uncalibrated

/-! ## Measurement (13 R348, R350) -/

/-- A Sync with its origin time gives the offset of the port's master against TB0. -/
def State.syncSample (s : State) (i port : Nat) (origin rx : Int) : State :=
  let x := s.inst i
  let c := s.cal port
  let r := rx - (c.ingress : Int)
  let delay := kgetD x.pathDelay port 0
  let atGm := match x.gm with
    | some g => g.port == port
    | none => false
  s.setInst i { x with
    offsets := kset x.offsets port (origin + delay + c.asym - r)
    syncAt := some (origin + c.asym, r)
    lastSync := if atGm then s.time.mono else x.lastSync
    pendSync := none }

/-- A path delay has been measured on a port. -/
def State.putDelay (s : State) (i port : Nat) (d : Int) : State :=
  let x := s.inst i
  s.setInst i { x with pathDelay := kset x.pathDelay port d, reqTx := none, pendPdelay := none }

/-- A PTP message for an instance. The engine answers requests: a delay request as master, a peer delay request always. -/
def State.ptpMessage (s : State) (i port : Nat) (m : PtpMsg) : State :=
  let x := s.inst i
  let c := s.cal port
  if x.st == .disabled || !x.ports.testBit port then s
  else
    match m with
    | .announce k => s.announce i { k with port := port }
    | .sync seq two origin corr rx =>
      if two then s.setInst i { x with pendSync := some (seq, rx) } else s.syncSample i port (origin + corr) rx
    | .followUp seq origin corr =>
      match x.pendSync with
      | some (n, rx) => if n = seq then s.syncSample i port (origin + corr) rx else s
      | none => s
    | .delayReq seq _ rx => if x.st == .master then s.emit (.ptpReply i port seq (rx - (c.ingress : Int))) else s
    | .delayResp seq rx corr =>
      match x.reqTx, x.syncAt with
      | some (n, tx), some (t1, t2) => if n = seq then s.putDelay i port (roundDiv ((t2 - t1) + (rx - corr - tx)) 2) else s
      | _, _ => s
    | .pdelayReq seq _ rx => s.emit (.ptpReply i port seq (rx - (c.ingress : Int)))
    | .pdelayResp seq reqRx corr rx =>
      match x.reqTx with
      | some (n, tx) =>
        if n != seq then s
        else
          let t4 := rx - (c.ingress : Int)
          if reqRx = 0 then s.putDelay i port (roundDiv (t4 - tx - corr) 2)
          else s.setInst i { x with pendPdelay := some (seq, reqRx + corr, t4) }
      | none => s
    | .pdelayRespFollowUp seq t3 corr =>
      match x.reqTx, x.pendPdelay with
      | some (n, tx), some (k, t2, t4) =>
        if n = seq && k = seq then s.putDelay i port (roundDiv ((t4 - tx) - (t3 + corr - t2)) 2) else s
      | _, _ => s

/-- A time-error sample of 1/64 s: 16 in a row within 1.0 us of the prediction calibrate an instance. -/
def State.ptpSampleIn (s : State) (i : Nat) (err pred freq : Int) : State :=
  let x := s.inst i
  match x.st with
  | .uncalibrated => s.setInst i { x with err := err, freq := freq, good := if (err - pred).natAbs ≤ 10000 then x.good + 1 else 0 }
  | .slave => s.setInst i { x with err := err, freq := freq }
  | _ => s

/-- 2^n s in ns, for n from -7 upward. -/
def logNs (n : Int) : Nat := (2 ^ (n + 7).toNat * 1000000000) / 128

/-- The port of the master fell silent: another port's master takes over without a step if the two ports' offsets agree
within 1.0 us (13 R349), else it is a loss. -/
def State.portSilent (s : State) (i cause : Nat) : State :=
  let x := s.inst i
  match x.gm with
  | none => if x.st == .uncalibrated then s.instLoss i cause else s
  | some g =>
    let rest := x.masters.filter (fun m => m.port != g.port)
    let s1 := s.setInst i { x with masters := rest }
    match bestMaster (rest.filter (fun m => m.gmId == g.gmId)) with
    | some b =>
      let near := match kget x.offsets g.port, kget x.offsets b.port with
        | some u, some v => decide ((u - v).natAbs ≤ 10000)
        | _, _ => false
      if x.st == .slave && near then s1.setInst i { x with masters := rest, gm := some b, lastAnn := s.time.mono, lastSync := s.time.mono }
      else s1.instLoss i cause
    | none => s1.instLoss i cause

/-- The losses of 13 R351 that a timer or the links show. -/
def State.domainLost (s : State) (i cause : Nat) : State :=
  let x := s.inst i
  let now := s.time.mono
  let down := (List.range 3).all (fun p => !x.ports.testBit p || !(s.port p).linkUp)
  if x.st != .uncalibrated && x.st != .slave then s
  else
    match cause with
    | 1 => if x.lastAnn + x.annTo * logNs x.logAnn ≤ now then s.portSilent i 1 else s
    | 2 => if x.lastSync + 3 * logNs x.logSync ≤ now then s.portSilent i 2 else s
    | 4 => if down then (s.setInst i { x with masters := [] }).instLoss i 4 else s
    | _ => s

/-- No Announce has come to an instance in LISTENING or PASSIVE for ANN_TO intervals: the best master algorithm selects this
clock, unless it is slave-only (13 Table 13-5, log 25). A standby's instances never enter MASTER (R361). -/
def State.ownMaster (s : State) (i : Nat) : State :=
  let x := s.inst i
  if x.slaveOnly || s.isStandby || decide (s.time.mono < x.lastAnn + x.annTo * logNs x.logAnn) then s
  else (s.setInst i { x with gm := none, masters := [] }).instState i .master

/-- The timers and the links of an instance. -/
def State.ptpSilence (s : State) (i cause : Nat) : State :=
  if ((s.inst i).st == .listening || (s.inst i).st == .passive) && cause == 1 then s.ownMaster i else s.domainLost i cause

/-- A message that an instance sends of its own accord. -/
def State.ptpSend (s : State) (i port : Nat) (k : PtpTx) : State :=
  let x := s.inst i
  let peer := x.profile == 1 || x.profile == 3
  let slave := x.st == .uncalibrated || x.st == .slave
  let stamp : Int := (s.now : Int) * 10 + (s.cal port).egress
  let may := match k with
    | .sync => x.st == .master
    | .announce => x.st == .master
    | .delayReq => !peer && slave
    | .pdelayReq => peer && x.st != .disabled
  if !may || !x.ports.testBit port || !(s.port port).linkUp then s
  else
    let x1 := { x with seqNo := (x.seqNo + 1) % 65536 }
    let x2 := match k with
      | .delayReq | .pdelayReq => { x1 with reqTx := some (x.seqNo, stamp), pendPdelay := none }
      | _ => x1
    (s.setInst i x2).emit (.ptp i port k x.seqNo stamp)

/-! ## Commands (13 R353, R354) -/

/-- An instance restarts from LISTENING; its reference is lost (12 Table 12-2, cause 4). -/
def State.restartInst (s : State) (i : Nat) (x : PtpInst) : State :=
  let was := (s.inst i).st == .slave
  let s1 := (s.setInst i { x.restart none with masters := [], st := (s.inst i).st, lastAnn := s.time.mono }).instState i (if x.enable then .listening else .disabled)
  if was then s1.refLoss i 4 else s1

/-- Form 0 of PTP_CONFIG. -/
def ptpInstance (p : List W32) (s : State) : Ans :=
  let w := pw p 3
  let v := pw p 4
  let i := fld w 29 29
  let o := s.inst i
  let n := { o with
    enable := bit w 28
    profile := fld w 27 26
    ports := fld w 25 23
    ethernet := bit w 22
    oneStep := bit w 21
    slaveOnly := bit w 20
    domain := fld w 7 0
    prio1 := fld v 31 24
    prio2 := fld v 23 16
    logSync := sfld v 15 12
    logAnn := sfld v 11 8
    logDelay := sfld v 7 4
    annTo := fld v 3 0
    dscp := fld (pw p 5) 31 26 }
  let bad := fld w 19 8 != 0 || fld (pw p 5) 25 0 != 0 || (n.profile == 3 && (!n.ethernet || n.domain != 0)) ||
    decide (n.logSync < -7 ∨ 1 < n.logSync ∨ n.logAnn < -3 ∨ 4 < n.logAnn ∨ n.logDelay < -7 ∨ 5 < n.logDelay) || n.annTo < 2 || 10 < n.annTo
  if bad then .ok (s.hostError (.ptp i))
  else
    let restart := n.enable != o.enable || n.profile != o.profile || n.domain != o.domain || n.ports != o.ports || n.ethernet != o.ethernet
    if restart then .ok (s.restartInst i n)
    else if n.slaveOnly && o.st == .master then .ok ((s.setInst i n).instState i .listening)
    else .ok (s.setInst i n)

/-- Form 1: a port's calibration. -/
def ptpPort (p : List W32) (s : State) : Ans :=
  let w := pw p 3
  let port := fld w 1 0
  if fld w 29 2 != 0 || port == 3 || fld (pw p 5) 31 16 != 0 then .ok (s.hostError (.ptp 0))
  else .ok { s with time := { s.time with cals := s.time.cals.set port ⟨fld (pw p 4) 31 16, fld (pw p 4) 15 0, sfld (pw p 5) 15 0⟩ } }

def applyPtpConfig (p : List W32) (s : State) : Ans :=
  match fld (pw p 3) 31 30 with
  | 0 => ptpInstance p s
  | 1 => ptpPort p s
  | _ => .ok (s.hostError (.ptp 0))

/-- PTP_DOMAIN_SELECT: the reference is disqualified with cause 4, and the instance restarts in the new domain. -/
def applyPtpDomainSelect (p : List W32) (s : State) : Ans :=
  let w := pw p 3
  let i := fld w 31 31
  if fld w 30 8 != 0 then .ok (s.hostError (.ptp i))
  else
    let x := { s.inst i with domain := fld w 7 0 }
    .ok ((s.refLoss i 4).restartInst i x)

/-! ## The meanings of the rows -/

def execPtpConfig (st : Stage) (p : List W32) (s : State) : Host.Outcome State Fault Refusal := .next (s.command 0x14 st p applyPtpConfig)

def execPtpDomainSelect (st : Stage) (p : List W32) (s : State) : Host.Outcome State Fault Refusal := .next (s.command 0x15 st p applyPtpDomainSelect)

/-- A PTP message is taken from receive queue 6 of its port, where one waits (10 R268). -/
def execPtpMessageReceive (t which port : Nat) (m : PtpMsg) (s : State) : Host.Outcome State Fault Refusal :=
  let s := s.goto t
  let q := 16 * port + 6
  let y := s.queue q
  onUnit (which < 2 && port < 3)
    ((s.setQueue q ({ y with pkts := y.pkts.drop 1, read := 0 } : Queue).reflag).ptpMessage which port m)

def execPtpSample (t which : Nat) (err pred freq : Int) (s : State) : Host.Outcome State Fault Refusal :=
  onUnit (which < 2) ((s.goto t).ptpSampleIn which err pred freq)

/-- 16 good samples in a row: the instance is in SLAVE. -/
def execPtpCalibrated (t which : Nat) (s : State) : Host.Outcome State Fault Refusal :=
  let s := s.goto t
  let x := s.inst which
  onUnit (which < 2) (if x.st == .uncalibrated && 16 ≤ x.good then s.instState which .slave else s)

def execPtpDomainLost (t which cause : Nat) (s : State) : Host.Outcome State Fault Refusal :=
  onUnit (which < 2) ((s.goto t).ptpSilence which cause)

def execPtpMessageTransmit (t which port : Nat) (k : PtpTx) (s : State) : Host.Outcome State Fault Refusal :=
  onUnit (which < 2 && port < 3) ((s.goto t).ptpSend which port k)

end Sys2Proof.Machine
end

