-- ==== Sys2Proof/Machine/Dma.lean ====
section
/-! DEFINITION. The DMA engine (15 R418-R424) with the queue ports as transactions reach them, and the end of a Conduit
transaction. A descriptor moves its data in one step, at its completion (log 34). -/

namespace Sys2Proof.Machine
open Sys2Proof

/-! ## Transactions to queue blocks (15 R426, R427) -/

/-- A granted transaction to a queue block: DATA in 8 bytes, every other port in 4. -/
def State.queueMove (s : State) (r : BusReq) : State :=
  let q := (r.addr - 0x78000000) / 0x1000
  let done (s : State) (d : List Byte) : State := s.emit (.bus r.master r.addr true d)
  match r.op, r.addr % 0x1000 with
  | .rd 8, 0 =>
    if qIsTx q then
      let f := s.freeTick
      done f.2 (wordBytes f.1 ++ wordBytes f.1)
    else
      let x := (s.queue q).readData
      done ((s.setQueue q x.2).pauseCheck (qPort q)) (wordBytes (x.1.getD 0) ++ [if x.1.isSome then 1 else 0, 0, 0, 0])
  | .rd 4, 0x018 => done s (wordBytes (s.queue q).statusWord)
  | .wr [b0, b1, b2, b3, _, _, _, _], 0 =>
    if !qIsTx q then done s []
    else
      let x := (s.queue q).writeData (bytesWord b0 b1 b2 b3)
      done (if x.2 then (s.setQueue q x.1).countPort (qPort q) 45 1 else s.setQueue q x.1) []
  | .wr [b0, b1, b2, b3], 0x008 => done (s.queueCommit q (bytesWord b0 b1 b2 b3)) []
  | .wr [_, _, _, _], 0x010 => done ((s.setQueue q ((s.queue q).rewind (qIsTx q))).pauseCheck (qPort q)) []
  | _, _ => done (s.hostError (.port (qPort q))) []

def State.busMove (s : State) (r : BusReq) : State := if isQueueBlock r.addr then s.queueMove r else s.plainMove r

/-! ## Descriptors (15 R419) -/

/-- A descriptor from its eight words. -/
def descOf (w : List W32) : Desc :=
  let g (i : Nat) : W32 := w.getD i 0
  let hi (lo : Nat) : Nat := fld (g 5) (lo + 7) lo * 2 ^ 32
  { last := bit (g 0) 31
    lock := bit (g 0) 30
    notify := bit (g 0) 29
    swap := fld (g 0) 28 26
    qmode := fld (g 0) 25 24
    length := (g 1).toNat
    src := hi 0 + (g 2).toNat
    dst := hi 8 + (g 3).toNat
    next := hi 16 + (g 4).toNat
    notifyAddr := hi 24 + (g 6).toNat }

/-- The unit of a swap mode in bytes (15 Table 15-9). -/
def swapUnit (m : Nat) : Nat := match m with
  | 0 => 1
  | 1 => 2
  | 4 => 8
  | _ => 4

/-- What breaks the rules of a descriptor (15 R419, R420). -/
def descBad (w : List W32) : Bool :=
  let d := descOf w
  fld (w.getD 0 0) 23 0 != 0 || w.getD 7 0 != 0 || 4 < d.swap || d.qmode == 3 || d.length < 4 || 268435452 < d.length ||
    d.length % 4 != 0 || d.length % swapUnit d.swap != 0 || d.src % 4 != 0 || d.dst % 4 != 0 || d.notifyAddr % 4 != 0 ||
    (!d.last && d.next % 32 != 0) || isQueueBlock d.dst != (d.qmode == 1) || isQueueBlock d.src != (d.qmode == 2)

/-- The bytes of whole swap units, swapped; a tail shorter than a unit stays. -/
def swapBytes (m : Nat) : List Byte → List Byte
  | a :: b :: c :: d :: e :: f :: g :: h :: t =>
    (match m with
     | 1 => [b, a, d, c, f, e, h, g]
     | 2 => [d, c, b, a, h, g, f, e]
     | 3 => [c, d, a, b, g, h, e, f]
     | 4 => [h, g, f, e, d, c, b, a]
     | _ => [a, b, c, d, e, f, g, h]) ++ swapBytes m t
  | [a, b, c, d, e, f] => (if m = 1 then [b, a, d, c, f, e] else if m = 2 then [d, c, b, a, e, f] else if m = 3 then [c, d, a, b, e, f] else [a, b, c, d, e, f])
  | [a, b, c, d] => (if m = 1 then [b, a, d, c] else if m = 2 then [d, c, b, a] else if m = 3 then [c, d, a, b] else [a, b, c, d])
  | [a, b] => if m = 1 then [b, a] else [a, b]
  | l => l

/-! ## Moving data -/

/-- The offsets at which the transactions of a range begin: its start and every 512-byte block inside it. -/
def burstStarts (a n : Nat) : List Nat := 0 :: ((List.range (n / 512 + 1)).map (fun k => (a / 512 + k + 1) * 512 - a)).filter (fun i => decide (i < n))

/-- The offset of the first beat of a range that the Conduit refuses a master. -/
def State.firstRefused (s : State) (m a n : Nat) (wr : Bool) : Option Nat :=
  (burstStarts a n).find? (fun i => !s.permits m (a + i) wr)

/-- Writes of a range, burst by burst. -/
def State.writeRange (s : State) (a : Nat) (d : List Byte) : State :=
  (burstStarts a d.length).foldl (fun (s : State) i =>
    let b := (d.drop i).take (512 - (a + i) % 512)
    (s.busWrite (a + i) b).toHost 3 (a + i) b) s

/-- n bytes move from src to dst. -/
def State.moveBytes (s : State) (d : Desc) (n : Nat) : State :=
  ({ s with fresh := s.fresh + 1 }).writeRange d.dst ((swapBytes d.swap (s.busBytes d.src d.length)).take n)

/-! ## Channels (15 R421-R423) -/

def State.chanD (s : State) (i : Nat) : DmaChan := s.dma.getD i DmaChan.init

def State.setChanD (s : State) (i : Nat) (c : DmaChan) : State := { s with dma := s.dma.set i c }

/-- A word of a descriptor chain or of memory as CM2 reads it. -/
def State.descWords (s : State) (a : Nat) : List W32 := wordsLE (s.busBytes a 32)

/-- A channel stands at the start of a descriptor. -/
def State.atDesc (s : State) (i a : Nat) : State :=
  s.setChanD i { s.chanD i with descAddr := a, remaining := if s.permits 2 a false then (descOf (s.descWords a)).length else 0 }

/-- The channel halts with an error of an address. -/
def State.dmaHalt (s : State) (i result addr : Nat) : State :=
  (s.setChanD i { s.chanD i with st := .halted, result := result, errAddr := addr }).raise 0x06 i 0x07 (w32 addr)

/-- The completion word (15 R421), if the descriptor asks for it; false when its write fails. -/
def State.notifyDone (s : State) (d : Desc) (result moved : Nat) : Bool × State :=
  if !d.notify then (true, s)
  else if s.permits 3 d.notifyAddr true then (true, s.writeRange d.notifyAddr (wordBytes (pack [(result, 28), (moved, 0)])))
  else (false, s.busDecode 3 d.notifyAddr)

/-- A descriptor ends with an error response at an address; moved bytes have been written. -/
def State.dmaError (s : State) (i : Nat) (d : Desc) (moved addr : Nat) : State :=
  let s1 := s.setChanD i { s.chanD i with remaining := (s.chanD i).remaining - moved }
  let a := s1.notifyDone d 2 moved
  a.2.dmaHalt i 2 (if a.1 then addr else d.notifyAddr)

/-- A descriptor has moved its bytes: the completion word, then the next descriptor or IDLE. -/
def State.dmaDone (s : State) (i : Nat) (d : Desc) (moved : Nat) : State :=
  let s1 := s.setChanD i { s.chanD i with result := 1, remaining := 0 }
  let a := s1.notifyDone d 1 moved
  if !a.1 then a.2.dmaHalt i 2 d.notifyAddr
  else if d.last then a.2.setChanD i { a.2.chanD i with st := .idle }
  else a.2.atDesc i d.next

/-- A descriptor's data as words, for a transmit queue: the last commits. -/
def State.sendWords (s : State) (q : Nat) (ws : List W32) : State :=
  let s1 := ws.dropLast.foldl (fun (s : State) w =>
    let x := (s.queue q).writeData w
    if x.2 then (s.setQueue q x.1).countPort (qPort q) 45 1 else s.setQueue q x.1) s
  match ws.getLast? with
  | some w => s1.queueCommit q w
  | none => s1

/-- The words of the head packet of a receive queue that have not been read. -/
def Queue.headWords (q : Queue) : List W32 := match q.pkts with
  | p :: _ => p.words.drop q.read
  | [] => []

/-- The running descriptor of a channel moves its data (15 R419-R422). -/
def State.runDesc (s : State) (i : Nat) (d : Desc) : State :=
  match d.qmode with
  | 0 =>
    let r := s.firstRefused 2 d.src d.length false
    let w := s.firstRefused 3 d.dst d.length true
    (match r, w with
     | none, none => (s.moveBytes d d.length).dmaDone i d d.length
     | some a, none => ((s.moveBytes d a).busDecode 2 (d.src + a)).dmaError i d a (d.src + a)
     | none, some b => ((s.moveBytes d b).busDecode 3 (d.dst + b)).dmaError i d b (d.dst + b)
     | some a, some b =>
       if b < a then ((s.moveBytes d b).busDecode 3 (d.dst + b)).dmaError i d b (d.dst + b)
       else ((s.moveBytes d a).busDecode 2 (d.src + a)).dmaError i d a (d.src + a))
  | 1 =>
    let q := (d.dst - 0x78000000) / 0x1000
    (match s.firstRefused 2 d.src d.length false with
     | some a => (s.busDecode 2 (d.src + a)).dmaError i d 0 (d.src + a)
     | none =>
       if !s.permits 3 d.dst true then (s.busDecode 3 d.dst).dmaError i d 0 d.dst
       else (({ s with fresh := s.fresh + 1 }).sendWords q (wordsLE (swapBytes d.swap (s.busBytes d.src d.length)))).dmaDone i d d.length)
  | _ =>
    let q := (d.src - 0x78000000) / 0x1000
    let bytes := swapBytes d.swap (((s.queue q).headWords.flatMap wordBytes).take d.length)
    if !s.permits 2 d.src false then (s.busDecode 2 d.src).dmaError i d 0 d.src
    else if bytes.isEmpty then s.dmaDone i d 0
    else
      (match s.firstRefused 3 d.dst bytes.length true with
       | some b => ((s.writeRange d.dst (bytes.take b)).busDecode 3 (d.dst + b)).dmaError i d b (d.dst + b)
       | none =>
         (((s.writeRange d.dst bytes).setQueue q ((s.queue q).rewind false)).pauseCheck (qPort q)).dmaDone i d bytes.length)

/-- The descriptor of a channel comes to its end. One that is stopping ends as STOPPED after a free number of bytes. -/
def State.dmaComplete (s : State) (i : Nat) : State :=
  let c := s.chanD i
  let w := s.descWords c.descAddr
  let d := descOf w
  match c.st with
  | .run =>
    if !s.permits 2 c.descAddr false then (s.busDecode 2 c.descAddr).dmaHalt i 4 c.descAddr
    else if descBad w then s.hostError (.dma i)
    else s.runDesc i d
  | .stopping =>
    let s0 := { s with fresh := s.fresh + 1 }
    let s1 := s0.setChanD i { c with st := .idle, result := 3 }
    if !s.permits 2 c.descAddr false || descBad w || d.qmode != 0 then s1
    else
      let n := Config.freeNat s.fresh % (d.length / 4 + 1) * 4
      let ok := (s.firstRefused 2 d.src d.length false).isNone && (s.firstRefused 3 d.dst d.length true).isNone
      let s2 := if ok then s1.moveBytes d n else s1
      ((s2.setChanD i { s2.chanD i with remaining := d.length - n }).notifyDone d 3 n).2
  | _ => s

/-- An error response that a target itself gives: to a beat after moved bytes, to the fetch of the descriptor, or to the
completion write (15 R422). -/
def State.dmaXferErr (s : State) (i moved : Nat) (fetch notify : Bool) : State :=
  let c := s.chanD i
  if c.st != .run && c.st != .stopping then s
  else
    let w := s.descWords c.descAddr
    let d := descOf w
    let n := min moved d.length
    if fetch then s.dmaHalt i 4 c.descAddr
    else if notify then (s.moveBytes d d.length).dmaHalt i 2 d.notifyAddr
    else (s.moveBytes d n).dmaError i d n (d.src + n)

/-! ## Commands (15 R423, R424) -/

/-- DMA_CHANNEL_CONFIG. -/
def applyDmaChannelConfig (p : List W32) (s : State) : Ans :=
  let w := pw p 3
  let i := fld w 4 0
  let buf := fld w 23 16
  let out := fld w 15 8
  let c := s.chanD i
  let en := bit w 31
  if fld w 30 24 != 0 || fld w 7 5 != 0 || buf == 0 || 64 < buf || out == 0 || 64 < out then .ok (s.hostError (.dma i))
  else if (buf != c.buf || out != c.outstanding) && c.st != .idle then .refuse stState s
  else
    let sum := (s.dma.mapIdx (fun k (x : DmaChan) => if k = i then (if en then buf else 0) else if x.enable then x.buf else 0)).sum
    if 64 < sum then .refuse stResource s
    else .ok (s.setChanD i { c with
      enable := en, buf := buf, outstanding := out, st := if !en && c.st == .run then .stopping else c.st })

/-- DMA_START. -/
def applyDmaStart (p : List W32) (s : State) : Ans :=
  let w := pw p 3
  let i := fld w 4 0
  let c := s.chanD i
  let a := fld (pw p 5) 7 0 * 2 ^ 32 + (pw p 4).toNat
  if fld w 31 5 != 0 || fld (pw p 5) 31 8 != 0 || a % 32 != 0 then .ok (s.hostError (.dma i))
  else if c.st == .run || c.st == .stopping || !c.enable then .refuse stState s
  else .ok ((s.setChanD i { c with st := .run, errAddr := 0 }).atDesc i a)

/-- The four words of a channel (15 Table 15-11). -/
def DmaChan.words (c : DmaChan) : List W32 :=
  [pack [(c.st.code, 28), (c.result, 24), (c.inFlight, 16), (c.errAddr / 2 ^ 32 % 256, 8), (c.descAddr / 2 ^ 32 % 256, 0)],
    w32 c.descAddr, w32 c.remaining, w32 c.errAddr]

/-- DMA_STATUS. -/
def queryDmaStatus (p : List W32) (s : State) : Ans :=
  let w := pw p 3
  let first := fld w 4 0
  let last := fld w 9 5
  if fld w 31 10 != 0 || last < first then .okData [] (s.hostError (.dma first))
  else .okData ((span first last).flatMap (fun i => (s.chanD i).words)) s

/-- BLOCK_RESET of the DMA engine: every running descriptor ends as STOPPED, then the results are cleared (15 R434). -/
def State.resetDma (s : State) : State :=
  let s1 := (List.range 32).foldl (fun (s : State) i =>
    let c := s.chanD i
    if c.st == .run || c.st == .stopping then (s.setChanD i { c with st := .stopping }).dmaComplete i else s) s
  { s1 with dma := s1.dma.map (fun (c : DmaChan) => { c with st := .idle, result := 0, errAddr := 0, inFlight := 0, remaining := 0 }) }.predictable
    ((List.range 32).map Blk.dma)

/-- BLOCK_RESET of the Conduit (15 R434). -/
def State.resetConduit (s : State) : State :=
  let s1 := s.resetDma
  { s1 with cond := { s1.cond with locks := [], broken := [] } }.predictable [.conduit]

/-! ## The meanings of the rows -/

def execDmaChannelConfig (st : Stage) (p : List W32) (s : State) : Host.Outcome State Fault Refusal := .next (s.command 0xB0 st p applyDmaChannelConfig)

def execDmaStart (st : Stage) (p : List W32) (s : State) : Host.Outcome State Fault Refusal := .next (s.command 0xB1 st p applyDmaStart)

def execDmaStatus (h : CmdHead) (p : List W32) (s : State) : Host.Outcome State Fault Refusal := .next (s.query 0xB2 h p queryDmaStatus)

def execDmaDescriptorComplete (t ch : Nat) (s : State) : Host.Outcome State Fault Refusal := onUnit (ch < 32) ((s.goto t).dmaComplete ch)

def execDmaXferErr (t ch moved : Nat) (fetch notify : Bool) (s : State) : Host.Outcome State Fault Refusal :=
  onUnit (ch < 32) ((s.goto t).dmaXferErr ch moved fetch notify)

def execTransactionComplete (t target : Nat) (ok : Bool) (s : State) : Host.Outcome State Fault Refusal :=
  onUnit (target < 13) ((s.goto t).busComplete target ok (fun s r => s.busMove r))

end Sys2Proof.Machine
end

