-- ==== Sys2Proof/Machine/Flags.lean ====
section
/-! DEFINITION. The Vent's arithmetic: ALU results with their flags (06 Table 6-4), accumulator values with saturation and
rounding (05 R139-R141, 06 R164-R168), and the branch conditions (06 Table 6-8). -/

namespace Sys2Proof.Machine
open Sys2Proof

/-! ## ALU -/

/-- The flags that an operation writes; a flag that it leaves unchanged is absent. -/
structure FlagsOut where
  z : Bool
  n : Bool
  c : Option Bool
  v : Option Bool
deriving DecidableEq, Repr, Inhabited

/-- Z and N of a result, with the C and V given. -/
def flagsOf (r : W32) (c v : Option Bool) : FlagsOut := ⟨r == 0, r.msb, c, v⟩

/-- A signed value saturated to 32 bits, and whether it saturated. -/
def sat32 (x : Int) : W32 × Bool :=
  if x < -2147483648 then (0x80000000, true)
  else if 2147483647 < x then (0x7FFFFFFF, true)
  else (BitVec.ofInt 32 x, false)

def addFlags (a b : W32) : FlagsOut :=
  flagsOf (a + b) (some (decide (2 ^ 32 ≤ a.toNat + b.toNat)))
    (some (decide (a.toInt + b.toInt < -2147483648 ∨ 2147483647 < a.toInt + b.toInt)))

/-- C is 1 when a is at least b, unsigned. -/
def subFlags (a b : W32) : FlagsOut :=
  flagsOf (a - b) (some (decide (b.toNat ≤ a.toNat)))
    (some (decide (a.toInt - b.toInt < -2147483648 ∨ 2147483647 < a.toInt - b.toInt)))

/-- The result and flags of an operation with two operands (06 Table 6-4). -/
def aluResult (op : AluOp) (a b : W32) : W32 × FlagsOut :=
  let logic (r : W32) : W32 × FlagsOut := (r, flagsOf r none none)
  match op with
  | .add => (a + b, addFlags a b)
  | .sub => (a - b, subFlags a b)
  | .adds => ((sat32 (a.toInt + b.toInt)).1, flagsOf (sat32 (a.toInt + b.toInt)).1 none (some (sat32 (a.toInt + b.toInt)).2))
  | .subs => ((sat32 (a.toInt - b.toInt)).1, flagsOf (sat32 (a.toInt - b.toInt)).1 none (some (sat32 (a.toInt - b.toInt)).2))
  | .and => logic (a &&& b)
  | .or => logic (a ||| b)
  | .xor => logic (a ^^^ b)
  | .shl => logic (a <<< (b.toNat % 32))
  | .asr => logic (a.sshiftRight (b.toNat % 32))
  | .lsr => logic (a >>> (b.toNat % 32))
  | .min => logic (if a.toInt ≤ b.toInt then a else b)
  | .max => logic (if a.toInt ≤ b.toInt then b else a)

/-- ABS: 0x80000000 gives 0x7FFFFFFF with V = 1. -/
def absResult (a : W32) : W32 × FlagsOut :=
  let r : W32 := if a == 0x80000000 then 0x7FFFFFFF else if a.msb then -a else a
  (r, flagsOf r none (some (a == 0x80000000)))

/-! ## Accumulators -/

/-- The range of an accumulator in units of 2^-62 (05 R139). -/
def accMax : Int := 2 ^ 79 - 1
def accMin : Int := -(2 ^ 79)

/-- An exact value kept in an accumulator, and whether it saturates (05 R140). -/
def accKeep (x : Int) : Acc × Bool :=
  (BitVec.ofInt 80 (clamp accMin accMax x), decide (x < accMin ∨ accMax < x))

/-- An accumulator's value times 2^sh; a negative shift divides and rounds half up (06 R168). -/
def accShift (x : Int) (sh : Int) : Int :=
  if 0 ≤ sh then x * 2 ^ sh.toNat else roundDiv x (2 ^ (-sh).toNat)

/-- A value in units of 2^-62 stored as Q1.31: rounded half up and saturated (05 R141). -/
def accStore (x : Int) : W32 := BitVec.ofInt 32 (satQ31 (roundDiv x (2 ^ 31)))

/-! ## Conditions -/

/-- 06 Table 6-8; sat holds the four SAT bits. -/
def condHolds (c : Cond) (r : RegSet) (sat : Nat) : Bool :=
  match c with
  | .al => true
  | .eq => r.z
  | .ne => !r.z
  | .lt => r.n != r.v
  | .ge => r.n == r.v
  | .le => r.z || r.n != r.v
  | .gt => !r.z && r.n == r.v
  | .mi => r.n
  | .pl => !r.n
  | .vs => r.v
  | .vc => !r.v
  | .hs => r.c
  | .lo => !r.c
  | .as => sat % 16 != 0
  | .ac => sat % 16 == 0

end Sys2Proof.Machine
end

