-- ==== Sys2Proof/Machine/Operands.lean ====
section
/-! DEFINITION. The operands of Vent operations: registers, extended registers, quads, and the addressing modes with the
modifier registers (06 R163, R170-R173). -/

namespace Sys2Proof.Machine
open Sys2Proof

def RegSet.rd (r : RegSet) (i : Nat) : W32 := r.d.getD i 0

def RegSet.ra (r : RegSet) (i : Nat) : W32 := r.a.getD i 0

def RegSet.rmd (r : RegSet) (i : Nat) : W32 := r.md.getD i 0

def RegSet.rac (r : RegSet) (i : Nat) : Acc := r.ac.getD i 0

/-- Extended registers: A0-A7 are 0-7, MD0-MD7 are 8-15. -/
def RegSet.rx (r : RegSet) (i : Nat) : W32 := if i < 8 then r.ra i else r.rmd (i - 8)

/-- The second operand of an ALU operation: a register, or the immediate in its field (06 R168). -/
def RegSet.operandB (r : RegSet) (db : BitVec 5) (imm : Bool) : W32 := if imm then db.zeroExtend 32 else r.rd db.toNat

/-! ## Modifier registers (06 Table 6-2) -/

def mdStep (md : W32) : Int := sfld md 15 0

def mdCsize (md : W32) : Nat := fld md 20 16

def mdBrev (md : W32) : Bool := bit md 21

/-- A reserved modifier value, which traps when an access uses it (06 R163). -/
def mdReserved (md : W32) : Bool :=
  let c := mdCsize md
  fld md 31 22 != 0 || c == 1 || c == 2 || 19 ≤ c

/-- Reverses the order of n bits. -/
def revBits (n v : Nat) : Nat := (List.range n).foldl (fun a i => if v.testBit i then a ||| 1 <<< (n - 1 - i) else a) 0

/-- wrap(a, s) of 06 R172 for an access of 2^lw bytes. -/
def wrapAddr (md : W32) (lw : Nat) (a : W32) (s : Int) : W32 :=
  let c := mdCsize md
  let sum := a + BitVec.ofInt 32 s
  if c = 0 then sum
  else if mdBrev md then
    let n := c - lw
    let field (w : Nat) : Nat := w / 2 ^ lw % 2 ^ n
    let r := revBits n ((revBits n (field a.toNat) + revBits n (field (BitVec.ofInt 32 s).toNat)) % 2 ^ n)
    BitVec.ofNat 32 (a.toNat / 2 ^ c * 2 ^ c + r * 2 ^ lw + a.toNat % 2 ^ lw)
  else
    let mask : W32 := BitVec.ofNat 32 (2 ^ c - 1)
    (a &&& ~~~mask) ||| (sum &&& mask)

/-- The log2 of an operation's access width: 8 bytes for LDL and STL, 4 for the others (06 R170). -/
def LsOp.lw : LsOp → Nat
  | .ldl _ _ _ => 3
  | .stl _ _ _ => 3
  | .nop => 2
  | .ldw _ _ _ => 2
  | .stw _ _ _ => 2
  | .ldx _ _ _ => 2
  | .stx _ _ _ => 2
  | .stac _ _ _ _ => 2

/-- The address register and mode of an operation, none for NOP. -/
def LsOp.addr : LsOp → Option (Nat × AddrMode)
  | .nop => none
  | .ldw _ an am => some (an.toNat, am)
  | .ldl _ an am => some (an.toNat, am)
  | .stw _ an am => some (an.toNat, am)
  | .stl _ an am => some (an.toNat, am)
  | .ldx _ an am => some (an.toNat, am)
  | .stx _ an am => some (an.toNat, am)
  | .stac _ _ an am => some (an.toNat, am)

def LsOp.isStore : LsOp → Bool
  | .stw _ _ _ => true
  | .stl _ _ _ => true
  | .stx _ _ _ => true
  | .stac _ _ _ _ => true
  | .nop => false
  | .ldw _ _ _ => false
  | .ldl _ _ _ => false
  | .ldx _ _ _ => false

/-- A mode that uses the modifier register. -/
def AddrMode.usesMd : AddrMode → Bool
  | .postMod => true
  | .preMod => true
  | .circInc => true
  | .circDec => true
  | .plain => false
  | .postInc => false
  | .postDec => false

/-- The access address and the new value of An, if the mode changes it (06 Table 6-6). -/
def effAddr (r : RegSet) (n : Nat) (am : AddrMode) (lw : Nat) : W32 × Option W32 :=
  let a := r.ra n
  let md := r.rmd n
  let w : Int := (2 ^ lw : Nat)
  match am with
  | .plain => (a, none)
  | .postInc => (a, some (a + BitVec.ofInt 32 w))
  | .postDec => (a, some (a - BitVec.ofInt 32 w))
  | .postMod => (a, some (wrapAddr md lw a (mdStep md)))
  | .preMod => (wrapAddr md lw a (mdStep md), none)
  | .circInc => (a, some (wrapAddr md lw a w))
  | .circDec => (a, some (wrapAddr md lw a (-w)))

/-- A core address inside the core's own memory and pages (05 Table 5-2). -/
def isLocal (a : Nat) : Bool := decide (a < 0x40000)

/-- A core address of the Basin (05 Table 5-2). -/
def isBasin (a : Nat) : Bool := decide (0x20000000 ≤ a ∧ a < 0x21800000)

end Sys2Proof.Machine
end

