-- ==== Sys2Proof/Machine/VentCode.lean ====
section
/-! DEFINITION. The 64-bit encoding of Vent bundles: a decoder that refuses every reserved opcode, reserved field value
and non-zero reserved bit (06 R160, R161), and the encoder written from the same tables. -/

namespace Sys2Proof.Machine
open Sys2Proof

/-! ## MAC slot (06 R166, Tables 6-3 and 6-4) -/

def QuadOp.code : QuadOp → BitVec 5
  | .mac => 0x01
  | .msu => 0x02
  | .mpy => 0x03
  | .mpyn => 0x04
  | .macs => 0x05
  | .msus => 0x06

/-- MACS and MSUS read the slide input DT; the other quad operations must hold 0 there. -/
def QuadOp.slides : QuadOp → Bool
  | .macs => true
  | .msus => true
  | .mac => false
  | .msu => false
  | .mpy => false
  | .mpyn => false

def AluOp.code : AluOp → BitVec 5
  | .add => 0x10
  | .sub => 0x11
  | .adds => 0x12
  | .subs => 0x13
  | .and => 0x14
  | .or => 0x15
  | .xor => 0x16
  | .shl => 0x17
  | .asr => 0x18
  | .lsr => 0x19
  | .min => 0x1A
  | .max => 0x1B

/-- Opcode in [21:17], then 17 bits in one of the three layouts of 06 R166. -/
def macWord (op : BitVec 5) (rest : BitVec 17) : BitVec 22 := op ++ rest

/-- Quad form: DS, Q, SKIP, DT. -/
def quadForm (ds : BitVec 5) (q : BitVec 3) (skip : BitVec 4) (dt : BitVec 5) : BitVec 17 := ds ++ q ++ skip ++ dt

/-- Accumulator form: ACS, ACD, SH, Q, DD. -/
def accForm (acs acd : BitVec 2) (sh : BitVec 5) (q : BitVec 3) (dd : BitVec 5) : BitVec 17 := acs ++ acd ++ sh ++ q ++ dd

/-- ALU form: DD, DA, DB, I, and the reserved bit 0. -/
def aluForm (dd da db : BitVec 5) (imm : Bool) : BitVec 17 := dd ++ da ++ db ++ (BitVec.ofBool imm) ++ (0 : BitVec 1)

def encodeMac : MacOp → BitVec 22
  | .mnop => 0
  | .quad op ds q skip dt => macWord op.code (quadForm ds q skip dt)
  | .aclr mask => macWord 0x08 ((0 : BitVec 13) ++ mask)
  | .acsh acs acd sh => macWord 0x09 (accForm acs acd sh 0 0)
  | .acadd acs acd sh => macWord 0x0A (accForm acs acd sh 0 0)
  | .acsub acs acd sh => macWord 0x0B (accForm acs acd sh 0 0)
  | .acwr acd q => macWord 0x0C (accForm 0 acd 0 q 0)
  | .acrd acs q => macWord 0x0D (accForm acs 0 0 q 0)
  | .acrnd acs sh dd => macWord 0x0E (accForm acs 0 sh 0 dd)
  | .alu op dd da db imm => macWord op.code (aluForm dd da db imm)
  | .abs dd da => macWord 0x1C (aluForm dd da 0 false)
  | .cmp da db imm => macWord 0x1D (aluForm 0 da db imm)
  | .movfx dd xa => macWord 0x1E (aluForm dd ((0 : BitVec 1) ++ xa) 0 false)
  | .movtx xd da => macWord 0x1F (aluForm ((0 : BitVec 1) ++ xd) da 0 false)

/-- A MAC-slot operation that has an encoding: only the slides use DT. -/
def MacOp.wf : MacOp → Bool
  | .quad op _ _ _ dt => op.slides || dt == 0
  | .mnop => true
  | .aclr _ => true
  | .acsh _ _ _ => true
  | .acadd _ _ _ => true
  | .acsub _ _ _ => true
  | .acwr _ _ => true
  | .acrd _ _ => true
  | .acrnd _ _ _ => true
  | .alu _ _ _ _ _ => true
  | .abs _ _ => true
  | .cmp _ _ _ => true
  | .movfx _ _ => true
  | .movtx _ _ => true

/-- An operation when its unused fields are 0, and nothing otherwise (06 R161). -/
def need {α : Type} (ok : Bool) (x : α) : Option α := if ok then some x else none

def decodeQuad (op : QuadOp) (w : BitVec 22) : Option MacOp :=
  need (op.slides || w.extractLsb' 0 5 == 0)
    (.quad op (w.extractLsb' 12 5) (w.extractLsb' 9 3) (w.extractLsb' 5 4) (w.extractLsb' 0 5))

def decodeAlu (op : AluOp) (w : BitVec 22) : Option MacOp :=
  need (w.extractLsb' 0 1 == 0)
    (.alu op (w.extractLsb' 12 5) (w.extractLsb' 7 5) (w.extractLsb' 2 5) (w.getLsbD 1))

def decodeMac (w : BitVec 22) : Option MacOp :=
  let acs := w.extractLsb' 15 2
  let acd := w.extractLsb' 13 2
  let sh := w.extractLsb' 8 5
  let q := w.extractLsb' 5 3
  let dd := w.extractLsb' 0 5
  match (w.extractLsb' 17 5).toNat with
  | 0x00 => need (w.extractLsb' 0 17 == 0) .mnop
  | 0x01 => decodeQuad .mac w
  | 0x02 => decodeQuad .msu w
  | 0x03 => decodeQuad .mpy w
  | 0x04 => decodeQuad .mpyn w
  | 0x05 => decodeQuad .macs w
  | 0x06 => decodeQuad .msus w
  | 0x08 => need (w.extractLsb' 4 13 == 0) (.aclr (w.extractLsb' 0 4))
  | 0x09 => need (q == 0 && dd == 0) (.acsh acs acd sh)
  | 0x0A => need (q == 0 && dd == 0) (.acadd acs acd sh)
  | 0x0B => need (q == 0 && dd == 0) (.acsub acs acd sh)
  | 0x0C => need (acs == 0 && sh == 0 && dd == 0) (.acwr acd q)
  | 0x0D => need (acd == 0 && sh == 0 && dd == 0) (.acrd acs q)
  | 0x0E => need (acd == 0 && q == 0) (.acrnd acs sh dd)
  | 0x10 => decodeAlu .add w
  | 0x11 => decodeAlu .sub w
  | 0x12 => decodeAlu .adds w
  | 0x13 => decodeAlu .subs w
  | 0x14 => decodeAlu .and w
  | 0x15 => decodeAlu .or w
  | 0x16 => decodeAlu .xor w
  | 0x17 => decodeAlu .shl w
  | 0x18 => decodeAlu .asr w
  | 0x19 => decodeAlu .lsr w
  | 0x1A => decodeAlu .min w
  | 0x1B => decodeAlu .max w
  | 0x1C => need (w.extractLsb' 0 7 == 0) (.abs (w.extractLsb' 12 5) (w.extractLsb' 7 5))
  | 0x1D => need (w.extractLsb' 12 5 == 0 && w.extractLsb' 0 1 == 0)
      (.cmp (w.extractLsb' 7 5) (w.extractLsb' 2 5) (w.getLsbD 1))
  | 0x1E => need (w.extractLsb' 0 7 == 0 && w.extractLsb' 11 1 == 0) (.movfx (w.extractLsb' 12 5) (w.extractLsb' 7 4))
  | 0x1F => need (w.extractLsb' 0 7 == 0 && w.extractLsb' 16 1 == 0) (.movtx (w.extractLsb' 12 4) (w.extractLsb' 7 5))
  | _ => none

/-! ## Load/store slots (06 R170, Tables 6-5 and 6-6) -/

def AddrMode.code : AddrMode → BitVec 3
  | .plain => 0
  | .postInc => 1
  | .postDec => 2
  | .postMod => 3
  | .preMod => 4
  | .circInc => 5
  | .circDec => 6

def decodeMode (w : BitVec 3) : Option AddrMode :=
  match w.toNat with
  | 0 => some .plain
  | 1 => some .postInc
  | 2 => some .postDec
  | 3 => some .postMod
  | 4 => some .preMod
  | 5 => some .circInc
  | 6 => some .circDec
  | _ => none

/-- OP [13:11], REG [10:6], AN [5:3], AM [2:0]. -/
def lsWord (op : BitVec 3) (reg : BitVec 5) (an : BitVec 3) (am : AddrMode) : BitVec 14 := op ++ reg ++ an ++ am.code

def encodeLs : LsOp → BitVec 14
  | .nop => 0
  | .ldw r an am => lsWord 1 r an am
  | .ldl rp an am => lsWord 2 (rp ++ (0 : BitVec 1)) an am
  | .stw r an am => lsWord 3 r an am
  | .stl rp an am => lsWord 4 (rp ++ (0 : BitVec 1)) an am
  | .ldx x an am => lsWord 5 ((0 : BitVec 1) ++ x) an am
  | .stx x an am => lsWord 6 ((0 : BitVec 1) ++ x) an am
  | .stac ac sh an am => lsWord 7 (sh ++ ac) an am

def decodeLs (w : BitVec 14) : Option LsOp :=
  let an := w.extractLsb' 3 3
  let am := decodeMode (w.extractLsb' 0 3)
  let even := w.extractLsb' 6 1 == 0
  let low := w.extractLsb' 10 1 == 0
  match (w.extractLsb' 11 3).toNat with
  | 0 => need (w.extractLsb' 0 11 == 0) .nop
  | 1 => am.map (.ldw (w.extractLsb' 6 5) an)
  | 2 => am.bind (fun m => need even (.ldl (w.extractLsb' 7 4) an m))
  | 3 => am.map (.stw (w.extractLsb' 6 5) an)
  | 4 => am.bind (fun m => need even (.stl (w.extractLsb' 7 4) an m))
  | 5 => am.bind (fun m => need low (.ldx (w.extractLsb' 6 4) an m))
  | 6 => am.bind (fun m => need low (.stx (w.extractLsb' 6 4) an m))
  | _ => am.map (.stac (w.extractLsb' 6 2) (w.extractLsb' 8 3) an)

/-! ## Control slots (06 R174, Tables 6-7 and 6-8) -/

def encodeShort : ShortCtl → BitVec 12
  | .cnop => 0
  | .yield => 0x100
  | .reti => 0x200
  | .lexit => 0x300
  | .jr n => (0x4 : BitVec 4) ++ (0 : BitVec 3) ++ n

def decodeShort (w : BitVec 12) : Option ShortCtl :=
  match (w.extractLsb' 8 4).toNat with
  | 0 => need (w.extractLsb' 0 8 == 0) .cnop
  | 1 => need (w.extractLsb' 0 8 == 0) .yield
  | 2 => need (w.extractLsb' 0 8 == 0) .reti
  | 3 => need (w.extractLsb' 0 8 == 0) .lexit
  | 4 => need (w.extractLsb' 5 3 == 0) (.jr (w.extractLsb' 0 5))
  | _ => none

def Cond.code : Cond → BitVec 4
  | .al => 0x0
  | .eq => 0x1
  | .ne => 0x2
  | .lt => 0x3
  | .ge => 0x4
  | .le => 0x5
  | .gt => 0x6
  | .mi => 0x7
  | .pl => 0x8
  | .vs => 0x9
  | .vc => 0xA
  | .hs => 0xB
  | .lo => 0xC
  | .as => 0xD
  | .ac => 0xE

def decodeCond (w : BitVec 4) : Option Cond :=
  match w.toNat with
  | 0x0 => some .al
  | 0x1 => some .eq
  | 0x2 => some .ne
  | 0x3 => some .lt
  | 0x4 => some .ge
  | 0x5 => some .le
  | 0x6 => some .gt
  | 0x7 => some .mi
  | 0x8 => some .pl
  | 0x9 => some .vs
  | 0xA => some .vc
  | 0xB => some .hs
  | 0xC => some .lo
  | 0xD => some .as
  | 0xE => some .ac
  | _ => none

def encodeLong : LongCtl → BitVec 34
  | .cnop => 0
  | .br c target => (0x1 : BitVec 4) ++ (0 : BitVec 13) ++ c.code ++ target
  | .call target dl => (0x2 : BitVec 4) ++ (0 : BitVec 12) ++ dl ++ target
  | .loopi count last => (0x3 : BitVec 4) ++ (0 : BitVec 1) ++ count ++ last
  | .loopr dc last => (0x4 : BitVec 4) ++ (0 : BitVec 12) ++ dc ++ last
  | .lda an imm => (0x5 : BitVec 4) ++ (0 : BitVec 9) ++ an ++ imm

def decodeLong (w : BitVec 34) : Option LongCtl :=
  let target := w.extractLsb' 0 13
  match (w.extractLsb' 30 4).toNat with
  | 0 => need (w.extractLsb' 0 30 == 0) .cnop
  | 1 => (decodeCond (w.extractLsb' 13 4)).bind (fun c => need (w.extractLsb' 17 13 == 0) (.br c target))
  | 2 => need (w.extractLsb' 18 12 == 0) (.call target (w.extractLsb' 13 5))
  | 3 => need (w.extractLsb' 29 1 == 0 && w.extractLsb' 13 16 != 0) (.loopi (w.extractLsb' 13 16) target)
  | 4 => need (w.extractLsb' 18 12 == 0) (.loopr (w.extractLsb' 13 5) target)
  | 5 => need (w.extractLsb' 21 9 == 0) (.lda (w.extractLsb' 18 3) (w.extractLsb' 0 18))
  | _ => none

/-- COUNT 0 of LOOPI is reserved (06 Table 6-7). -/
def LongCtl.wf : LongCtl → Bool
  | .loopi count _ => count != 0
  | .cnop => true
  | .br _ _ => true
  | .call _ _ => true
  | .loopr _ _ => true
  | .lda _ _ => true

/-! ## Literal slot (06 R169) and bundles (06 R160) -/

/-- DEST: 0-31 names D0-D31, 32-39 A0-A7, 40-47 MD0-MD7. -/
def encodeDest : LitDest → BitVec 6
  | .d n => (0 : BitVec 1) ++ n
  | .a n => (0x4 : BitVec 3) ++ n
  | .md n => (0x5 : BitVec 3) ++ n

def decodeDest (w : BitVec 6) : Option LitDest :=
  if w.extractLsb' 5 1 == 0 then some (.d (w.extractLsb' 0 5))
  else
    match (w.extractLsb' 3 3).toNat with
    | 4 => some (.a (w.extractLsb' 0 3))
    | 5 => some (.md (w.extractLsb' 0 3))
    | _ => none

def encodeBundle : Bundle → BitVec 64
  | .full mac ls0 ls1 ctl => (0 : BitVec 2) ++ encodeMac mac ++ encodeLs ls0 ++ encodeLs ls1 ++ encodeShort ctl
  | .long ls0 ls1 ctl => (1 : BitVec 2) ++ encodeLs ls0 ++ encodeLs ls1 ++ encodeLong ctl
  | .lit mac dest value => (2 : BitVec 2) ++ encodeMac mac ++ (0 : BitVec 2) ++ encodeDest dest ++ value

/-- The bundle that 64 bits spell, or none where 06 R161 traps. -/
def decodeBundle (w : BitVec 64) : Option Bundle :=
  match (w.extractLsb' 62 2).toNat with
  | 0 => (decodeMac (w.extractLsb' 40 22)).bind fun m =>
      (decodeLs (w.extractLsb' 26 14)).bind fun a =>
      (decodeLs (w.extractLsb' 12 14)).bind fun b =>
      (decodeShort (w.extractLsb' 0 12)).map fun c => .full m a b c
  | 1 => (decodeLs (w.extractLsb' 48 14)).bind fun a =>
      (decodeLs (w.extractLsb' 34 14)).bind fun b =>
      (decodeLong (w.extractLsb' 0 34)).map fun c => .long a b c
  | 2 => (decodeMac (w.extractLsb' 40 22)).bind fun m =>
      (decodeDest (w.extractLsb' 32 6)).bind fun d =>
      need (w.extractLsb' 38 2 == 0) (.lit m d (w.extractLsb' 0 32))
  | _ => none

/-- A bundle that has an encoding. -/
def Bundle.wf : Bundle → Bool
  | .full m _ _ _ => m.wf
  | .long _ _ c => c.wf
  | .lit m _ _ => m.wf

end Sys2Proof.Machine
end

