-- ==== Sys2Proof/Machine/VentExec.lean ====
section
/-! DEFINITION. The issue of Vent bundles (05, 06): core memories and the control page, results in flight and their
retirement, traps, loops, branches, phases and handlers, and the operations' meanings as rows. -/

namespace Sys2Proof.Machine
open Sys2Proof

/-! ## Cores and their memories -/

def State.core (s : State) (n : Nat) : Core := s.vent.cores.getD n Core.init

def State.setCore (s : State) (n : Nat) (c : Core) : State :=
  { s with vent := { s.vent with cores := s.vent.cores.set n c } }

/-- Internal addresses of a core's memories (05 Table 5-1). -/
def dataBase (n : Nat) : Nat := 0x40000000 + n * 0x40000

def instBase (n : Nat) : Nat := 0x41000000 + n * 0x10000

/-- The Conduit master of a core's cluster (05 R126). -/
def coreMaster (n : Nat) : Nat := 4 + n / 16

/-- The island of a core (05 R126). -/
def coreIsland (n : Nat) : Nat := 4 + n / 16

/-- The register set that bundles use: the shadow set inside a handler (05 R146). -/
def Core.regs (c : Core) : RegSet := if c.handler.isSome then c.shadow else c.main

def Core.setRegs (c : Core) (shadow : Bool) (r : RegSet) : Core := if shadow then { c with shadow := r } else { c with main := r }

def Core.setOf (c : Core) (shadow : Bool) : RegSet := if shadow then c.shadow else c.main

/-- A core fetches bundles while it runs a phase or a handler (05 R134). -/
def Core.active (c : Core) : Bool :=
  c.st == .running && (c.handler.isSome || c.ph == .strip || c.ph == .post)

/-- A request is recorded whether or not it is enabled (05 R145). -/
def Core.request (c : Core) (b : Nat) : Core := { c with intCause := c.intCause ||| b, intPend := c.intPend ||| b }

/-! ## Control page (05 Table 5-3) -/

def Xfer.status (x : Xfer) : W32 := pack [(b2n x.err, 2), (b2n x.busy, 1)]

/-- A word of the control page. The words between SAT and the transfer channels are not listed: they read a free value. -/
def State.pageWord (s : State) (n a : Nat) : W32 :=
  let c := s.core n
  match a with
  | 0x37000 => c.tick
  | 0x37004 => pack [(c.ns4, 8), (c.ns2, 4), (c.ns1, 0)]
  | 0x37008 => w32 (b2n c.phaseBit)
  | 0x3700C => w32 c.inBase
  | 0x37010 => w32 c.outBase
  | 0x37014 => w32 c.intEn
  | 0x37018 => w32 (c.intCause % 8)
  | 0x3701C => w32 (c.sat % 16)
  | _ =>
    if a < 0x37040 then Config.freeWord (s.fresh + a)
    else if a < 0x37080 then
      let x := c.xfers.getD ((a - 0x37040) / 16) Xfer.init
      match a % 16 with
      | 0 => x.localA
      | 4 => x.remLo
      | 8 => x.ctl
      | _ => x.status
    else memReadW s.mem (dataBase n + a)

/-- Starts a transfer channel; a GO while it is busy is ignored (05 R131). -/
def Core.go (c : Core) (i : Nat) : Core :=
  let x := c.xfers.getD i Xfer.init
  if x.busy then c else { c with xfers := c.xfers.set i { x with busy := true, err := false } }

def Core.clearCause (c : Core) (bits : W32) : Core :=
  let keep := 7 - fld bits 2 0
  { c with intCause := c.intCause &&& keep, intPend := c.intPend &&& keep }

def Core.clearSat (c : Core) (bits : W32) : Core := { c with sat := c.sat &&& (15 - fld bits 3 0) }

/-- A store to the control page; RO words ignore it. -/
def Core.writePage (c : Core) (a : Nat) (w : W32) : Core :=
  match a with
  | 0x37014 => { c with intEn := w.toNat }
  | 0x37018 => c.clearCause w
  | 0x3701C => c.clearSat w
  | _ =>
    if 0x37040 ≤ a ∧ a < 0x37080 then
      let i := (a - 0x37040) / 16
      let x := c.xfers.getD i Xfer.init
      match a % 16 with
      | 0 => { c with xfers := c.xfers.set i { x with localA := w } }
      | 4 => { c with xfers := c.xfers.set i { x with remLo := w } }
      | 8 => { c with xfers := c.xfers.set i { x with ctl := w } }
      | _ => if bit w 0 then c.go i else c
    else c

/-- A word as a core loads it (05 Table 5-2). -/
def State.coreLoad (s : State) (n a : Nat) : W32 :=
  if 0x37000 ≤ a ∧ a < 0x37080 then s.pageWord n a
  else if isLocal a then memReadW s.mem (dataBase n + a)
  else bytesWord (s.busByte a) (s.busByte (a + 1)) (s.busByte (a + 2)) (s.busByte (a + 3))

/-- A word as a core stores it. -/
def State.coreStore (s : State) (n a : Nat) (w : W32) : State :=
  if 0x37000 ≤ a ∧ a < 0x37080 then s.setCore n ((s.core n).writePage a w)
  else if isLocal a then { s with mem := memWriteW s.mem (dataBase n + a) w }
  else s.busWrite a (wordBytes w)

/-! ## Retirement (06 R179, 05 R140, R144) -/

/-- An accumulator saturates: its SAT bit is set, and ACC_SATURATE goes out when SAT was all zeros (05 R140). -/
def State.satEvent (s : State) (n ac pc : Nat) : State :=
  let c := s.core n
  let s1 := s.setCore n { c with sat := c.sat ||| (1 <<< ac) }
  if c.sat % 16 = 0 then s1.raise 0x04 n 0x1D (pack [(ac, 16), (pc, 0)]) else s1

/-- An accumulator takes an exact value. -/
def State.accPut (s : State) (n : Nat) (sh : Bool) (ac : Nat) (x : Int) (pc : Nat) : State :=
  let c := s.core n
  let r := c.setOf sh
  let k := accKeep x
  let s1 := s.setCore n (c.setRegs sh { r with ac := r.ac.set ac k.1, lock := r.lock.set ac k.2 })
  if k.2 then s1.satEvent n ac pc else s1

def State.retire (s : State) (n : Nat) (f : InFlight) : State :=
  let c := s.core n
  let r := c.setOf f.shadow
  let put (r : RegSet) : State := s.setCore n (c.setRegs f.shadow r)
  match f.act with
  | .wrD i v => put { r with d := r.d.set i v }
  | .wrA i v => put { r with a := r.a.set i v }
  | .wrMd i v => put { r with md := r.md.set i v }
  | .flags z ng cy ov => put { r with z := z, n := ng, c := cy.getD r.c, v := ov.getD r.v }
  | .acSet i x pc => s.accPut n f.shadow i x pc
  | .acAdd i x pc => if r.lock.getD i false then s else s.accPut n f.shadow i ((r.rac i).toInt + x) pc
  | .store a w => s.coreStore n a w

/-- Results in the order in which they arrive: by cycle, then by issue, then by slot (05 R144). -/
def inOrder (l : List InFlight) : List InFlight :=
  sortBy (fun a b => decide (a.due < b.due ∨ (a.due = b.due ∧ (a.issue < b.issue ∨ (a.issue = b.issue ∧ a.rank < b.rank))))) l

/-- Every result that is due by the core's cycle retires. -/
def State.retireDue (s : State) (n : Nat) : State :=
  let c := s.core n
  let due := inOrder (c.infl.filter (fun f => f.due ≤ c.cyc))
  due.foldl (fun s f => s.retire n f) (s.setCore n { c with infl := c.infl.filter (fun f => !(decide (f.due ≤ c.cyc))) })

/-- Every result in flight retires. -/
def State.retireAll (s : State) (n : Nat) : State :=
  let c := s.core n
  (inOrder c.infl).foldl (fun s f => s.retire n f) (s.setCore n { c with infl := [] })

/-- A stall or an interrupt falls inside the window of every result in flight (05 R143). -/
def Core.stall (c : Core) : Core := { c with infl := c.infl.map (fun f => { f with stalled := true }) }

/-- What a bundle may see: of each result whose window a stall has opened, either the old or the new value, by a free
choice (05 R143). The state returned has used up the choices. -/
def State.view (s : State) (n : Nat) : State × State :=
  let c := s.core n
  let open' := (inOrder c.infl).filter (fun f => f.stalled)
  let early := (open'.zipIdx.filter (fun e => Config.freeBool (s.fresh + e.2))).map (·.1)
  (early.foldl (fun s f => s.retire n f) s, { s with fresh := s.fresh + open'.length })

/-! ## Traps (05 R148, Table 5-7) -/

def Bundle.ls : Bundle → List LsOp
  | .full _ a b _ => [a, b]
  | .long a b _ => [a, b]
  | .lit _ _ _ => []

def Bundle.mac : Bundle → MacOp
  | .full m _ _ _ => m
  | .long _ _ _ => .mnop
  | .lit m _ _ => m

def Bundle.short : Bundle → ShortCtl
  | .full _ _ _ c => c
  | .long _ _ _ => .cnop
  | .lit _ _ _ => .cnop

def Bundle.ctl : Bundle → LongCtl
  | .full _ _ _ _ => .cnop
  | .long _ _ c => c
  | .lit _ _ _ => .cnop

/-- BR, CALL, JR, LOOPI, LOOPR, YIELD or RETI, which 06 R176 bars from delay slots and from END bundles. -/
def Bundle.barred (b : Bundle) : Bool :=
  (match b.short with
   | .yield => true
   | .reti => true
   | .jr _ => true
   | .cnop => false
   | .lexit => false) ||
  (match b.ctl with
   | .br _ _ => true
   | .call _ _ => true
   | .loopi _ _ => true
   | .loopr _ _ => true
   | .cnop => false
   | .lda _ _ => false)

/-- The branch of a bundle: its target, and whether it is taken. -/
def Bundle.branch (b : Bundle) (r : RegSet) (sat : Nat) : Option (Nat × Bool) :=
  match b.short with
  | .jr k => some ((r.rd k.toNat).toNat % 8192, true)
  | .cnop => match b.ctl with
    | .br c t => some (t.toNat, condHolds c r sat)
    | .call t _ => some (t.toNat, true)
    | .cnop => none
    | .loopi _ _ => none
    | .loopr _ _ => none
    | .lda _ _ => none
  | .yield => none
  | .reti => none
  | .lexit => none

/-- The loop that a bundle opens: its count and END. -/
def Bundle.loop (b : Bundle) (r : RegSet) : Option (Nat × Nat) :=
  match b.ctl with
  | .loopi k e => some (k.toNat, e.toNat)
  | .loopr dc e => some ((r.rd dc.toNat).toNat, e.toNat)
  | .cnop => none
  | .br _ _ => none
  | .call _ _ => none
  | .lda _ _ => none

/-- The accesses of a bundle: operation, access address and new An, from the registers at issue. -/
def Bundle.accesses (b : Bundle) (r : RegSet) : List (LsOp × Nat × Nat × Option W32) :=
  b.ls.filterMap (fun o => o.addr.map (fun x =>
    let e := effAddr r x.1 x.2 o.lw
    (o, x.1, e.1.toNat, e.2)))

/-- The lowest trap cause that a bundle meets, if any. -/
def State.trapOf (s : State) (n : Nat) (b : Bundle) (c : Core) : Option Nat :=
  let r := c.regs
  let pc := c.pc
  let acc := b.accesses r
  let ends := r.loops.map (·.last)
  let mdBad := b.ls.any (fun o => match o.addr with
    | some x => x.2.usesMd && mdReserved (r.rmd x.1)
    | none => false)
  let br := b.branch r c.sat
  let takenOverEnd := match br with
    | some (_, true) => ends.any (fun e => e == (pc + 1) % 8192 || e == (pc + 2) % 8192)
    | some (_, false) => false
    | none => false
  let loopBad := match b.loop r with
    | some (_, e) => e < pc + 1 || ends.any (fun x => x ≤ e)
    | none => false
  let one := !b.wf || mdBad || (b.barred && (c.br.isSome || ends.contains pc)) || takenOverEnd || loopBad
  let two := acc.any (fun a => a.2.2.1 % 2 ^ a.1.lw != 0)
  let three := acc.any (fun a => !isLocal a.2.2.1 && !isBasin a.2.2.1)
  let four := acc.any (fun a => isBasin a.2.2.1 && !s.permits (coreMaster n) a.2.2.1 a.1.isStore)
  let five := (b.loop r).isSome && 3 ≤ r.loops.length
  let six := (b.short == .yield && c.handler.isSome) || (b.short == .reti && c.handler.isNone)
  if one then some 1 else if two then some 2 else if three then some 3 else if four then some 4
  else if five then some 5 else if six then some 6 else none

/-! ## Output frames and the end of a phase (05 R133-R136) -/

/-- Samples of a domain in the tick that the core processes. -/
def Core.count (c : Core) (domain : Nat) : Nat := if domain = 0 then c.ns1 else if domain = 1 then c.ns2 else c.ns4

/-- The samples of an output slot as its frame holds them. -/
def State.frameSamples (s : State) (n : Nat) (e : SlotMap) : List Sample :=
  let c := s.core n
  (List.range (c.count e.domain)).map (fun j => (memReadW s.mem (dataBase n + c.outBase + 32 * e.idx + 4 * j)).toInt)

/-- The slot map that governs the samples being processed (05 R132, log 19). -/
def State.workMap (s : State) : List SlotMap :=
  match s.back with
  | some b => b.vmap
  | none => s.vent.vmap

/-- The output slots of a core in one phase. -/
def State.outSlots (s : State) (n : Nat) (post : Bool) : List SlotMap :=
  s.workMap.filter (fun e => e.output && e.core == n && e.post == post)

/-- The previous tick's samples of a slot in a tick of k samples (01 R16). -/
def fitPrev (prev : List Sample) (k : Nat) : List Sample :=
  if prev.isEmpty then List.replicate k 0
  else (List.range k).map (fun j => prev.getD (min j (prev.length - 1)) 0)

def State.putOut (s : State) (slot : Nat) (x : List Sample) : State :=
  { s with vent := { s.vent with outs := kset s.vent.outs slot x } }

/-- The output slots of a phase are handed to the feed (05 R135). -/
def State.handOver (s : State) (n : Nat) (post : Bool) : State :=
  (s.outSlots n post).foldl (fun s e => s.putOut e.slot (s.frameSamples n e)) s

/-- The output slots of a phase carry the previous tick's samples (01 R16). -/
def State.repeatOuts (s : State) (n : Nat) (post : Bool) : State :=
  (s.outSlots n post).foldl
    (fun s e => s.putOut e.slot (fitPrev (kgetD s.vent.prevOuts e.slot []) ((s.core n).count e.domain))) s

/-- The output slots of the phase in progress and of those that have not yet run carry the previous tick's samples
(05 R148). -/
def State.abandonOuts (s : State) (n : Nat) : State :=
  match (s.core n).ph with
  | .waitStrip => (s.repeatOuts n false).repeatOuts n true
  | .strip => (s.repeatOuts n false).repeatOuts n true
  | .waitPost => s.repeatOuts n true
  | .post => s.repeatOuts n true
  | .idle => s

/-- A fault halts the core, or, where FAULT_REACTION makes the kind corrected, ends its work for this tick (05 R148). -/
def State.stopCore (s : State) (n : Nat) (halt : Bool) : State :=
  let s1 := s.abandonOuts n
  let c := s1.core n
  s1.setCore n { c with
    st := if halt then .halted else c.st
    ph := .idle
    handler := none
    br := none
    haltPc := c.pc }

/-- VENT_TRAP: bundles issued before complete, then the reaction (05 R148, 06 R162). -/
def State.ventTrap (s : State) (n cause : Nat) : State :=
  let s1 := s.retireAll n
  let c := s1.core n
  let s2 := s1.setCore n { c with trap := cause }
  let s3 := s2.stopCore n (s2.classNow 0x04 0x1C != 1)
  s3.raise 0x04 n 0x1C (pack [(cause, 24), (c.pc, 0)])

/-- YIELD: results in flight retire, loops close, the outputs go to the feed, and the phase is over (06 R178). -/
def State.endPhase (s : State) (n : Nat) : State :=
  let s1 := s.retireAll n
  let post := (s1.core n).ph == .post
  let s2 := s1.handOver n post
  let c := s2.core n
  s2.setCore n { c with
    main := { c.main with loops := [] }
    ph := if post then .idle else .waitPost
    br := none
    stripMax := max c.stripMax c.stripCyc
    postMax := if post then max c.postMax c.postCyc else c.postMax }

/-! ## The effect of a bundle -/

/-- The results of the MAC slot: bundles until seen, and what is written (06 R166-R168, R179). -/
def macResults (m : MacOp) (r : RegSet) (pc : Nat) : List (Nat × Retire) :=
  match m with
  | .mnop => []
  | .quad op ds q skip dt =>
    let x (i : Nat) : Int := (r.rd ds.toNat).toInt * (r.rd (4 * q.toNat + i)).toInt
    let lane (i : Nat) : Retire :=
      match op with
      | .mac => .acAdd i (x i) pc
      | .macs => .acAdd i (x i) pc
      | .msu => .acAdd i (-(x i)) pc
      | .msus => .acAdd i (-(x i)) pc
      | .mpy => .acSet i (x i) pc
      | .mpyn => .acSet i (-(x i)) pc
    let acc := ((List.range 4).filter (fun i => !skip.getLsbD i)).map (fun i => (3, lane i))
    if op.slides then
      acc ++ [(1, .wrD (4 * q.toNat + 3) (r.rd (4 * q.toNat + 2))), (1, .wrD (4 * q.toNat + 2) (r.rd (4 * q.toNat + 1))),
        (1, .wrD (4 * q.toNat + 1) (r.rd (4 * q.toNat))), (1, .wrD (4 * q.toNat) (r.rd dt.toNat))]
    else acc
  | .aclr mask => ((List.range 4).filter (fun i => mask.getLsbD i)).map (fun i => (3, .acSet i 0 pc))
  | .acsh acs acd sh => [(3, .acSet acd.toNat (accShift (r.rac acs.toNat).toInt sh.toInt) pc)]
  | .acadd acs acd sh => [(3, .acAdd acd.toNat (accShift (r.rac acs.toNat).toInt sh.toInt) pc)]
  | .acsub acs acd sh => [(3, .acAdd acd.toNat (-(accShift (r.rac acs.toNat).toInt sh.toInt)) pc)]
  | .acwr acd q =>
    let v : BitVec 80 := (r.rd (4 * q.toNat + 2)).truncate 16 ++ r.rd (4 * q.toNat + 1) ++ r.rd (4 * q.toNat)
    [(3, .acSet acd.toNat v.toInt pc)]
  | .acrd acs q =>
    let v := r.rac acs.toNat
    [(3, .wrD (4 * q.toNat) (v.extractLsb' 0 32)), (3, .wrD (4 * q.toNat + 1) (v.extractLsb' 32 32)),
      (3, .wrD (4 * q.toNat + 2) ((v.extractLsb' 64 16).signExtend 32))]
  | .acrnd acs sh dd => [(3, .wrD dd.toNat (accStore (accShift (r.rac acs.toNat).toInt sh.toInt)))]
  | .alu op dd da db imm =>
    let x := aluResult op (r.rd da.toNat) (r.operandB db imm)
    [(2, .wrD dd.toNat x.1), (2, .flags x.2.z x.2.n x.2.c x.2.v)]
  | .abs dd da =>
    let x := absResult (r.rd da.toNat)
    [(2, .wrD dd.toNat x.1), (2, .flags x.2.z x.2.n x.2.c x.2.v)]
  | .cmp da db imm =>
    let f := subFlags (r.rd da.toNat) (r.operandB db imm)
    [(2, .flags f.z f.n f.c f.v)]
  | .movfx dd xa => [(2, .wrD dd.toNat (r.rx xa.toNat))]
  | .movtx xd da =>
    [(2, if xd.toNat < 8 then .wrA xd.toNat (r.rd da.toNat) else .wrMd (xd.toNat - 8) (r.rd da.toNat))]

/-- The write of a literal (06 R169). -/
def litRetire (dest : LitDest) (v : W32) : Retire :=
  match dest with
  | .d i => .wrD i.toNat v
  | .a i => .wrA i.toNat v
  | .md i => .wrMd i.toNat v

/-- A word written to an extended register. -/
def xRetire (i : Nat) (v : W32) : Retire := if i < 8 then .wrA i v else .wrMd (i - 8) v

/-- The register results of a load from the memory that the bundle sees, and the stores of a store (06 Table 6-5). -/
def State.lsResults (s : State) (n : Nat) (r : RegSet) (o : LsOp) (a : Nat) : List Retire :=
  match o with
  | .nop => []
  | .ldw i _ _ => [.wrD i.toNat (s.coreLoad n a)]
  | .ldl i _ _ => [.wrD (2 * i.toNat) (s.coreLoad n a), .wrD (2 * i.toNat + 1) (s.coreLoad n (a + 4))]
  | .ldx i _ _ => [xRetire i.toNat (s.coreLoad n a)]
  | .stw i _ _ => [.store a (r.rd i.toNat)]
  | .stl i _ _ => [.store a (r.rd (2 * i.toNat)), .store (a + 4) (r.rd (2 * i.toNat + 1))]
  | .stx i _ _ => [.store a (r.rx i.toNat)]
  | .stac ac sh _ _ => [.store a (accStore (accShift (r.rac ac.toNat).toInt sh.toNat))]

/-- The results of the control slot (06 Table 6-7): the link register and LDA. -/
def ctlResults (b : Bundle) (pc : Nat) : List (Nat × Retire) :=
  match b.ctl with
  | .call _ dl => [(2, .wrD dl.toNat (w32 ((pc + 3) % 8192)))]
  | .lda an imm => [(2, .wrA an.toNat (imm.zeroExtend 32))]
  | .cnop => []
  | .br _ _ => []
  | .loopi _ _ => []
  | .loopr _ _ => []

/-- The stall cycles of a bundle: one for a bank conflict, 46 for each direct access to the Basin (05 R129). -/
def stallCycles (acc : List (LsOp × Nat × Nat × Option W32)) : Nat :=
  let gen := (acc.filter (fun a => decide (a.2.2.1 < 0x37000))).map (fun a => a.2.2.1 / 8 % 8)
  let conflict : Bool := match gen with
    | [x, y] => x == y
    | _ => false
  46 * (acc.filter (fun a => isBasin a.2.2.1)).length + (if conflict then 1 else 0)

/-- Loop levels and the next bundle after a bundle at pc: LEXIT, the opening of a level, and the end of an iteration
(06 R175, R177). -/
def nextInLoops (loops : List Loop) (pc : Nat) (lexit : Bool) (opens : Option (Nat × Nat)) : List Loop × Nat :=
  let l1 := match lexit, loops with
    | true, l :: t => { l with left := 1 } :: t
    | true, [] => []
    | false, l => l
  let seq := (pc + 1) % 8192
  let i := l1.findIdx (fun l => l.last == pc)
  let r := match l1[i]? with
    | none => (l1, seq)
    | some l =>
      if l.left ≤ 1 then (l1.drop (i + 1), seq)
      else (l1.set i { l with left := l.left - 1 }, l.first)
  match opens with
  | some (k, e) => (⟨seq, e, k⟩ :: r.1, r.2)
  | none => r

/-- The effect of a bundle that does not trap. v is the state that it sees; s the state that it changes. -/
def State.bundleEffect (s v : State) (n : Nat) (b : Bundle) : State :=
  let c := s.core n
  let r := (v.core n).regs
  let sat := (v.core n).sat
  let sh := c.handler.isSome
  let acc := b.accesses r
  let mk (lat rank : Nat) (x : Retire) : InFlight := ⟨c.cyc + lat, c.issue, rank, sh, false, x⟩
  let ctl := (ctlResults b c.pc).map (fun x => mk x.1 0 x.2)
  let litRank := if Config.freeBool s.fresh then 2 else 0
  let lit := match b with
    | .lit _ d w => [mk 2 litRank (litRetire d w)]
    | .full _ _ _ _ => []
    | .long _ _ _ => []
  let mac := (macResults b.mac r c.pc).map (fun x => mk x.1 1 x.2)
  let slot := (acc.zipIdx).map (fun e =>
    let rank := if b.ls.head?.bind (·.addr) == none then 3 else 2 + e.2
    (rank, e.1, v.lsResults n r e.1.1 e.1.2.2.1))
  let regLs := slot.flatMap (fun e => e.2.2.filterMap (fun x => match x with
    | .store _ _ => none
    | .wrD _ _ => some (mk 2 e.1 x)
    | .wrA _ _ => some (mk 2 e.1 x)
    | .wrMd _ _ => some (mk 2 e.1 x)
    | .flags _ _ _ _ => none
    | .acSet _ _ _ => none
    | .acAdd _ _ _ => none))
  let post := slot.flatMap (fun e => match e.2.1.2.2.2 with
    | some w => [mk 1 e.1 (.wrA e.2.1.2.1 w)]
    | none => [])
  let stores := slot.flatMap (fun e => e.2.2.filterMap (fun x => match x with
    | .store a w => some (e.1, a, w)
    | .wrD _ _ => none
    | .wrA _ _ => none
    | .wrMd _ _ => none
    | .flags _ _ _ _ => none
    | .acSet _ _ _ => none
    | .acAdd _ _ _ => none))
  let far := stores.filter (fun e => isBasin e.2.1)
  let near := (stores.filter (fun e => !isBasin e.2.1)).map (fun e => mk 2 e.1 (.store e.2.1 e.2.2))
  let stalls := stallCycles acc
  let nl := nextInLoops c.regs.loops c.pc (b.short == .lexit) (b.loop r)
  let next := match c.br with
    | some x => if x.slots = 1 then (if x.taken then x.target else nl.2) else nl.2
    | none => nl.2
  let br := match c.br with
    | some x => if x.slots = 1 then none else some { x with slots := x.slots - 1 }
    | none => (b.branch r sat).map (fun x => ⟨x.1, 2, x.2⟩)
  let used := 1 + stalls
  let c1 := c.setRegs sh { c.regs with loops := nl.1 }
  let c2 := { c1 with
    infl := c1.infl ++ ctl ++ lit ++ mac ++ regLs ++ post ++ near
    pc := next
    br := br
    cyc := c.cyc + 1
    issue := c.issue + 1
    stripCyc := if c.ph == .strip then c.stripCyc + used else c.stripCyc
    postCyc := if c.ph == .post then c.postCyc + used else c.postCyc }
  let c3 := if stalls = 0 then c2 else c2.stall
  let s1 := far.foldl (fun s e => s.busWrite e.2.1 (wordBytes e.2.2)) (({ s with fresh := s.fresh + 1 }).setCore n c3)
  let bad := match b.ctl with
    | .loopr dc _ => (r.rd dc.toNat) == 0
    | .cnop => false
    | .br _ _ => false
    | .call _ _ => false
    | .loopi _ _ => false
    | .lda _ _ => false
  if bad then s1.hostError (.core n)
  else
    match b.short with
    | .yield => s1.endPhase n
    | .reti =>
      let d := s1.core n
      s1.setCore n { d.stall with
        handler := none
        pc := d.retPc
        stripCyc := if d.ph == .strip then d.stripCyc + 3 else d.stripCyc
        postCyc := if d.ph == .post then d.postCyc + 3 else d.postCyc }
    | .cnop => s1
    | .lexit => s1
    | .jr _ => s1

/-- A core issues a bundle: due results retire, the bundle traps or takes effect. A core that fetches nothing is left
alone. -/
def State.issue (s : State) (n : Nat) (b : Bundle) : State :=
  if (s.core n).active then
    let s1 := s.retireDue n
    let v := s1.view n
    match v.1.trapOf n b (v.1.core n) with
    | some cause => v.2.ventTrap n cause
    | none => v.2.bundleEffect v.1 n b
  else s

/-- The bundle that a core's instruction memory holds at its program counter (06 R160). -/
def State.fetchBundle (s : State) (n : Nat) : Option Bundle :=
  let a := instBase n + 8 * (s.core n).pc
  decodeBundle (memReadW s.mem (a + 4) ++ memReadW s.mem a)

/-- An active core fetches its next bundle and issues it; an encoding that spells none traps (06 R161). -/
def State.fetchIssue (s : State) (n : Nat) : State :=
  if (s.core n).active then
    match s.fetchBundle n with
    | some b => s.issue n b
    | none => (s.retireDue n).ventTrap n 1
  else s

/-- Every active core issues its next bundle: what the block does when no command waits (log 1). -/
def State.idle (s : State) : State := (List.range 64).foldl (fun s n => s.fetchIssue n) s

/-! ## Interrupts and transfers (05 R131, R145, R146) -/

/-- The bit and handler vector of each source, in the order in which they are taken: TRIG, PARAM, XFER. -/
def vectors : List (Nat × Nat) := [(2, 0x0018), (1, 0x0010), (4, 0x0020)]

/-- A core takes a pending, enabled interrupt at a bundle boundary outside delay slots. -/
def State.takeInterrupt (s : State) (n : Nat) : State :=
  let c := s.core n
  if c.st != .running || c.handler.isSome || c.br.isSome then s
  else
    match vectors.find? (fun v => (c.intPend &&& c.intEn &&& v.1) != 0) with
    | none => s
    | some v =>
      s.setCore n { c.stall with
        intPend := c.intPend &&& (7 - v.1)
        handler := some v.2
        retPc := c.pc
        pc := v.2
        stripCyc := if c.ph == .strip then c.stripCyc + 3 else c.stripCyc
        postCyc := if c.ph == .post then c.postCyc + 3 else c.postCyc }

/-- The words of a transfer, its internal address and its local byte address (05 Table 5-4). -/
def Xfer.words (x : Xfer) : Nat := fld x.ctl 29 16

def Xfer.remote (x : Xfer) : Nat := fld x.ctl 7 0 * 2 ^ 32 + x.remLo.toNat

def Xfer.start (x : Xfer) : Nat := fld x.localA 17 0

/-- Moves k words of a transfer. -/
def State.moveXfer (s : State) (n : Nat) (x : Xfer) (k : Nat) : State :=
  if bit x.ctl 31 then s.busWrite x.remote (memReads s.mem (dataBase n + x.start) (4 * k))
  else { s with mem := memWrites s.mem (dataBase n + x.start) (s.busBytes x.remote (4 * k)) }

/-- A transfer breaks the ranges of 05 Table 5-4. -/
def Xfer.bad (x : Xfer) : Bool :=
  x.start % 4 != 0 || x.remLo.toNat % 4 != 0 || x.words == 0 || 14336 < x.words || 0x37000 < x.start + 4 * x.words ||
    fld x.localA 31 18 != 0 || fld x.ctl 15 8 != 0

/-- A transfer ends: complete, or at an error response after a free number of its words (05 R131). -/
def State.endXfer (s : State) (n i : Nat) (err : Bool) : State :=
  let x := (s.core n).xfers.getD i Xfer.init
  if !x.busy then s
  else if x.bad then s.hostError (.core n)
  else
    let wr := bit x.ctl 31
    let open' := s.permits (coreMaster n) x.remote wr && s.permits (coreMaster n) (x.remote + 4 * x.words - 4) wr
    let fail := err || !open'
    let moved := if fail then Config.freeNat s.fresh % x.words else x.words
    let s1 := ({ s with fresh := s.fresh + 1 }).moveXfer n x (if open' then moved else 0)
    let c := s1.core n
    let c1 := { c with xfers := c.xfers.set i { x with busy := false, err := fail } }
    let s2 := s1.setCore n (if bit x.ctl 30 then c1.request 4 else c1)
    if !fail then s2
    else if open' then s2.raise 0x02 (coreMaster n) 0x04 x.remLo
    else s2.busDecode (coreMaster n) x.remote

end Sys2Proof.Machine
end

