-- ==== Sys2Proof/Machine/Fault.lean ====
section
/-! DEFINITION. The Fumarole's commands (16): status, history, journal, clearing with the causes that are still present,
reactions, the messages of memories whose errors no other row reports, and the first-fault record's closing. -/

namespace Sys2Proof.Machine
open Sys2Proof

/-! ## Causes that are present (16 Table 16-3, R446) -/

/-- The reference, rank, stage or core of an entry still shows its cause; the result is the CONTEXT computed afresh. Fields
that the present state does not tell, such as which of two conditions put a group into FAULT, are those of the entry's
opening message (log 35). -/
def State.causePresent (s : State) (e : ActEntry) : Option W32 :=
  let i := e.inst
  let ctx := e.opening.msgL
  let t16 := s.tick16
  let beyond (c : Bool) (w : W32) : Option W32 := if c then some w else none
  match e.kind with
  | 0x07 => beyond ((s.chanD i).st == .halted) (w32 (s.chanD i).errAddr)
  | 0x0C => beyond ((s.rxSlot i).st == .lost) (w32 t16)
  | 0x0D =>
    beyond (if i < 32 then (s.tport i).muteFrom.isSome else (s.tgroup (i - 32)).st == .search) (pack [(fld ctx 27 24, 24), (t16, 0)])
  | 0x0F => beyond ((s.gch i).st == .latched) (pack [((s.gch i).cause, 24), (t16, 0)])
  | 0x10 => beyond (!s.laneLocked i || (s.ggroup i).psFlt || (s.ggroup i).st == .fault) ctx
  | 0x11 => beyond ((s.gch i).st == .latched) (w32 (s.gch i).result)
  | 0x12 => beyond ((s.ggroup i).st == .fault) ctx
  | 0x13 => beyond ((s.rfc i).q != .qualified) (pack [((s.rfc i).cause, 24), (t16, 0)])
  | 0x14 => (kget s.ref.disagree i).map w32
  | 0x15 => beyond (s.dpll i).expired (w32 (min 0xFFFFFFFF ((s.time.mono - (s.dpll i).entered) / 1000000)))
  | 0x16 => beyond ((s.inst i).st != .slave) (pack [(fld ctx 27 24, 24), (t16, 0)])
  | 0x17 => beyond (!s.pair.linkUp) (pack [(fld ctx 27 24, 24), (t16, 0)])
  | 0x18 => beyond (decide (s.pair.lastKa.getD s.pair.startSince + 2000 ≤ s.time.mono)) (w32 t16)
  | 0x19 => beyond s.pair.mismatching (w32 ((s.pair.lastMismatch.toNat + 65536 + 1 - s.pair.runLength % 65536) % 65536))
  | 0x1B => beyond ((s.core i).st == .halted) (pack [(fld ctx 24 24, 24), ((s.core i).haltPc, 0)])
  | 0x1C => beyond ((s.core i).st == .halted) (pack [((s.core i).trap, 24), ((s.core i).haltPc, 0)])
  | 0x1D =>
    if e.src == 5 then beyond (s.cald.sat.contains i) s.tick32
    else beyond ((s.core i).sat % 16 != 0) (pack [((maskBits 4 (s.core i).sat).headD 0, 16), (fld ctx 15 0, 0)])
  | 0x1E =>
    let x := s.sys.sensors.getD i Sensor.init
    beyond x.warn (pack [(code 16 x.now, 0)])
  | 0x25 => beyond (!s.host.linkUp) 0
  | _ => none

/-! ## FAULT_CLEAR and FAULT_REACTION -/

/-- The selector of 16 Table 16-10. -/
def clearMatches (w : W32) (e : ActEntry) : Bool :=
  (bit w 5 || e.src == fld w 31 24) && (bit w 4 || e.kind == fld w 23 16) && (bit w 3 || e.inst == fld w 15 8)

/-- The block raises a closed entry's fault again, with the boundary's stamp. -/
def State.reassert (s : State) (e : ActEntry) : State × Nat :=
  match s.causePresent e with
  | none => (s, 0)
  | some c => (s.raiseWith (boundaryNs s.time.tick) e.src e.inst e.kind c (defaultClass e.src e.kind) false, 1)

/-- The flags FIRST, COUNTS and HISTORY (16 R446). -/
def FltSt.clearParts (f : FltSt) (w : W32) : FltSt :=
  let f1 := if bit w 2 then { f with first := none, firstOpen := false } else f
  let f2 := if bit w 1 then { f1 with corrCount := 0, hasCorr := false, histLost := false, actLost := false, evtLost := false } else f1
  if bit w 0 then { f2 with hist := [] } else f2

/-- FAULT_CLEAR (16 R446): the flags act, matching entries close, and those whose cause is present open again. -/
def applyFaultClear (p : List W32) (s : State) : Ans :=
  let w := pw p 3
  if fld w 7 6 != 0 then .ok (s.hostError .reactions)
  else
    let closed := s.flt.active.filter (clearMatches w)
    let f := s.flt.clearParts w
    let s1 := { s with flt := { f with active := f.active.filter (fun e => !clearMatches w e) } }.notice 0x81 w
    let r := closed.foldl (fun (a : State × Nat) e => let b := a.1.reassert e; (b.1, a.2 + b.2)) (s1, 0)
    .okData [pack [(r.2, 16), (closed.length, 0)]] r.1

/-- Kinds whose class cannot be lowered (16 R439). -/
def classFixed (src kind : Nat) : Bool := kind ∈ [0x1F, 0x20, 0x21, 0x23, 0x24] || (kind == 2 && src == 1)

/-- A source code of 16 Table 16-2, or every source. -/
def isSource (src : Nat) : Bool := decide (1 ≤ src ∧ src ≤ 0x15) || src == 0xFF

/-- An entry that differs from the defaults of 16 Tables 16-3 and 16-5. -/
def ReactEntry.differs (e : ReactEntry) : Bool :=
  e.cls != defaultClass e.src e.kind || e.event != (e.cls != 1) || !e.irq || e.hist != (e.cls != 1)

/-- FAULT_REACTION (16 R439). -/
def applyFaultReaction (p : List W32) (s : State) : Ans :=
  let w := pw p 3
  let src := fld w 31 24
  let kind := fld w 23 16
  let cls := fld w 7 6
  if fld w 15 8 != 0 || fld w 2 0 != 0 || !isSource src || kind == 0 || 0x25 < kind then .ok (s.hostError .reactions)
  else if (cls == 1 || cls == 2) && classFixed src kind then .refuse stState s
  else
    let rest := s.flt.reacts.filter (fun e => !(e.src == src && e.kind == kind))
    let l := if cls = 0 then rest else rest ++ [⟨src, kind, cls, bit w 5, bit w 4, bit w 3⟩]
    if 64 < (l.filter ReactEntry.differs).length then .refuse stResource s
    else .ok ({ s with flt := { s.flt with reacts := l } }.notice 0x82 w)

/-! ## Queries -/

/-- An open entry as FAULT_STATUS lists it (16 R445). -/
def ActEntry.words (e : ActEntry) : List W32 := [e.opening.msgH, e.opening.msgL, e.opening.stamp, pack [(e.occur, 0)]]

/-- FAULT_STATUS (16 R445). -/
def queryFaultStatus (_ : List W32) (s : State) : Ans :=
  .okData ([s.flt.status] ++ s.flt.firstWords ++ [w32 s.flt.active.length] ++ (s.flt.active.take 253).flatMap ActEntry.words) s

/-- FAULT_HISTORY (16 R447). -/
def queryFaultHistory (p : List W32) (s : State) : Ans :=
  let w := pw p 3
  if fld w 30 0 != 0 then .ok (s.hostError .reactions)
  else
    let d := [pack [(s.flt.hist.length, 0), (b2n s.flt.histLost, 6)]] ++ s.flt.hist.flatMap (fun (r : HistRec) => r.entry.words)
    .okData d (if bit w 31 then { s with flt := { s.flt with hist := s.flt.hist.map (fun (r : HistRec) => { r with seen := true }) } } else s)

/-- The journal's records from number n on, at most count, as long as they are held. -/
def FltSt.recordsFrom (f : FltSt) (n : W32) (count : Nat) : List FltRec :=
  let left := (f.next - n).toNat
  if 2 ^ 31 ≤ left then [] else (List.range (min count left)).filterMap (fun k => f.recordAt (n + w32 k))

/-- JOURNAL_READ (16 R450). -/
def queryJournalRead (p : List W32) (s : State) : Ans :=
  let w := pw p 4
  let n := fld w 7 0
  if fld w 31 8 != 0 || n = 0 then .ok (s.hostError .journal)
  else
    let old := s.flt.next - 4096
    let first := if (pw p 3 - old).toNat < 2 ^ 31 then pw p 3 else old
    let l := s.flt.recordsFrom first n
    .okData ([s.flt.next, w32 l.length] ++ l.flatMap FltRec.words) s

/-! ## Messages of memories (05 R149, 04 R124, 10 R289, 03 R78) -/

/-- What the unit that a memory error names does with it, before the Fumarole's reaction. -/
def State.contain (s : State) (m : FaultMsg) : State :=
  match m.source, m.kind with
  | 0x04, 1 => s.setCore m.inst { s.core m.inst with eccCorr := min 65535 ((s.core m.inst).eccCorr + 1) }
  | 0x04, 2 => (s.retireAll m.inst).stopCore m.inst (s.classNow 4 2 != 1)
  | 0x05, 2 =>
    s.onCald (fun c => { c with
      active := kdel c.active (xpKey m.inst (m.ctx.toNat % 2048))
      mutedBus := m.inst :: c.mutedBus })
  | 0x07, 1 => s.countPort (m.inst / 16) 47 1
  | 0x07, 2 => if m.inst < 48 then s.queueEcc m.inst else s
  | 0x11, 2 =>
    let hit := s.route.slots.filter (fun (x : Slot) => x.num == m.ctx.toNat / slotBytes)
    { s with aud := { s.aud with muted := s.aud.muted ++ hit.map (fun (x : Slot) => x.sink) } }
  | _, _ => s

/-- A message that 16 Tables 16-2 and 16-3 allow. -/
def FaultMsg.sendable (m : FaultMsg) : Bool :=
  decide (1 ≤ m.source ∧ m.source ≤ 0x15 ∧ m.inst < 256 ∧ 1 ≤ m.kind ∧ m.kind ≤ 0x25) && m.kind != 0x0A

/-! ## The meanings of the rows -/

def execFaultStatus (h : CmdHead) (p : List W32) (s : State) : Host.Outcome State Fault Refusal := .next (s.query 0x90 h p queryFaultStatus)

def execFaultHistory (h : CmdHead) (p : List W32) (s : State) : Host.Outcome State Fault Refusal := .next (s.query 0x91 h p queryFaultHistory)

def execFaultClear (st : Stage) (p : List W32) (s : State) : Host.Outcome State Fault Refusal := .next (s.command 0x92 st p applyFaultClear)

def execFaultReaction (st : Stage) (p : List W32) (s : State) : Host.Outcome State Fault Refusal := .next (s.command 0x93 st p applyFaultReaction)

def execJournalRead (h : CmdHead) (p : List W32) (s : State) : Host.Outcome State Fault Refusal := .next (s.query 0x94 h p queryJournalRead)

/-- The Fumarole receives a message (16 R437) whose unit contains the error as its chapter states. -/
def execFaultMessageReceive (t : Nat) (m : FaultMsg) (s : State) : Host.Outcome State Fault Refusal :=
  let s := s.goto t
  .next (if m.sendable then (s.contain m).raise m.source m.inst m.kind m.ctx else s)

/-- 16 R443: 200 ns after the last replacement. -/
def execFirstFaultClose (t : Nat) (s : State) : Host.Outcome State Fault Refusal :=
  let s := s.goto t
  .next (if s.flt.firstOpen && decide (s.flt.firstAt + 200 ≤ s.now) then { s with flt := { s.flt with firstOpen := false } } else s)

end Sys2Proof.Machine
end

