-- ==== Sys2Proof/Machine/Vent.lean ====
section
/-! DEFINITION. The commands that load, start, stop and map the Vent cores (05 R132, R150-R156), the start of a phase with
its input frames (05 R133, R134), what the cut-off and the deadlines do to the cores (05 R136, R145, R155), and the rows
that name a core. -/

namespace Sys2Proof.Machine
open Sys2Proof

/-! ## States of a core -/

/-- The state of a core once what VENT_STOP and VENT_START have ordered is done (05 R154). -/
def Core.shown (c : Core) : CoreMode :=
  match c.sched.getLast? with
  | some (_, .stop) => .stopped
  | some (_, .resume) => .running
  | some (_, .fresh) => .running
  | none => c.st

/-- The control page at its reset values (05 Table 5-3, R151). -/
def Core.clearPage (c : Core) : Core :=
  { c with
    intEn := 0
    intCause := 0
    intPend := 0
    xfers := List.replicate 4 Xfer.init
    tick := 0
    ns1 := 0
    ns2 := 0
    ns4 := 0
    phaseBit := false
    inBase := 0x38000
    outBase := 0x3C000
    sat := 0 }

/-- Both register sets, the loop state, SAT and the control page are cleared (05 R151, R154). -/
def Core.clearRegs (c : Core) : Core := { c.clearPage with main := RegSet.init, shadow := RegSet.init, infl := [], br := none }

/-- A core stops where it stands. -/
def Core.still (c : Core) (st : CoreMode) : Core := { c with st := st, ph := .idle, handler := none, br := none, sched := [] }

/-- An ordered change comes due at the cut-off of its tick's data. -/
def State.turn (s : State) (n : Nat) (k : Turn) : State :=
  let s1 := s.retireAll n
  let c := s1.core n
  match k with
  | .stop => s1.setCore n { c with st := .stopped, ph := .idle, handler := none, br := none }
  | .resume => s1.setCore n { c with st := .running, ph := .idle, handler := none, br := none }
  | .fresh => s1.setCore n { c.clearRegs with st := .running, ph := .idle, handler := none }

def State.takeTurns (s : State) (n d : Nat) : State :=
  let due := (s.core n).sched.filter (fun e => decide (e.1 ≤ d))
  let s1 := due.foldl (fun s e => s.turn n e.2) s
  let c := s1.core n
  s1.setCore n { c with sched := c.sched.filter (fun e => !(decide (e.1 ≤ d))) }

/-! ## Commands -/

/-- The cores that a range word names (05 Table 5-9); none with LAST < FIRST. -/
def rangeCores (w : W32) : List Nat := span (fld w 13 8) (fld w 5 0)

/-- Reserved bits of the range word, or LAST < FIRST (05 R152). -/
def rangeBad (w : W32) : Bool := fld w 30 14 != 0 || fld w 7 6 != 0 || fld w 5 0 < fld w 13 8

/-- The blocks that a bad range word affects. -/
def rangeBlks (w : W32) : List Blk := ((rangeCores w ++ [fld w 13 8]).eraseDups).map Blk.core

def State.coresOff (s : State) (l : List Nat) : Bool := l.any (fun n => !s.islandOn (coreIsland n))

def State.anyCore (s : State) (l : List Nat) (p : CoreMode → Bool) : Bool := l.any (fun n => p (s.core n).shown)

/-- A change of state of each core of a range. -/
def State.mapCores (s : State) (l : List Nat) (f : Core → Core) : State :=
  { s with vent := { s.vent with cores := s.vent.cores.mapIdx (fun i c => if l.contains i then f c else c) } }

/-- VENT_LOAD (05 R153). -/
def applyVentLoad (p : List W32) (s : State) : Ans :=
  let w3 := pw p 3
  let l := rangeCores w3
  let data := bit w3 31
  let off := fld (pw p 4) 17 0
  let ws := p.drop 2
  let bad := rangeBad w3 || fld (pw p 4) 31 18 != 0 ||
    (if data then off % 4 != 0 || 0x37000 < off + 4 * ws.length else off % 8 != 0 || 0x10000 < off + 4 * ws.length)
  if s.coresOff l || s.anyCore l (· == .running) then .refuse stState s
  else if bad then .ok (s.hostErrors (rangeBlks w3))
  else
    let mem := l.foldl (fun m n => memWriteWs m ((if data then dataBase n else instBase n) + off) ws) s.mem
    .ok (({ s with mem := mem }).mapCores l (fun c => if c.shown == CoreMode.stopped then c else c.still CoreMode.stopped))

/-- VENT_START (05 R154). -/
def applyVentStart (p : List W32) (s : State) : Ans :=
  let w3 := pw p 3
  let l := rangeCores w3
  let t := s.time.tick
  if s.coresOff l || s.anyCore l (· == .empty) then .refuse stState s
  else if rangeBad w3 then .ok (s.hostErrors (rangeBlks w3))
  else
    .ok (s.mapCores l (fun c =>
      if c.shown == .running then c
      else if bit w3 31 then { c with sched := c.sched ++ [(t, .resume)] }
      else
        let d := if c.st == .running then c else c.clearRegs
        { d with sched := c.sched ++ [(t, .fresh)] }))

/-- VENT_STOP (05 R154). An EMPTY core stays EMPTY, which only VENT_LOAD ends (05 Table 5-8). -/
def applyVentStop (p : List W32) (s : State) : Ans :=
  let w3 := pw p 3
  let l := rangeCores w3
  let t := s.time.tick
  if s.coresOff l then .refuse stState s
  else if rangeBad w3 || bit w3 31 then .ok (s.hostErrors (rangeBlks w3))
  else
    .ok (s.mapCores l (fun c =>
      match c.shown with
      | .empty => c
      | .stopped => c
      | .running => { c with sched := c.sched ++ [(t, .stop)] }
      | .halted => c.still .stopped))

/-- VENT_PARAM_WRITE (05 R155). -/
def applyVentParamWrite (p : List W32) (s : State) : Ans :=
  let w3 := pw p 3
  let l := rangeCores w3
  let t := s.time.tick
  let off := fld (pw p 4) 17 0
  let ws := p.drop 2
  let used (c : Core) : Nat := if c.paramWords.1 = t then c.paramWords.2 else 0
  let bad := rangeBad w3 || fld (pw p 4) 31 18 != 0 || off % 4 != 0 || 0x37000 < off + 4 * ws.length
  if s.coresOff l || s.anyCore l (· == .empty) then .refuse stState s
  else if l.any (fun n => 4096 < used (s.core n) + ws.length) then .refuse stResource s
  else if bad then .ok (s.hostErrors (rangeBlks w3))
  else
    .ok (s.mapCores l (fun c => { c with
      params := c.params ++ [(⟨t, off, ws, bit w3 31⟩ : ParamWr)]
      paramWords := (t, used c + ws.length) }))

/-- The four words of a core (05 Table 5-10). -/
def Core.statusWords (c : Core) : List W32 :=
  let cap (x : Nat) : Nat := min 65535 x
  [pack [(c.shown.code, 28), (c.sat % 16, 24), (c.trap % 256, 16), (c.haltPc, 0)],
    pack [(cap c.lastStrip, 16), (cap c.lastPost, 0)],
    pack [(cap c.stripMax, 16), (cap c.postMax, 0)],
    pack [(cap c.overruns, 16), (cap c.eccCorr, 0)]]

/-- VENT_STATUS (05 R156). -/
def queryVentStatus (p : List W32) (s : State) : Ans :=
  let w3 := pw p 3
  let l := rangeCores w3
  if s.coresOff l then .refuse stState s
  else if rangeBad w3 then .ok (s.hostErrors (rangeBlks w3))
  else
    let d := l.flatMap (fun n => (s.core n).statusWords)
    .okData d (if bit w3 31 then s.mapCores l (fun c =>
      { c with stripMax := 0, postMax := 0, overruns := 0, eccCorr := 0, sat := 0 }) else s)

/-- A word of VENT_MAP (05 Table 5-5). -/
structure MapWord where
  output : Bool
  slot : Nat
  unmap : Bool
  bind : SlotMap
  bad : Bool

def mapWord (w : W32) : MapWord :=
  let out := bit w 31
  let slot := fld w 10 0
  { output := out
    slot := slot
    unmap := bit w 13
    bind := ⟨out, slot, fld w 27 22, fld w 21 14, bit w 30, fld w 29 28⟩
    bad := fld w 12 11 != 0 || (!bit w 13 && fld w 29 28 == 3) }

/-- The slot map with one entry bound or removed. -/
def setSlot (l : List SlotMap) (m : MapWord) : List SlotMap :=
  let rest := l.filter (fun e => !(e.output == m.output && e.slot == m.slot))
  if m.unmap then rest else rest ++ [m.bind]

/-- A core holds at most 256 slots of each direction (05 R132). -/
def mapFits (l : List SlotMap) : Bool :=
  (List.range 64).all (fun n => [true, false].all (fun o =>
    decide ((l.filter (fun e => e.core == n && e.output == o)).length ≤ 256)))

/-- VENT_MAP (05 R132): whole, then the sinks whose assignment changed start anew (03 R552). -/
def applyVentMap (p : List W32) (s : State) : Ans :=
  let w3 := pw p 3
  let l := (p.drop 1).map mapWord
  let bad := fld w3 31 11 != 0 || fld w3 10 0 == 0 || 1020 < fld w3 10 0 || l.length != fld w3 10 0 || l.any (·.bad)
  if l.any (fun m => !m.unmap && !s.islandOn (coreIsland m.bind.core)) then .refuse stState s
  else if bad then .ok (s.hostError .vmap)
  else
    let map := l.foldl setSlot s.vent.vmap
    if mapFits map then ({ s with vent := { s.vent with vmap := map } }).reassign s else .refuse stResource s

/-- BLOCK_RESET of a core (05 R151). -/
def State.resetCore (s : State) (n : Nat) : State :=
  let s1 := s.abandonOuts n
  (s1.setCore n ({ (s1.core n).clearRegs with params := [], trig := [] }.still .stopped)).predictable [.core n]

/-- The cores of a cluster whose island comes on are EMPTY, with neither memory retained (05 R158, Table 5-8). -/
def State.emptyCluster (s : State) (k : Nat) : State :=
  let l := span (16 * k) (16 * k + 15)
  let mem := l.foldl (fun m n => memClear (memClear m (dataBase n) (dataBase n + 0x40000)) (instBase n) (instBase n + 0x10000)) s.mem
  (({ s with mem := mem }).mapCores l (fun _ => Core.init)).predictable (l.map Blk.core)

/-! ## The start of a phase (05 R133, R134) -/

/-- The input slots of a core's phase. -/
def State.inSlots (s : State) (n : Nat) (post : Bool) : List SlotMap :=
  s.vent.vmap.filter (fun e => !e.output && e.core == n && e.post == post)

/-- The sources that sound at a sink: its entry's and those of its outgoing set. -/
def RouteBlk.sources (r : RouteBlk) (sink : Nat) : List Nat :=
  ((r.entry sink).map (·.src)).toList ++ (r.terms sink).map (·.src)

/-- Every input slot of the phase is present (05 R134, R135). -/
def State.inputsReady (s : State) (n : Nat) (post : Bool) : Bool :=
  (s.inSlots n post).all (fun e => (s.route.sources (0x7000 + e.slot)).all (fun src =>
    s.isFeedback (0x7000 + e.slot) src || s.srcPresent src))

/-- The feed writes the samples of the phase's input slots into the core's frame (05 R133). -/
def State.fillFrame (s : State) (n : Nat) (post : Bool) : State :=
  (s.inSlots n post).foldl (fun s e =>
    let r := s.runSink (0x7000 + e.slot)
    let a := dataBase n + (r.2.core n).inBase + 32 * e.idx
    { r.2 with mem := memWriteWs r.2.mem a (r.1.map (BitVec.ofInt 32)) }) s

/-- A core that waits for a phase enters it once its handlers have run and its inputs are present. -/
def State.startPhase (s : State) (n : Nat) (post : Bool) : State :=
  let c := s.core n
  let waits := c.st == .running && c.ph == (if post then CorePhase.waitPost else .waitStrip) && c.handler.isNone &&
    (c.intPend &&& c.intEn &&& 7) == 0
  if waits && s.inputsReady n post then
    let s1 := s.fillFrame n post
    let d := s1.core n
    s1.setCore n { d with
      ph := if post then .post else .strip
      pc := if post then 8 else 0
      phaseBit := post }
  else s

/-! ## Cut-off and deadlines -/

/-- A parameter write lands (05 R155). -/
def State.landParams (s : State) (n d : Nat) : State :=
  let c := s.core n
  let due := c.params.filter (fun w => decide (w.tick ≤ d))
  let mem := due.foldl (fun m w => memWriteWs m (dataBase n + w.off) w.words) s.mem
  let c1 := { c with params := c.params.filter (fun w => !(decide (w.tick ≤ d))) }
  ({ s with mem := mem }).setCore n (if due.any (·.notify) then c1.request 1 else c1)

/-- A core at the cut-off of tick d's data: ordered changes, parameters, triggers, the page's words, and the phases of the
tick ahead. A trigger that names a stopped core starts it fresh (05 R145). -/
def State.coreCutoff (s : State) (d n : Nat) : State :=
  let s0 := s.takeTurns n d
  let fired := !(s0.core n).trig.isEmpty
  let c0 := { s0.core n with trig := [] }
  let s1 := s0.setCore n c0
  let s2 := if fired && c0.st == .stopped then s1.turn n .fresh else s1
  let s3 := s2.landParams n d
  let c3 := s3.core n
  let c4 := if fired && c0.st == .running then c3.request 2 else c3
  if c4.st != .running || pwrOf s3.governing.islands (coreIsland n) != .on then s3.setCore n { c4 with stripCyc := 0, postCyc := 0 }
  else
    let f44 := s3.route.family44
    s3.setCore n { c4 with
      tick := w32 d
      ns1 := tickSamples f44 0 d
      ns2 := tickSamples f44 1 d
      ns4 := tickSamples f44 2 d
      phaseBit := false
      inBase := if d % 2 = 0 then 0x38000 else 0x3A000
      outBase := if d % 2 = 0 then 0x3C000 else 0x3E000
      stripCyc := 0
      postCyc := 0
      stripOver := false
      ph := .waitStrip }

/-- Every mapped output slot of a core that does not run carries zero (05 R150), and of a core whose island is not on. -/
def State.zeroOuts (s : State) (n : Nat) : State :=
  if (s.core n).st == .running && s.islandOn (coreIsland n) then s
  else
    (s.workMap.filter (fun e => e.output && e.core == n)).foldl
      (fun s e => s.putOut e.slot (List.replicate (tickSamples s.route.family44 e.domain s.aud.dataTick) 0)) s

/-- A phase that has not yielded by its deadline (01 R16, 05 R136). -/
def State.overrun (s : State) (n : Nat) (post : Bool) : State :=
  let s1 := s.retireAll n
  let c := s1.core n
  let contained := s1.classNow 0x04 0x1B != 1
  let c1 := { c with overruns := min 65535 (c.overruns + 1) }
  let s2 := s1.setCore n c1
  let s3 :=
    if contained then s2.stopCore n true
    else if post then (s2.repeatOuts n true).setCore n { c1 with ph := .idle, handler := none }
    else (s2.repeatOuts n false).setCore n { c1 with ph := .waitPost, stripOver := true }
  s3.raise 0x04 n 0x1B (pack [(b2n post, 24), (c.pc, 0)])

def Core.late (c : Core) (post : Bool) : Bool :=
  c.st == .running &&
    (if post then c.ph == .waitPost || c.ph == .post else c.ph == .waitStrip || c.ph == .strip)

/-- The cores whose phase overruns at a deadline, in the order of their numbers. -/
def State.deadline (s : State) (post : Bool) : State :=
  (List.range 64).foldl (fun s n => if (s.core n).late post then s.overrun n post else s) s

/-- The tick is over for a core: its cycles become those of the last tick (05 Table 5-10). -/
def Core.endTick (c : Core) : Core :=
  { c with
    lastStrip := c.stripCyc
    lastPost := c.postCyc
    stripMax := max c.stripMax c.stripCyc
    postMax := max c.postMax c.postCyc }

/-! ## The meanings of the rows -/

def execVentLoad (st : Stage) (p : List W32) (s : State) : Host.Outcome State Fault Refusal := .next (s.command 0x50 st p applyVentLoad)

def execVentStart (st : Stage) (p : List W32) (s : State) : Host.Outcome State Fault Refusal := .next (s.command 0x51 st p applyVentStart)

def execVentStop (st : Stage) (p : List W32) (s : State) : Host.Outcome State Fault Refusal := .next (s.command 0x52 st p applyVentStop)

def execVentParamWrite (st : Stage) (p : List W32) (s : State) : Host.Outcome State Fault Refusal := .next (s.command 0x53 st p applyVentParamWrite)

def execVentStatus (h : CmdHead) (p : List W32) (s : State) : Host.Outcome State Fault Refusal := .next (s.query 0x54 h p queryVentStatus)

def execVentMap (st : Stage) (p : List W32) (s : State) : Host.Outcome State Fault Refusal := .next (s.command 0x55 st p applyVentMap)

def execVentStripStart (t core : Nat) (s : State) : Host.Outcome State Fault Refusal :=
  onUnit (core < 64) ((s.goto t).withWork (fun s => s.startPhase core false))

def execVentPostStart (t core : Nat) (s : State) : Host.Outcome State Fault Refusal :=
  onUnit (core < 64) ((s.goto t).withWork (fun s => s.startPhase core true))

def execVentInterruptEntry (t core : Nat) (s : State) : Host.Outcome State Fault Refusal :=
  onUnit (core < 64) ((s.goto t).takeInterrupt core)

/-- 05 R131. -/
def execVentTransferComplete (t core ch : Nat) (err : Bool) (s : State) : Host.Outcome State Fault Refusal :=
  onUnit (core < 64 && ch < 4) ((s.goto t).endXfer core ch err)

/-- A write of GO = 1 to a transfer channel (05 R131, Table 5-4). -/
def execVentTransferGo (core ch : Nat) (s : State) : Host.Outcome State Fault Refusal :=
  onUnit (core < 64 && ch < 4) (s.setCore core ((s.core core).go ch))

def execVentIntCauseClear (core : Nat) (bits : W32) (s : State) : Host.Outcome State Fault Refusal :=
  onUnit (core < 64) (s.setCore core ((s.core core).clearCause bits))

def execVentSatClear (core : Nat) (bits : W32) (s : State) : Host.Outcome State Fault Refusal :=
  onUnit (core < 64) (s.setCore core ((s.core core).clearSat bits))

end Sys2Proof.Machine
end

