-- ==== Sys2Proof/Machine/Power.lean ====
section
/-! DEFINITION. Boot, resets, island power, supplies and temperature (17 R465-R483), and which pins the engine drives. -/

namespace Sys2Proof.Machine
open Sys2Proof

/-! ## Pins (17 R474, 20 R532) -/

/-- The groups of output pins that 17 R474 tells apart. -/
inductive PinGroup where
  | boot | pcie | faultN | owned | other
deriving DecidableEq, Repr, Inhabited

/-- The engine drives a group of pins; modGroup tells which IO supply powers them (20 R532). -/
def State.drives (s : State) (g : PinGroup) (modGroup : Bool) : Bool :=
  let serving := s.sys.phase != .reset && s.sys.phase != .boot
  s.sys.pwrgd && s.sys.phase != .reset && !(if modGroup then s.sys.ioLostMod else s.sys.ioLostA) &&
    (match g with
     | .boot => true
     | .pcie => s.sys.hostSel
     | .faultN => s.sys.faultN
     | .owned => s.pair.owner
     | .other => serving)

/-! ## Resets (17 R473) -/

/-- A cold reset: the flash and the fuses are kept, as is what a factory or a board fixes. -/
def State.coldState (s : State) : State :=
  let z := State.reset
  { z with
    pending := s.pending
    fresh := s.fresh
    out := s.out
    store := { z.store with regions := s.store.regions }
    sys := { z.sys with fuses := s.sys.fuses, grade := s.sys.grade, dieId := s.sys.dieId, extGiB := s.sys.extGiB } }

/-- What a warm reset keeps of the Fumarole (16 R442-R444, R447, R448). -/
def FltSt.warm (f : FltSt) : FltSt := { f with active := [], reacts := [], evtInTick := 0 }

/-- A warm reset of kind 2 (RST_N) or 3 (command): the fault records and the journal are kept as well, and so are the
highest temperatures (17 R482). -/
def State.warmState (s : State) (kind : Nat) : State :=
  let z := s.coldState
  { z with
    flt := s.flt.warm
    host := { z.host with perst := s.host.perst }
    sys := { z.sys with
      resetKind := kind
      ioLostA := s.sys.ioLostA
      ioLostMod := s.sys.ioLostMod
      sensors := s.sys.sensors.map (fun (x : Sensor) => { x with crit := 0, warn := false }) } }

/-- The release of reset: the straps are sampled, BOOT begins, every island is ON but PAIR in the solo role, and the
reset notice is written (16 R449, 17 R469, R475). -/
def State.releaseReset (s : State) (boot role : Nat) (host : Bool) (vddioA : Nat) : State :=
  let s1 := { s with sys := { s.sys with
    phase := .boot
    bootSel := boot % 4
    pairRole := role % 4
    hostSel := host
    pwrgd := true
    ioLostA := false
    ioLostMod := false
    vddioA := if vddioA < 2550 then 1800 else 3300 } }
  let s2 := { s1 with
    sys := { s1.sys with islands := Island.initAll s1.solo s1.sys.extGiB }
    pair := { PairBlk.init with owner := s1.solo } }
  s2.notice 0x80 (if s2.sys.resetKind = 1 then 1 else 2)

/-! ## Boot (17 R467, R470, R471) -/

/-- The download area in the Basin (19 R522). -/
def downloadBase : Nat := 0x20000000

/-- BOOT with SPI download (17 Table 17-5). -/
def State.spiDownload (s : State) : Bool := s.sys.phase == .boot && s.sys.bootSel == 2 && !bit (s.sys.fuses.getD 18 0) 4

/-- Words reach the download area from word offset k; none lie beyond it. -/
def State.download (s : State) (k : Nat) (ws : List W32) : State :=
  let fit := ws.take (0x300000 - k)
  { s with
    mem := memWriteWs s.mem (downloadBase + 4 * k) fit
    sys := { s.sys with dlWords := max s.sys.dlWords (k + fit.length) } }

/-- The image in the download area, of the length that the host gave. -/
def State.downloaded (s : State) (bytes : Nat) : List W32 :=
  (List.range (min 0x300000 (ceilDiv bytes 4))).map (fun k => memReadW s.mem (downloadBase + 4 * k))

/-- The sections of an image lie at their addresses. -/
def State.placeImage (s : State) (img : List W32) : State :=
  let bytes := img.flatMap wordBytes
  (imageSections img).zipIdx.foldl (fun (s : State) e =>
    let off := (img.getD (8 + 3 * e.2) 0).toNat
    { s with mem := memWrites s.mem e.1.1 ((bytes.drop off).take e.1.2) }) s

/-- A bank with the right magic that fails another check is reported (17 R457). -/
def State.checkBank (s : State) (r : Nat) (toB : Bool) : State :=
  let b := (s.store.region r).bank toB
  if b.magic == bankMagic r && b.fault r != 0 then s.checkFail r toB (b.fault r) else s

def State.checkRegion (s : State) (r : Nat) : State := (s.checkBank r false).checkBank r true

/-- An image runs. -/
def State.runImage (s : State) (img : List W32) (crc : W32) (toB fallback down : Bool) : State :=
  let s1 := s.placeImage img
  { s1 with sys := { s1.sys with
    fwSvn := img.getD 2 0
    fwCrc := crc
    slotB := toB
    fallback := fallback
    downloaded := down } }

/-- FW_AUTH_FAIL (17 R467). -/
def State.authFail (s : State) (first second : Nat) : State := s.raise 0x12 0 0x23 (pack [(first, 0), (second, 4)])

/-- The image of a bank of region 0. -/
def State.bankImage (s : State) (toB : Bool) : List W32 :=
  let b := (s.store.region 0).bank toB
  b.words (b.len.toNat / 4)

/-- A flash boot: the content bank is checked, then the other one if it is valid. -/
def State.flashBoot (s0 : State) : State :=
  let s := s0.checkRegion 0
  match s.store.contentBank 0 with
  | none => s.authFail 0 0
  | some c =>
    let f := imageFails s.sys.fuses (bankCap 0) (s.bankImage c)
    if f = 0 then s.runImage (s.bankImage c) ((s.store.region 0).bank c).crc c false false
    else
      let s1 := s.checkFail 0 c (3 + f)
      if ((s1.store.region 0).bank (!c)).valid 0 then
        let g := imageFails s1.sys.fuses (bankCap 0) (s1.bankImage (!c))
        if g = 0 then s1.runImage (s1.bankImage (!c)) ((s1.store.region 0).bank (!c)).crc (!c) true false
        else (s1.checkFail 0 (!c) (3 + g)).authFail f g
      else s1.authFail f 0

/-- A download boot: the image that the host has given is checked. -/
def State.downloadBoot (s : State) (bytes : Nat) : State :=
  let img := s.downloaded bytes
  let f := imageFails s.sys.fuses 0xC00000 img
  if f = 0 then
    let n := (img.getD 3 0).toNat
    s.runImage img (crc32c ((img.flatMap wordBytes).take n)) false false true
  else s.authFail f 0

/-- The packets of the node record apply in stored order (18 R509); an opcode that it may not hold is a host error. -/
def State.nodePackets (s : State) : State :=
  (splitPackets 1024 (s.store.nodeRecord.drop 9)).foldl (fun (s : State) w =>
    let op := fld (w.headD 0) 31 24
    if op == 0x29 && lenAllowed op w.length && fld (w.headD 0) 15 0 == w.length then (applyAddressConfig (w.drop 3) s).s
    else s.hostError .store) s

/-- The learned store of region 2 (17 R463). -/
def State.takeLearned (s : State) : State :=
  let ws := s.store.payload 2
  let s1 := if ws.isEmpty then s
    else { s with ref := { s.ref with rate := ws.getD 0 0, resid := ws.getD 1 0, hours := ws.getD 2 0 } }
  s1.takeBaselines

/-- READY: the node record, the key and the learned store are in force, the pair engine starts, and a solo engine loads its
startup scene (17 R471). -/
def State.enterReady (s : State) : State :=
  let s1 := ([1, 2, 3].foldl (fun (s : State) r => s.checkRegion r) s).nodePackets.takeLearned
  let s2 := { s1 with
    host := { s1.host with key := s1.store.nodeKey, keyNext := none }
    sys := { s1.sys with phase := .ready, dlWords := 0, dlBytes := none }
    pair := PairBlk.release s1.solo s1.time.mono }
  let s3 := s2.reblock
  if s3.solo then s3.startScene else s3

/-- The boot ROM checks the image and the firmware starts. -/
def State.bootImage (s : State) : State :=
  if s.pcieDownload || s.spiDownload then
    match s.sys.dlBytes with
    | none => s
    | some n => s.downloadBoot n
  else s.flashBoot

/-- The boot ends, in READY, or in HALTED where no image passed. A download boot waits for the length. -/
def State.bootEnds (s : State) : State :=
  if s.sys.phase != .boot || ((s.pcieDownload || s.spiDownload) && s.sys.dlBytes.isNone) then s
  else
    let s1 := s.bootImage
    if s1.sys.phase == .boot then s1.enterReady else s1

/-! ## Island power (17 R475, R476; 15 R432) -/

def State.island (s : State) (i : Nat) : Island := s.sys.islands.getD i ⟨.off, 0, none⟩

def State.setIsland (s : State) (i : Nat) (x : Island) : State :=
  { s with sys := { s.sys with islands := s.sys.islands.set i x } }

/-- An island that POWER_DOMAIN can switch (01 Table 1-1, 17 R475, 20 R544). -/
def State.switchable (s : State) (i : Nat) : Bool :=
  decide (4 ≤ i ∧ i ≤ 8 ∨ 12 ≤ i ∧ i ≤ 14) || (i == 11 && s.solo) || (i == 15 && s.sys.extGiB != 0)

/-- A request for a state of an island (17 R476). -/
def State.powerTo (s : State) (on : Bool) (i : Nat) : State :=
  let x := s.island i
  match x.pwr with
  | .off => if on then s.setIsland i ⟨.starting, s.time.tick, none⟩ else s
  | .on => if on then s else s.setIsland i ⟨.draining, s.time.tick, none⟩
  | .starting => s.setIsland i { x with wait := if on then none else some false }
  | .draining => s.setIsland i { x with wait := if on then some true else none }

/-- POWER_DOMAIN (17 R475). -/
def applyPowerDomain (p : List W32) (s : State) : Ans :=
  let w := pw p 3
  let l := maskBits 16 (fld w 15 0)
  let armed := s.gey.groups.any (fun g => g.st != .disarmed && g.st != .fault)
  if fld w 30 16 != 0 then .ok (s.hostError .pcie)
  else if !l.all s.switchable || (!bit w 31 && (l.contains 12 || l.contains 13) && armed) then .refuse stState s
  else .ok (l.foldl (fun (s : State) i => s.powerTo (bit w 31) i) s)

/-- A request that waited for the end of a transition takes effect at the first boundary after it. -/
def State.islandTurns (s : State) : State :=
  (List.range 16).foldl (fun (s : State) i =>
    let x := s.island i
    match x.wait with
    | some on =>
      if (x.pwr == .on || x.pwr == .off) && decide (x.since < s.time.tick) then
        { (s.setIsland i { x with wait := none }).powerTo on i with back := some s.governing }
      else s
    | none => s) s

/-- The blocks of an island, whose unpredictable state its switch-on ends (01 R26). -/
def islandBlocks (i : Nat) : List Blk :=
  if 4 ≤ i ∧ i ≤ 7 then (span (16 * (i - 4)) (16 * (i - 4) + 15)).map Blk.core
  else if i = 8 then [.caldera, .meters]
  else if i = 12 then [.geyser]
  else if i = 13 then [.decimators]
  else if i = 14 then [.tdm]
  else if i = 15 then [.delay]
  else if i = 11 then [.pair]
  else []

/-- The sinks whose assignment has ended start anew (03 R552). -/
def State.unassign (s before : State) : State :=
  let ch := s.changedSinks before
  let s1 := s.onRoutes (fun r => r.resetSinks s.sinkDomain ch)
  { s1 with route := s1.reBridge s1.route }

/-- The state and the memories of an island are lost (17 R476). -/
def State.loseIsland (s : State) (i : Nat) : State :=
  if 4 ≤ i ∧ i ≤ 7 then s.emptyCluster (i - 4)
  else
    match i with
    | 12 => ({ s with gey := GeyBlk.init }.takeBaselines).unassign s
    | 13 => { s with dec := DecBlk.init }
    | 14 =>
      let s1 := ({ s with tdm := TdmBlk.init }).unassign s
      if s.sourceUp 7 && !s1.sourceUp 7 then s1.refLoss 7 4 else s1
    | 15 =>
      { s.onRoutes (fun r => { r with slots := r.slots.map (fun (x : Slot) => { x with samples := [] }) }) with
        mem := memClear s.mem 0x100000000 0x500000000 }
    | _ => s

/-- A request that an island's drain concerns. -/
def BusReq.ofIsland (r : BusReq) (i : Nat) : Bool := addrIsland r.addr == some i || masterIsland r.master == some i

/-- A lock at an island's target, or held by its master. -/
def BusLock.ofIsland (l : BusLock) (i : Nat) : Bool :=
  masterIsland l.master == some i || (l.target == 6 && decide (4 ≤ i ∧ i ≤ 7)) || (l.target == 7 && i == 8) ||
    ((l.target == 10 || l.target == 11) && i == 15)

/-- The islands whose memories the samples still to be processed may need. -/
def keptIslands : List Nat := [4, 5, 6, 7, 15]

/-- The samples of the tick before the switch-off are still processed with the island, which then loses its state when
they are (01 R10, log 19). -/
def State.holdsIsland (s : State) (i : Nat) : Bool := keptIslands.contains i && s.back.isSome && pwrOf s.governing.islands i == .on

/-- The island has drained, or 100 us have passed: it is off (15 R432). -/
def State.drained (s : State) (i forced : Nat) : State :=
  let x := s.island i
  let mine := s.cond.reqs.filter (fun r => r.ofIsland i)
  let n := max forced mine.length
  if x.pwr != .draining || (n != 0 && decide (s.now < boundaryNs x.since + 100000)) then s
  else
    let s1 := { s with cond := { s.cond with
      reqs := s.cond.reqs.filter (fun r => !r.ofIsland i)
      locks := s.cond.locks.filter (fun l => !l.ofIsland i) } }
    let s2 := mine.foldl (fun (s : State) r => s.emit (.bus r.master r.addr false [])) s1
    let s3 := if n = 0 then s2 else s2.raise 0x14 i 0x04 (w32 n)
    let s4 := (List.range 13).foldl (fun (s : State) t => s.arbitrate t) s3
    (if s.holdsIsland i then s4 else s4.loseIsland i).setIsland i { x with pwr := .off, since := s.time.tick }

/-- The Caldera's state holds for the samples still to be processed too. -/
def State.calderaNow (s : State) : State := (s.onCald (fun _ => s.cald)).onMeters (fun _ => s.meter)

/-- An island enters ON with the default state of its blocks (17 R476). -/
def State.started (s : State) (i : Nat) : State :=
  let x := s.island i
  if x.pwr != .starting then s
  else
    let s1 := s.setIsland i { x with pwr := .on, since := s.time.tick }
    ((if i = 8 then s1.resetCaldera.calderaNow else s1.loseIsland i)).predictable (islandBlocks i)

/-! ## Supplies and temperature (17 R478-R482) -/

/-- The nominal voltage in mV, or the limits of 17 Table 17-10. -/
def supplyLimits (index supply vddioA : Nat) : Nat × Nat :=
  match index with
  | 0 => (69000, 81000)
  | 1 => (74000, 86000)
  | 2 => (84000, 96000)
  | 3 => (112000, 128000)
  | 4 => if supply = 0 then (93 * 500, 107 * 500) else (93 * 1050, 107 * 1050)
  | 5 => (167000, 193000)
  | _ => (93 * vddioA, 107 * vddioA)

/-- A supply is outside its limits. -/
def State.supplyOut (s : State) (index supply mv : Nat) : Bool :=
  let l := supplyLimits index supply s.sys.vddioA
  decide (index ≤ 6 ∧ (supply = 0 ∨ (index = 4 ∧ supply = 1)) ∧ (100 * mv < l.1 ∨ l.2 < 100 * mv))

/-- Warning onset, warning end and critical threshold in 0.1 degrees (17 Table 17-11). -/
def thresholds (grade : Nat) : Int × Int × Int := if grade = 0 then (950, 900, 1100) else (1000, 950, 1150)

/-- One sample of one sensor. -/
def Sensor.sample (x : Sensor) (grade : Nat) (v : Int) : Sensor :=
  let t := thresholds grade
  ⟨v, max x.high v, if t.2.2 ≤ v then x.crit + 1 else 0, if x.warn then !decide (v ≤ t.2.1) else decide (t.1 ≤ v)⟩

/-- EVENT_THERMAL of a sensor (17 R480). -/
def State.thermalEvent (s : State) (kind i : Nat) (v : Int) : State :=
  s.event 0xEB [pack [(kind, 28), (i, 0)], pack [(code 16 v, 16)], s.tick32]

/-- The eight sensors are sampled; faults are sent before events (18 R511). -/
def State.thermal (s : State) (temps : List Int) : State :=
  let old := s.sys.sensors
  let new := old.zipIdx.map (fun e => e.1.sample s.sys.grade (temps.getD e.2 0))
  let s1 := { s with sys := { s.sys with sensors := new } }
  let s2 := (List.range 8).foldl (fun (s : State) i =>
    let a := old.getD i Sensor.init
    let b := new.getD i Sensor.init
    let ctx := pack [(code 16 b.now, 0)]
    let s' := if !a.warn && b.warn then s.raise 0x15 i 0x1E ctx else s
    if b.crit = 4 then s'.raise 0x15 i 0x1F ctx else s') s1
  (List.range 8).foldl (fun (s : State) i =>
    let a := old.getD i Sensor.init
    let b := new.getD i Sensor.init
    if a.warn == b.warn then s else s.thermalEvent (if b.warn then 1 else 2) i b.now) s2

/-- TEMP_GET (17 R482). -/
def queryTempGet (_ : List W32) (s : State) : Ans :=
  let t := thresholds s.sys.grade
  let one (x : Sensor) : W32 := pack [(code 16 x.now, 16), (code 16 x.high, 0)]
  .okData (s.sys.sensors.map one ++ [pack [(code 16 t.1, 16), (code 16 t.2.2, 0)],
    w32 (maskOf ((List.range 8).filter (fun i => (s.sys.sensors.getD i Sensor.init).warn)))]) s

/-! ## The meanings of the rows -/

def execPowerDomain (st : Stage) (p : List W32) (s : State) : Host.Outcome State Fault Refusal := .next (s.command 0x06 st p applyPowerDomain)

def execTempGet (h : CmdHead) (p : List W32) (s : State) : Host.Outcome State Fault Refusal := .next (s.query 0x07 h p queryTempGet)

def execColdReset (s : State) : Host.Outcome State Fault Refusal := .next s.coldState

/-- RST_N was low for 1 us with PWRGD high, or 20.0 us have passed since a BLOCK_RESET of the whole engine (18 R493). -/
def execWarmReset (s : State) : Host.Outcome State Fault Refusal :=
  let byCommand := match s.sys.warmAt with
    | some t => decide (t ≤ s.time.mono)
    | none => false
  .next (if s.sys.pwrgd then s.warmState (if byCommand then 3 else 2) else s)

def execResetRelease (boot role : Nat) (host : Bool) (vddioA : Nat) (s : State) : Host.Outcome State Fault Refusal :=
  .next (if s.sys.phase == .reset then s.releaseReset boot role host vddioA else s)

def execBootComplete (t : Nat) (s : State) : Host.Outcome State Fault Refusal := .next (s.goto t).bootEnds

/-- PWRGD low is a cold reset (17 Table 17-8), in which every output is high-impedance (20 R531). -/
def execPwrgdFall (s : State) : Host.Outcome State Fault Refusal :=
  let z := s.coldState
  .next { z with sys := { z.sys with pwrgd := false } }

/-- A supply outside its limits for 2 us (17 R478). -/
def execSupplyFault (t index supply mv : Nat) (s : State) : Host.Outcome State Fault Refusal :=
  let s := s.goto t
  .next (if s.sys.phase != .reset && s.supplyOut index supply mv then
    s.raise 0x14 index 0x20 (pack [(supply, 16), (mv % 65536, 0)]) else s)

/-- 17 R479: in every state except RESET. -/
def execThermalSample (t : Nat) (temps : List Int) (s : State) : Host.Outcome State Fault Refusal :=
  let s := s.goto t
  .next (if s.sys.phase != .reset then s.thermal temps else s)

def execIslandDrainComplete (t island forced : Nat) (s : State) : Host.Outcome State Fault Refusal :=
  onUnit (island < 16) ((s.goto t).drained island forced)

def execIslandStartComplete (island : Nat) (s : State) : Host.Outcome State Fault Refusal :=
  onUnit (island < 16) (s.started island)

/-- The control core stops; CTRL_WATCHDOG (fatal, source 0x01) takes the fatal path without a snapshot (02 R33, 16 R438). -/
def execCtrlWatchdog (t : Nat) (s : State) : Host.Outcome State Fault Refusal :=
  let s := s.goto t
  .next (if s.sys.phase != .reset && s.sys.ctrlAlive then
    ({ s with sys := { s.sys with ctrlAlive := false } }).raise 0x01 0 0x21 0 else s)

/-- The buffers of a group lose their supply (20 R532). -/
def execIoSupplyLoss (modGroup : Bool) (s : State) : Host.Outcome State Fault Refusal :=
  .next { s with sys := if modGroup then { s.sys with ioLostMod := true } else { s.sys with ioLostA := true } }

/-- Fuse bits only go from 0 to 1; SVN and the reserved bits are not programmed here, and nothing after JTAG_LOCK
(17 R466). -/
def programFuses (old new : List W32) : List W32 :=
  old.mapIdx (fun i w => if i < 16 then w ||| new.getD i 0 else if i = 18 then w ||| (new.getD i 0 &&& 0x1F) else w)

def execFuseProgramming (words : List W32) (s : State) : Host.Outcome State Fault Refusal :=
  .next (if bit (s.sys.fuses.getD 18 0) 3 then s else { s with sys := { s.sys with fuses := programFuses s.sys.fuses words } })

/-- PCIe download: the image stands in the download area, and its length starts the check (17 R470, 19 R522). -/
def execPcieDownloadLength (image : List W32) (len : W32) (s : State) : Host.Outcome State Fault Refusal :=
  .next (if s.pcieDownload && !s.host.perst && s.sys.dlBytes.isNone then
    let s1 := s.download 0 image
    { s1 with sys := { s1.sys with dlBytes := some len.toNat } } else s)

end Sys2Proof.Machine
end

