-- ==== Sys2Proof/Machine/Trigger.lean ====
section
/-! DEFINITION. The sixteen time triggers (13 R355-R357), their actions at boundaries and pins, and BLOCK_RESET of time
(13 R362). -/

namespace Sys2Proof.Machine
open Sys2Proof

def State.trig (s : State) (i : Nat) : Trig := s.time.trigs.getD i Trig.init

def State.setTrig (s : State) (i : Nat) (x : Trig) : State := { s with time := { s.time with trigs := s.time.trigs.set i x } }

/-- The first instant of a periodic trigger at or after now. -/
def nextDue (time period now : Nat) : Nat := if now ≤ time then time else time + ceilDiv (now - time) period * period

/-- TARGET breaks 13 Table 13-9. -/
def targetBad (action : Nat) (w : W32) : Bool :=
  match action with
  | 0 => w != 0
  | 1 => w != 0
  | 2 => false
  | 3 => fld w 31 14 != 0 || fld w 7 6 != 0 || fld w 5 0 < fld w 13 8
  | 4 => fld w 31 11 != 0 || (1 ≤ fld w 10 0 && fld w 10 0 < 4) || 1024 < fld w 10 0
  | 5 => fld w 31 24 != 0 || fld w 23 0 < 10
  | 6 => fld w 29 24 != 0 || fld w 23 0 < 10
  | _ => true

/-- TRIGGER_SET (13 R355). -/
def applyTriggerSet (p : List W32) (s : State) : Ans :=
  let w := pw p 3
  let i := fld w 3 0
  let start := fld w 23 21
  let action := fld w 27 24
  let tb := fld w 30 28
  let time := (pw p 4).toNat * 2 ^ 32 + (pw p 5).toNat
  let period := (pw p 6).toNat
  let en := bit w 31
  if fld w 20 4 != 0 || 4 < start || targetBad action (pw p 7) then .ok (s.hostError (.trigger i))
  else
    let now := s.baseNs tb
    let due := if start != 0 || !en then none else if period = 0 then some time else some (nextDue time period now)
    let x : Trig :=
      { armed := en
        tb := tb
        action := action
        start := start
        time := time
        period := period
        target := pw p 7
        due := due
        lateDue := en && start == 0 && period == 0 && decide (time < now)
        loadTick := s.time.tick
        late := (s.trig i).late
        bound := none }
    .ok ({ s with pair := { s.pair with trigBounds := kdel s.pair.trigBounds i } }.setTrig i x)

/-- A fired action at its boundary. -/
def State.trigAct (s : State) (x : Trig) : State :=
  let w := x.target
  match x.action with
  | 1 => s.addSync s.time.tick
  | 2 => if s.tdmOff then s else s.restartPorts (maskBits 32 w.toNat)
  | 3 => (rangeCores w).foldl (fun (s : State) n => s.setCore n { s.core n with trig := (s.core n).trig ++ [s.time.tick] }) s
  | 4 =>
    let a := applyBankSwap [w] s
    if a.status = 0 then a.s.keepBack s 0x43 [w] else s
  | _ => s

/-- The actions that are due at the running boundary, in the order of the triggers (13 R357). An engine that follows the
active takes the active's boundaries (13 R361). -/
def State.runTriggers (s : State) : State :=
  (List.range 16).foldl (fun (s : State) i =>
    let x := s.trig i
    let b := if s.follows then (kget s.pair.trigBounds i).orElse (fun _ => x.bound) else x.bound
    match b with
    | some t =>
      if t ≤ s.time.tick then
        let s1 := s.setTrig i { x with bound := none }
        ({ s1 with pair := { s1.pair with trigBounds := kdel s1.pair.trigBounds i } }).trigAct x
      else s
    | none => s) s

/-- A pulse of an owned output. -/
def State.pulseOut (s : State) (pin : PulsePin) (width : Nat) : State :=
  if s.pair.owner then s.emit (.pulse pin s.time.tick s.time.sub width) else s

/-- A trigger has fired: its next instant, and its action or the boundary at which it will act. -/
def State.fireTrig (s : State) (i : Nat) : State :=
  let x := s.trig i
  match x.due with
  | none => s
  | some d =>
    if !x.armed || s.baseNs x.tb < d then s
    else
      let next := if x.period = 0 then none else some (nextDue d x.period (max (d + 1) (s.baseNs x.tb)))
      let b0 := if s.time.sub = 0 then s.time.tick else s.time.tick + 1
      let b := max b0 (x.loadTick + 2)
      let x1 := { x with armed := x.period != 0 || x.start != 0, due := next, late := x.lateDue, lateDue := false }
      let s1 := s.setTrig i x1
      match x.action with
      | 0 => s1
      | 5 => s1.pulseOut .ppsOut (fld x.target 23 0)
      | 6 => s1.pulseOut (.trigOut (fld x.target 31 30)) (fld x.target 23 0)
      | _ =>
        let s2 := s1.setTrig i { x1 with bound := some b }
        let s3 := if s2.leads then s2.sendCell (.trigger i b) else s2
        let s4 := if x.action = 1 then s3.syncPulse b else s3
        if b ≤ s4.time.tick then s4.runTriggers else s4

/-- A rising edge on TRIG_IN: its stamp, and the timing of the triggers that it starts (13 R356). -/
def State.trigEdge (s : State) (pin : Nat) : State :=
  let s1 := { s with time := { s.time with trigIn := s.time.trigIn.set pin s.now } }
  (List.range 16).foldl (fun (s : State) i =>
    let x := s.trig i
    if x.armed && x.start == pin + 1 then s.setTrig i { x with due := some (s.baseNs x.tb + x.time), lateDue := false, bound := none } else s) s1

/-- BLOCK_RESET of time (13 R362). -/
def State.resetTime (s : State) : State :=
  let s1 := [0, 1].foldl (fun (s : State) i => s.restartInst i (s.inst i)) s
  let s2 := { s1 with time := { s1.time with trigs := s1.time.trigs.map (fun (x : Trig) => { x with armed := false, due := none, bound := none }) } }
  s2.predictable (((List.range 2).map Blk.ptp) ++ ((List.range 8).map Blk.timeBase) ++ ((List.range 16).map Blk.trigger))

/-! ## The meanings of the rows -/

def execTriggerSet (st : Stage) (p : List W32) (s : State) : Host.Outcome State Fault Refusal := .next (s.command 0x18 st p applyTriggerSet)

def execTrigInEdge (t pin : Nat) (s : State) : Host.Outcome State Fault Refusal :=
  onUnit (pin < 4) ((s.goto t).trigEdge pin)

def execTriggerFire (t trig : Nat) (s : State) : Host.Outcome State Fault Refusal :=
  onUnit (trig < 16) ((s.goto t).fireTrig trig)

end Sys2Proof.Machine
end

