-- ==== Sys2Proof/Machine/System.lean ====
section
/-! DEFINITION. The system commands (18 R490-R494, 02 R46), MDIO transactions, and the SPI target with its packets, status
word, register transactions and download (02 R51-R54, 17 R470, 19 R514). -/

namespace Sys2Proof.Machine
open Sys2Proof

/-! ## Queries -/

/-- NOP has no parameters and no data (18 Table 18-1). -/
def queryNop (_ : List W32) (s : State) : Ans := .ok s

/-- IDENTIFY (18 Table 18-3). -/
def queryIdentify (_ : List W32) (s : State) : Ans :=
  .okData ([s.regWord .ctrl 0, s.regWord .ctrl 4, s.sys.fwSvn, s.sys.fwCrc, 1, w32 s.sys.grade,
    s.sys.dieId.extractLsb' 32 32, s.sys.dieId.extractLsb' 0 32, s.strapsWord] ++ s.sys.fuses) s

/-- The power word (17 Table 17-9). -/
def State.powerWord (s : State) : W32 := pack ((List.range 16).map (fun i => ((s.island i).pwr.code, 2 * i)))

/-- n codes of a width in one word, the first in the lowest bits. -/
def packCodes (width : Nat) (l : List Nat) : W32 := pack (l.zipIdx.map (fun e => (e.1, width * e.2)))

/-- The Geyser word of a group (18 Table 18-4). -/
def State.geyWord (s : State) (g : Nat) : W32 :=
  let x := s.ggroup g
  let one (n : Nat) : Nat :=
    let c := (s.gch n).st
    if x.st == .armed then c.code else if c == .latched then 4 else 1
  packCodes 3 ((chansOf g).map one) ||| pack [(x.st.code, 28)]

/-- Words of codes, as many to a word as fit 32 bits. -/
def codeWords (width per n : Nat) (f : Nat → Nat) : List W32 :=
  (List.range (n / per)).map (fun k => packCodes width ((List.range per).map (fun m => f (per * k + m))))

/-- A section of STATE_GET (18 Table 18-4). -/
def State.stateSection (s : State) (k : Nat) : List W32 :=
  match k with
  | 0 => [w32 s.sys.phase.code, s.strapsWord, s.tick32, s.powerWord]
  | 1 => (List.range 3).map (fun i => (s.port i).statusWord i s.time.mono)
  | 2 => (List.range 8).flatMap (fun g => [(s.tgroup g).word0, (s.tgroup g).word1]) ++
      (List.range 32).map (fun p => (s.tport p).word s.time.tick)
  | 3 => [s.pairWord]
  | 4 => (List.range 24).map s.geyWord
  | 5 => codeWords 4 8 64 (fun n => (s.core n).shown.code)
  | _ => codeWords 2 16 256 (fun n => (s.rxSlot n).st.code) ++
      codeWords 2 16 256 (fun n => (s.strm.tx.getD n TxSlot.init).st.code)

/-- STATE_GET (18 R491). -/
def queryStateGet (p : List W32) (s : State) : Ans :=
  let w := pw p 3
  if fld w 31 7 != 0 then .ok (s.hostError .pcie)
  else .okData ((maskBits 7 (fld w 6 0)).flatMap s.stateSection) s

/-! ## SEQ_QUERY (02 R46) -/

/-- The DEV_SEQ of a held event. -/
def eventSeq (ws : List W32) : W32 := ws.getD 2 0

/-- The reply, held under no number (R42), and then the replay. -/
def takeSeqQuery (c : Cmd) (s0 : State) : State :=
  let w := pw c.par 3
  let s := if fld w 31 1 == 0 then s0 else s0.hostError .pcie
  let ch := s.chan c.chan
  let d := [(match ch.expect with
      | some e => e - 1
      | none => 0), ch.dev, ch.gaps, ((ch.evts.head?).map eventSeq).getD (ch.dev + 1), w32 ch.evts.length]
  let s1 := s.sendReply c.chan c.src c.op 0 c.seq s.tick32 d false
  if bit w 0 then
    (ch.evts.filter (fun e => decide ((eventSeq e - pw c.par 4).toNat < 2 ^ 31))).foldl (fun s e => s.deliverEvent c.chan e) s1
  else s1

/-! ## BLOCK_RESET (18 R492, R493) -/

/-- The instances of a block of 18 Table 18-5; none for a reserved code. -/
def blockCount (b : Nat) : Nat := if b = 1 then 64 else if b = 6 then 3 else if b < 12 then 1 else 0

/-- The islands that a reset of the block needs. -/
def blockIslands (b first last : Nat) : List Nat :=
  match b with
  | 1 => (span first last).map coreIsland
  | 2 => [8]
  | 3 => [13]
  | 4 => [12]
  | 5 => [14]
  | 9 => [11]
  | _ => []

/-- What the reset of a block does. The warm reset of the whole engine begins 20.0 us after the boundary. -/
def State.resetBlock (s : State) (b first last : Nat) : State :=
  match b with
  | 0 => { s with sys := { s.sys with warmAt := some (s.time.mono - s.time.sub + 20000) } }
  | 1 => (span first last).foldl (fun (s : State) n => s.resetCore n) s
  | 2 => s.resetCaldera
  | 3 => s.resetDec
  | 4 => s.resetGeyser
  | 5 => s.resetTdm
  | 6 => (span first last).foldl (fun (s : State) i => s.resetPort i) s
  | 7 => s.resetRefs
  | 8 => s.resetTime
  | 9 => s.resetPair
  | 10 => s.resetDma
  | _ => s.resetConduit

def applyBlockReset (p : List W32) (s : State) : Ans :=
  let w := pw p 3
  let b := fld w 31 24
  let first := fld w 15 8
  let last := fld w 7 0
  if fld w 23 16 != 0 || last < first || blockCount b ≤ last then .ok (s.hostError .pcie)
  else if !(blockIslands b first last).all s.islandOn then .refuse stState s
  else .ok (s.resetBlock b first last)

/-! ## MDIO (18 R494) -/

/-- The transaction at the head starts on MDC and MDIO. -/
def State.mdioStart (s : State) : State :=
  match s.mdio with
  | [] => s
  | o :: _ => s.emit (.mdio o.w3 o.w4)

/-- The MDIO form of PORT_CONFIG. -/
def takeMdio (c : Cmd) (s : State) : State :=
  let w3 := pw c.par 3
  let w4 := pw c.par 4
  let bad := c.par.length != 2 || fld w3 28 26 != 0 || (!bit w3 29 && fld w3 15 0 != 0) || fld w4 31 16 != 0 ||
    (!bit w3 30 && fld w4 15 0 != 0)
  if bad then (s.hostError (.port 0)).sendReply c.chan c.src c.op (doneStatus false c.gap) c.seq s.tick32 [] true
  else
    let idle := s.mdio.isEmpty
    let s1 := { s with mdio := s.mdio ++ [⟨c.origin, c.seq, c.gap, s.time.tick, w3, w4⟩] }
    if idle then s1.mdioStart else s1

/-- The transaction that runs ends; data is what a read returned. -/
def State.mdioEnds (s : State) (data : W16) : State :=
  match s.mdio with
  | [] => s
  | o :: rest =>
    let d := if bit o.w3 29 then w32 (fld o.w3 15 0) else data.zeroExtend 32
    ({ s with mdio := rest }.answer o.org 0x20 (doneStatus false o.gap) o.seq (w32 o.tick) [d] true).mdioStart

/-! ## The SPI target (02 R51-R54) -/

/-- CMD_READY (02 R54, 17 R470). -/
def State.cmdReady (s : State) : Bool :=
  if s.sys.phase == .boot then s.spiDownload && s.sys.dlBytes.isNone
  else s.serviced && decide ((s.host.spiWait.filter (fun p => p.isReply)).length < 64)

/-- The status word (02 Table 2-8). -/
def State.spiStatus (s : State) : W32 :=
  let len := match s.host.spiWait with
    | [] => 0
    | p :: _ => p.words.length
  pack [(b2n s.cmdReady, 31), (b2n (!s.host.spiWait.isEmpty), 30), (b2n s.host.lastBad, 29), (len, 0)]

/-- A write is discarded. -/
def State.spiBad (s : State) : State := { s with host := { s.host with lastBad := true } }

/-- A transaction of n data words ends with the right CRC: none when it does not, else the words before the CRC. -/
def spiBody (n : Nat) (words : List W32) (early : Bool) : Option (List W32) :=
  let body := words.dropLast
  if early || words.length != n || words.isEmpty || crc32cBE body != words.getLastD 0 then none else some body

/-- The engine takes part in SPI transactions; in RESET its pins are high-impedance. -/
def State.spiUp (s : State) : Bool := s.sys.phase != .reset

/-- A read of a packet (02 R53): with ACK the packet that the previous read returned whole is consumed first. -/
def State.spiRead (s : State) (ack : Bool) (n : Nat) : State :=
  let st := s.spiStatus
  let w := if ack && s.host.spiRead then s.host.spiWait.drop 1 else s.host.spiWait
  match w with
  | [] => { s with host := { s.host with spiWait := w, spiRead := false } }.emit (.miso st (List.replicate n 0))
  | p :: _ =>
    let ws := p.words ++ [crc32cBE p.words]
    let whole := decide (ws.length ≤ n)
    { s with host := { s.host with spiWait := w, spiRead := whole } }.emit
      (.miso st (ws.take n ++ List.replicate (n - ws.length) 0))

/-- Consecutive registers read over SPI, in ascending order. -/
def State.spiRegs : Nat → Nat → State → List W32 × State
  | 0, _, s => ([], s)
  | k + 1, off, s =>
    let r := s.regRead .spi off
    let t := State.spiRegs k (off + 4) r.2
    (r.1 :: t.1, t.2)

/-! ## The meanings of the rows -/

def execNop (h : CmdHead) (p : List W32) (s : State) : Host.Outcome State Fault Refusal := .next (s.query 0x00 h p queryNop)

def execIdentify (h : CmdHead) (p : List W32) (s : State) : Host.Outcome State Fault Refusal := .next (s.query 0x01 h p queryIdentify)

def execSeqQuery (h : CmdHead) (p : List W32) (s : State) : Host.Outcome State Fault Refusal := .next (s.immediate 0x02 h p takeSeqQuery)

def execStateGet (h : CmdHead) (p : List W32) (s : State) : Host.Outcome State Fault Refusal := .next (s.query 0x03 h p queryStateGet)

def execBlockReset (st : Stage) (p : List W32) (s : State) : Host.Outcome State Fault Refusal := .next (s.command 0x04 st p applyBlockReset)

def execMdioAccess (h : CmdHead) (p : List W32) (s : State) : Host.Outcome State Fault Refusal := .next (s.immediate 0x20 h p takeMdio)

def execMdioTransactionComplete (t : Nat) (data : W16) (s : State) : Host.Outcome State Fault Refusal :=
  .next ((s.goto t).mdioEnds data)

def execSpiReadPacket (ack : Bool) (n : Nat) (s : State) : Host.Outcome State Fault Refusal :=
  .next (if s.spiUp then s.spiRead ack n else s)

/-- The status word shows LAST_BAD as it was, and the read clears it. -/
def execSpiReadStatus (s : State) : Host.Outcome State Fault Refusal :=
  .next (if s.spiUp then { s with host := { s.host with lastBad := false } }.emit (.miso s.spiStatus []) else s)

/-- TYPE 0xC5: n data words and their CRC (log 44). -/
def execSpiDownloadAppend (n : Nat) (words : List W32) (early : Bool) (s : State) : Host.Outcome State Fault Refusal :=
  let s1 := s.emit (.miso s.spiStatus [])
  .next (if !s.spiUp then s
    else if !s.spiDownload || !s.cmdReady then s1.spiBad
    else
      match spiBody (n + 1) words early with
      | none => s1.spiBad
      | some body => s1.download s1.sys.dlWords body)

/-- TYPE 0xC6 with N = 2: the image length in bytes and its CRC. -/
def execSpiDownloadLength (n : Nat) (words : List W32) (early : Bool) (s : State) : Host.Outcome State Fault Refusal :=
  let s1 := s.emit (.miso s.spiStatus [])
  .next (if !s.spiUp then s
    else if !s.spiDownload || !s.cmdReady || n != 2 then s1.spiBad
    else
      match spiBody 2 words early with
      | some [len] => { s1 with sys := { s1.sys with dlBytes := some len.toNat } }
      | _ => s1.spiBad)

/-- TYPE 0xC7: N consecutive registers from an aligned offset, and a CRC over them (19 R514). -/
def execSpiRegisterRead (t n addr : Nat) (s : State) : Host.Outcome State Fault Refusal :=
  let s := s.goto t
  let r := State.spiRegs n addr s
  .next (if !s.spiUp then s
    else if n = 0 ∨ 64 < n ∨ addr % 4 ≠ 0 then s.emit (.miso s.spiStatus [])
    else r.2.emit (.miso s.spiStatus (r.1 ++ [crc32cBE r.1])))

/-- TYPE 0xC8: the address word, N data words and a CRC over them (19 R514). -/
def execSpiRegisterWrite (n addr : Nat) (words : List W32) (early : Bool) (s : State) : Host.Outcome State Fault Refusal :=
  let s1 := s.emit (.miso s.spiStatus [])
  let data := words.dropLast
  .next (if !s.spiUp then s
    else if early || n = 0 || 16 < n || words.length != n + 1 || crc32cBE (w32 addr :: data) != words.getLastD 0 then s1.spiBad
    else data.zipIdx.foldl (fun (s : State) e => s.regWrite .spi (addr + 4 * e.2) e.1 (addr % 4 == 0)) s1)

end Sys2Proof.Machine
end

