-- ==== Sys2Proof/Machine/Apply.lean ====
section
/-! DEFINITION. What each opcode does, in one table (18 Table 18-1); the pending commands of a boundary (02 R37); scenes
(17 R462, 18 R508); and the channels on which commands come in: the ring (02 R48), SPI (02 R52) and UDP (10 R267). -/

namespace Sys2Proof.Machine
open Sys2Proof

/-! ## The opcodes -/

/-- State-changing opcodes below 0x40. -/
def applyLow (op : Nat) : Option (List W32 → State → Ans) :=
  match op with
  | 0x04 => some applyBlockReset
  | 0x06 => some applyPowerDomain
  | 0x10 => some applyRefConfig
  | 0x11 => some applyRefSelect
  | 0x13 => some applyHoldoverConfig
  | 0x14 => some applyPtpConfig
  | 0x15 => some applyPtpDomainSelect
  | 0x16 => some applyTimebaseConfig
  | 0x17 => some applyTimebaseAdjust
  | 0x18 => some applyTriggerSet
  | 0x20 => some applyPortConfig
  | 0x21 => some applyGateListLoad
  | 0x22 => some applyFlowConfig
  | 0x24 => some applyStreamRxOpen
  | 0x25 => some applyStreamRxClose
  | 0x26 => some applyStreamTxOpen
  | 0x27 => some applyStreamTxClose
  | 0x29 => some applyAddressConfig
  | 0x30 => some applyRouteSet
  | 0x31 => some applyRouteClear
  | 0x33 => some applyDomainConfig
  | 0x34 => some applyBridgeConfig
  | 0x35 => some applyAsrcConfig
  | _ => none

/-- State-changing opcodes from 0x40 on, SCENE_LOAD apart. -/
def applyHigh (op : Nat) : Option (List W32 → State → Ans) :=
  match op with
  | 0x40 => some applyMixShape
  | 0x41 => some applyXpointWrite
  | 0x42 => some applyGainSet
  | 0x43 => some applyBankSwap
  | 0x44 => some applyLimiterSet
  | 0x45 => some applyMeterConfig
  | 0x47 => some applyPeakReset
  | 0x50 => some applyVentLoad
  | 0x51 => some applyVentStart
  | 0x52 => some applyVentStop
  | 0x53 => some applyVentParamWrite
  | 0x55 => some applyVentMap
  | 0x60 => some applyDecConfig
  | 0x61 => some applyDecSync
  | 0x62 => some applyDetectConfig
  | 0x63 => some applyDcblockConfig
  | 0x64 => some applyTdmConfig
  | 0x65 => some applyTdmSlotmask
  | 0x66 => some applyTdmRestart
  | 0x70 => some applyModConfig
  | 0x71 => some applyModArm
  | 0x72 => some applyModDisarm
  | 0x73 => some applyLoadDiagRun
  | 0x75 => some applyProtectConfig
  | 0x76 => some applyBoostConfig
  | 0x77 => some applyModChannelEnable
  | 0x80 => some applyPairConfig
  | 0x82 => some applyPairHandover
  | 0x83 => some applyPairResync
  | 0x84 => some applyHeartbeatConfig
  | 0x92 => some applyFaultClear
  | 0x93 => some applyFaultReaction
  | 0xB0 => some applyDmaChannelConfig
  | 0xB1 => some applyDmaStart
  | 0xB3 => some applyWindowConfig
  | 0xB4 => some applyArbConfig
  | _ => none

/-- Queries. -/
def queryOp (op : Nat) : Option (List W32 → State → Ans) :=
  match op with
  | 0x00 => some queryNop
  | 0x01 => some queryIdentify
  | 0x03 => some queryStateGet
  | 0x07 => some queryTempGet
  | 0x12 => some queryRefStatus
  | 0x19 => some queryTimeGet
  | 0x23 => some queryStatsRead
  | 0x28 => some queryStreamStatus
  | 0x32 => some queryRouteGet
  | 0x46 => some queryMeterRead
  | 0x54 => some queryVentStatus
  | 0x74 => some queryLoadDiagResult
  | 0x81 => some queryPairStatus
  | 0x90 => some queryFaultStatus
  | 0x91 => some queryFaultHistory
  | 0x94 => some queryJournalRead
  | 0xB2 => some queryDmaStatus
  | _ => none

/-- What an opcode's parameters, from word 3 on, do at the target boundary. -/
def applyOp (op : Nat) (p : List W32) (s : State) : Ans :=
  match applyLow op with
  | some f => f p s
  | none =>
    match applyHigh op with
    | some f => f p s
    | none => .ok s

/-- The MDIO form of PORT_CONFIG (18 R494). -/
def isMdio (op : Nat) (p : List W32) : Bool := op == 0x20 && bit (p.headD 0) 31

/-- What an accepted command does, by its kind (18 R485). -/
def takeCommand (c : Cmd) (s : State) : State :=
  match queryOp c.op with
  | some f => s.answerQuery c f
  | none =>
    if c.op = 0x02 then takeSeqQuery c s
    else if c.op = 0xA0 then takeStoreWrite c s
    else if c.op = 0xA1 then takeStoreRead c s
    else if c.op = 0xA2 then takeStoreStatus c s
    else if c.op = 0xA4 then takeFwUpdate c s
    else if isMdio c.op c.par then takeMdio c s
    else s.takeState c

/-! ## Scenes (17 R461, R462, R483; 18 R508) -/

/-- One packet of a scene, applied as a command of its own; none where it fails, with its status. A packet that no mirrored
state-changing command is, or that its LENGTH does not fit, is a host error. -/
def scenePacket (w : List W32) (s : State) : Nat × State :=
  let op := fld (w.headD 0) 31 24
  let p := w.drop 3
  if fld (w.headD 0) 15 0 != w.length || !lenAllowed op w.length then (0, s.hostError .store)
  else if op == 0xA3 || isMdio op p || !mirroredOp op p then (0, s.hostError (opBlock op))
  else
    let a := applyOp op p s
    if a.status = 0 then (0, (a.s.keepBack s op p).applied) else (a.status, s)

/-- The packets from index i on: the first that fails with its status, else the state after all. -/
def scenePackets : Nat → List (List W32) → State → Sum (Nat × Nat) State
  | _, [], s => .inr s
  | i, w :: t, s =>
    let r := scenePacket w s
    if r.1 = 0 then scenePackets (i + 1) t r.2 else .inl (i, r.1)

/-- A scene that has been read, by how the read went. SCENE_LOAD counts in the configuration version as its packets do. -/
def runScene (code : Nat) (body : List W32) (s : State) : Ans :=
  match code with
  | 1 => .refuse stState s
  | 2 => ⟨stStoreFail, [0xFFFE, 0], s⟩
  | _ =>
    let l := splitPackets body.length body
    match scenePackets 0 l s with
    | .inl e => ⟨e.2, [w32 e.1, 0], s⟩
    | .inr t => .okData [0xFFFF, w32 l.length] { t with pair := { t.pair with cfgVer := s.pair.cfgVer + w32 l.length - 1 } }

/-- SCENE_LOAD at its target tick: with the scene that STORE has read into its parameters, or straight from the flash. -/
def applySceneLoad (p : List W32) (s : State) : Ans :=
  let w := pw p 3
  let n := fld w 5 0
  if fld w 31 6 != 0 || n = 0 then .ok (s.hostError .store)
  else if 2 ≤ p.length then runScene (p.getD 1 0).toNat (p.drop 2) s
  else
    match s.store.record 2 n with
    | none => runScene 2 [] s
    | some none => runScene 1 [] s
    | some (some body) => runScene 0 body s

/-- The meaning of a state-changing opcode at its target tick. -/
def applyAny (op : Nat) (p : List W32) (s : State) : Ans := if op = 0xA3 then applySceneLoad p s else applyOp op p s

/-! ## Pending commands (02 R37) -/

/-- Equal stamps are ordered PCIe, SPI, UDP (01 Table 1-10), and before what the partner sent. -/
def Origin.rank : Origin → Nat
  | .host .pcie _ => 0
  | .host .spi _ => 1
  | .host .udp _ => 2
  | .partner _ => 3
  | .mirror => 3

/-- A pending command takes effect before another: in tick order, then in the order of the stamps, then of the channels. -/
def Pend.before (a b : Pend) : Bool :=
  decide (a.target < b.target ∨ (a.target = b.target ∧ (a.stamp < b.stamp ∨ (a.stamp = b.stamp ∧ a.org.rank < b.org.rank))))

/-- The next command that is due; of those that rank alike the one accepted first. -/
def State.nextDue (s : State) : Option Pend :=
  (sortBy Pend.before
    (s.host.cmds.filter (fun (p : Pend) => decide (p.target ≤ s.time.tick)))).head?

/-- At most n pending commands apply, each against the state that the one before left. -/
def State.applyPending : Nat → State → State
  | 0, s => s
  | n + 1, s =>
    match s.nextDue with
    | none => s
    | some p =>
      State.applyPending n (({ s with host := { s.host with cmds := s.host.cmds.erase p } }).applyPend p (applyAny p.op))

/-! ## Channels -/

/-- The source of a command that no datagram carried. -/
def noSrc : UdpSrc := ⟨0, 0, []⟩

/-- The engine takes the command at CMD_RPTR from the ring, unless replies wait for room (02 R48, R49). -/
def State.takeRing (s : State) : State :=
  let h := s.host
  if !s.serviced || !s.ringsUp || h.cmdR == h.cmdW || s.rplFull || !h.heldRpl.isEmpty then s
  else
    let slot := kgetD h.cmdSlots (h.cmdR.toNat % 64) []
    let n := fld (slot.headD 0) 15 0
    let ws := (slot ++ List.replicate (1024 - slot.length) 0).take (max 2 n)
    ({ s with host := { h with cmdR := h.cmdR + 1 } }).receive .pcie noSrc ws takeCommand

/-- TYPE 0xC1 with n data words (02 R52, R54). -/
def State.spiCommand (s : State) (n : Nat) (words : List W32) (early : Bool) : State :=
  let s1 := s.emit (.miso s.spiStatus [])
  if !s.cmdReady || s.sys.phase == .boot then s1.spiBad
  else
    match spiBody n words early with
    | none => s1.spiBad
    | some b => if !b.isEmpty && n = fld (b.headD 0) 15 0 + 1 then s1.receive .spi noSrc b takeCommand else s1.spiBad

/-! ## The meanings of the rows -/

def execSceneLoad (st : Stage) (p : List W32) (s : State) : Host.Outcome State Fault Refusal := .next (s.command 0xA3 st p applySceneLoad)

/-- 02 R37. -/
def execPendingCommandApply (s : State) : Host.Outcome State Fault Refusal := .next (State.applyPending s.host.cmds.length s)

/-- 02 R48. -/
def execCommandRingTake (t : Nat) (s : State) : Host.Outcome State Fault Refusal := .next (s.goto t).takeRing

/-- 02 R52. -/
def execSpiWriteCommand (t n : Nat) (words : List W32) (early : Bool) (s : State) : Host.Outcome State Fault Refusal :=
  let s := s.goto t
  .next (if s.spiUp then s.spiCommand n words early else s)

/-- 10 R267. -/
def execFrameReceive (t port : Nat) (f : Frame) (s : State) : Host.Outcome State Fault Refusal :=
  onUnit (port < 3) ((s.goto t).receiveFrame port f takeCommand)

end Sys2Proof.Machine
end

