-- ==== Sys2Proof/Machine/PairLink.lean ====
section
/-! DEFINITION. What the cells of the Dweune link bring (14 R368-R374), link calibration, the union of receptions, and the
copies of a resynchronisation (14 R378-R382). -/

namespace Sys2Proof.Machine
open Sys2Proof

/-! ## Heartbeat cells (14 R365, R369) -/

/-- The engine's state after the partner has shown its own. Two owners are those whose link comes up: the second role releases. -/
def State.meetPartner (s : State) (was : Option Nat) : State :=
  let p := s.pair
  match p.partner with
  | none => s
  | some x =>
    if p.owner && x.owner && !s.firstRole && p.st == .alone then (s.disown .cold).beginResync.pairNow 1 p.st
    else
      match p.st with
      | .alone => (s.setPair { p with st := .active, phase := if x.state = 5 then 1 else 0 }).pairNow 1 p.st
      | .active =>
        if x.state = 5 && was != some 5 then s.setPair { p with phase := 1, progress := 0 }
        else if x.state = 4 && was != some 4 then s.setPair { p with phase := 0, progress := 0 }
        else s
      | _ =>
        if !s.starting || x.owner then
          if p.st == .start then (s.setPair { p with st := .cold }).beginResync.pairNow 1 p.st else s
        else if s.firstRole then s.ownFromStart .active
        else if p.st == .start then (s.setPair { p with st := .cold }).beginResync.pairNow 1 p.st
        else s

/-- A heartbeat cell. -/
def State.takeHeartbeat (s : State) (state : Nat) (owner fatal : Bool) (slot : Nat) (cfgVer : W32) : State :=
  let p := s.pair
  let was := p.partner.map (·.state)
  let s1 := s.setPair { p with
    partner := some ⟨state, owner, cfgVer, (p.partner.map (·.follows)).getD false⟩
    slotSeen := some slot
    partnerFatal := p.partnerFatal || fatal
    fatalSinceKa := p.fatalSinceKa || fatal
    startSince := if owner then s.time.mono else p.startSince }
  let s2 := if fatal then s1.pairNow 8 p.st else s1
  (s2.meetPartner was).holdCheck

/-! ## Commands, results and decisions over the link (02 R60, R61; 14 R372) -/

/-- A command that the partner forwards is stamped on arrival and handled as the active engine's own. -/
def State.takeForward (s : State) (tag op : Nat) (applyTick : W32) (par : List W32) : State :=
  let org := Origin.partner tag
  if !s.serviced then s
  else if s.pair.owner then
    if s.sys.phase == .halted then
      let f := s.freeTick
      f.2.answer org op 0x0B 0 f.1 [] true
    else s.schedule org op applyTick par 0 false false (op != 0xA3)
  else
    let f := s.freeTick
    f.2.answer org op (if pairControl op then stState else 7) 0 f.1 [] true

/-- The partner's answer to a forwarded command goes to the channel that the command came from. -/
def State.takeResult (s : State) (tag status : Nat) (tick : W32) (data : List W32) (final : Bool) : State :=
  match s.pair.fwd.find? (fun f => f.tag == tag) with
  | none => s
  | some f =>
    let s1 := if final then s.setPair { s.pair with fwd := s.pair.fwd.filter (fun g => g.tag != tag) } else s
    let st := if status = 0 && f.gap then 5 else status
    if f.noReply && (status = 0 || status = 1) then (if final && !f.gap then s1.suppress f.org f.seq else if final then s1.answer f.org f.op st f.seq tick data true else s1)
    else s1.answer f.org f.op st f.seq tick data final

/-- A decision of the active engine. -/
def State.takeDecision (s : State) (d : Decision) : State :=
  if !s.follows then s
  else
    match d with
    | .decSync b => s.addSync b
    | .tdmQualify g => s.runGroup g
    | .tdmLoss g cause => s.loseGroup g cause
    | .tdmSlip p data => s.takeSlip p (data.map (·.toNat))
    | .tdmRestart ports => s.restartPorts (maskBits 32 ports)
    | _ => s.geyDecision d

/-- A requested cell is sent once more with its number, while it is kept (14 R370). -/
def State.resendCell (s : State) (cls n : Nat) : State :=
  match s.pair.sent.find? (fun (e : Nat × Nat × Cell) => e.2.2.cls == cls && e.2.1 == n && decide (s.time.mono ≤ e.1 + 20000)) with
  | some e => ({ s with pair := { s.pair with sent := s.pair.sent.erase e } }).emit (.cell n e.2.2)
  | none => s

/-- What a cell brings. The times of calibration cells serve LINK_CALIBRATION, which brings their result. -/
def State.useCell (s : State) (c : Cell) : State :=
  let p := s.pair
  match c with
  | .heartbeat state _ owner fatal slot _ _ _ ver => s.takeHeartbeat state owner fatal slot ver
  | .command op target par => { s with host := { s.host with cmds := s.host.cmds ++ [(⟨op, par, target, s.now, .mirror, 0, false, false, false⟩ : Pend)] } }
  | .forward tag op a par => s.takeForward tag op a par
  | .result tag status tick data final => s.takeResult tag status tick data final
  | .retransmit cls n => s.resendCell cls n
  | .trigger i b => s.setPair { p with trigBounds := kset p.trigBounds i b }
  | .decision d => s.takeDecision d
  | .notice x => s.setPair { p with notices := p.notices ++ [x] }
  | .late x port tick stamp => if s.unites && (s.rxSlot x.slot).st != .closed then s.raiseLate x port tick stamp else s
  | .bitmap t l => s.setPair { p with bitmaps := kset p.bitmaps t l }
  | .digest t v => s.setPair { p with theirs := kset p.theirs t v }
  | .calibrate t1 => let n : Int := s.now * 10; s.sendCell (.calibrated t1 n n)
  | .calibrated _ _ _ => s
  | .inputs i => s.setPair { p with inputs := (p.inputs.filter (fun j => decide (i.tick < j.tick + 4))) ++ [i] }
  | .patch x first l => s.setPair { p with patches := p.patches ++ [(x, first, l)] }
  | .copy _ _ _ => s
  | .following b => s.setPair { p with partner := p.partner.map (fun (x : Partner) => { x with follows := b }) }
  | .handover t r =>
    if p.owner then s
    else
      let s1 := s.setPair { p with hand := some ⟨t, r⟩, holdFrom := none }
      if r then s1 else s1.applied.pairNow 14 p.st

/-- The cell sequence of a class (14 R370): missing cells of classes 1, 2, 3 and 5 are requested, a missing cell of class 6
ends the resynchronisation as failed (14 R380). A cell sent once more leaves the sequence as it is. -/
def State.cellSequence (s : State) (cls n : Nat) : State :=
  let next (s : State) : State := { s with pair := { s.pair with cseqIn := s.pair.cseqIn.set cls (some ((n + 1) % 65536)) } }
  match s.pair.cseqIn.getD cls none with
  | none => next s
  | some e =>
    let d := modSub 16 n e
    if d = 0 then next s
    else if 32768 ≤ d then s
    else
      let s1 := next s
      if cls ∈ [1, 2, 3, 5] then (List.range d).foldl (fun (s : State) k => s.sendCell (.retransmit cls ((e + k) % 65536))) s1
      else if cls = 6 && s1.pair.st == .cold && s1.pair.phase != 0 then s1.resyncFails
      else s1

/-- A cell arrives; one whose CRC fails is discarded (14 R368), and so is every cell in the solo role (14 R363). -/
def State.takeCell (s : State) (n : Nat) (crcOk : Bool) (c : Cell) : State :=
  if s.solo || !s.pair.linkUp || !crcOk then s else (s.cellSequence c.cls n).useCell c

/-! ## Calibration (14 R371) -/

/-- A measurement of the one-way delay, d in units of 0.1 ns. -/
def State.calibrateLink (s : State) (d : Int) : State :=
  let p := s.pair
  if s.solo || !p.linkUp then s
  else
    let s1 := (s.sendCell (.calibrate ((s.now : Int) * 10)))
    let delay := min 65535 d.toNat
    let l := (d :: p.cal).take 16
    if p.calibrated then
      let n : Int := p.cal.length
      if 20 * n < (d * n - p.cal.sum).natAbs then
        let s2 := (s1.setPair { s1.pair with linkDelay := delay, calibrated := false, aligned := false, cal := [d] }).refLoss 8 4
        s2.pairNow 5 p.st
      else s1.setPair { s1.pair with linkDelay := delay, cal := l }
    else
      let ok := l.length == 16 && decide (l.foldl max d - l.foldl min d ≤ 20)
      let s2 := s1.setPair { s1.pair with linkDelay := delay, calibrated := ok, cal := l }
      if ok then s2.pairNow 4 p.st else s2

/-! ## Patches and have-sets (14 R374) -/

/-- No partner notice of this engine's own copy within 250 ns: its samples are sent. -/
def State.sendPatch (s : State) (c : CopyId) : State :=
  if s.solo || s.pair.notices.contains c then s
  else
    match (s.rxSlot c.slot).buf.find? (fun j => j.ptick == c.ptick && j.seq == c.seq) with
    | some j => s.sendCell (.patch c j.first j.samples)
    | none => s

/-- The have-set for P is frozen and sent, at 1.600 us after the boundary of P + 1. -/
def State.freezeHave (s : State) (ptick : Nat) : State :=
  if s.solo || !s.pair.linkUp || decide (s.now < boundaryNs (ptick + 1) + 1600) || (kget s.pair.frozen ptick).isSome then s
  else
    let have' := s.haveSet ptick
    (s.setPair { s.pair with frozen := kset s.pair.frozen ptick have' }).sendCell (.bitmap ptick have')

/-! ## Phase 1: the configuration (14 Table 14-7) -/

/-- The settings of l, with the state that each unit of own has. -/
def zipWith0 {α : Type} (f : α → α → α) (own copy : List α) : List α := (own.zip copy).map (fun e => f e.1 e.2)

def RefBlk.configured (own copy : RefBlk) : RefBlk :=
  { own with
    refs := zipWith0 (fun (a b : RefSt) => { a with eligible := b.eligible, rank := b.rank, bw := b.bw, param := b.param, freqLim := b.freqLim, requal := b.requal }) own.refs copy.refs
    dplls := zipWith0 (fun (a b : Dpll) => { a with select := b.select }) own.dplls copy.dplls
    window := copy.window
    mclk0 := copy.mclk0
    mclk1 := copy.mclk1
    cls := copy.cls
    uTemp := copy.uTemp
    ageing := copy.ageing
    limit := copy.limit
    hoAvg := copy.hoAvg }

def PtpInst.configured (a b : PtpInst) : PtpInst :=
  { a with
    enable := b.enable, profile := b.profile, ports := b.ports, ethernet := b.ethernet, oneStep := b.oneStep, slaveOnly := b.slaveOnly
    domain := b.domain, prio1 := b.prio1, prio2 := b.prio2, logSync := b.logSync, logAnn := b.logAnn, logDelay := b.logDelay
    annTo := b.annTo, dscp := b.dscp }

def TimeBlk.configured (own copy : TimeBlk) : TimeBlk :=
  { own with
    bases := zipWith0 (fun (a b : TimeBase) => { a with enable := b.enable, source := b.source, slew := b.slew, offset := b.offset }) own.bases copy.bases
    insts := zipWith0 PtpInst.configured own.insts copy.insts
    cals := copy.cals
    trigs := copy.trigs }

def RouteBlk.configured (own copy : RouteBlk) : RouteBlk :=
  { own with
    entries := copy.entries
    gens := copy.gens
    family44 := copy.family44
    famMute := copy.famMute
    bridges := copy.bridges
    asrc := copy.asrc
    trackers := zipWith0 (fun (a b : Tracker) => { a with enable := b.enable, kind := b.kind, ref := b.ref, num := b.num, den := b.den }) own.trackers copy.trackers }

def CaldBlk.configured (own copy : CaldBlk) : CaldBlk :=
  { own with shape := copy.shape, active := copy.active, shadow := copy.shadow, version := copy.version, lockEnd := copy.lockEnd }

def MeterBlk.configured (own copy : MeterBlk) : MeterBlk :=
  { own with
    period := copy.period
    taps := copy.taps.map (fun e =>
      let o := kgetD own.taps e.1 Tap.init
      (e.1, { o with rmsMs := e.2.rmsMs, hold := e.2.hold, holdTp := e.2.holdTp, alarmEn := e.2.alarmEn, alarm := e.2.alarm })) }

def DecCtx.configured (a b : DecCtx) : DecCtx :=
  { a with
    enable := b.enable, preset := b.preset, domain := b.domain, scale := b.scale, rate := b.rate, det := b.det, detReport := b.detReport
    detBlock := b.detBlock, detFreq := b.detFreq, detPresent := b.detPresent, clipEn := b.clipEn, stuckEn := b.stuckEn
    clipLevel := b.clipLevel, dc := b.dc, dcFreeze := b.dcFreeze, dcCorner := b.dcCorner }

def DecBlk.configured (own copy : DecBlk) : DecBlk :=
  { own with
    clk := copy.clk
    syncInEn := copy.syncInEn
    ctxs := zipWith0 DecCtx.configured own.ctxs copy.ctxs
    lanes := zipWith0 (fun (a b : Lane) =>
      if b.st == .off then { a with st := .off } else if a.st == .off then { a with st := .hunt } else a) own.lanes copy.lanes }

def GGroup.configured (a b : GGroup) : GGroup :=
  { a with
    domain := b.domain, carrier := b.carrier, lc := b.lc, stagger := b.stagger, minPulse := b.minPulse, maxMod := b.maxMod, vref := b.vref
    lcFc := b.lcFc, lcQ := b.lcQ, iFs := b.iFs, iTrip := b.iTrip, vFs := b.vFs, railFs := b.railFs, retryMs := b.retryMs
    retries := b.retries, openPlay := b.openPlay, zOpen := b.zOpen, zShort := b.zShort, iLeak := b.iLeak, zTol := b.zTol
    tLimit := b.tLimit, bst := b.bst, look := b.look, bstDiv := b.bstDiv, headroom := b.headroom, release := b.release
    railMin := b.railMin, railMax := b.railMax, slewUp := b.slewUp, slewDn := b.slewDn, vin := b.vin, kp := b.kp, ki := b.ki }

def GeyBlk.configured (own copy : GeyBlk) : GeyBlk :=
  { own with
    groups := zipWith0 GGroup.configured own.groups copy.groups
    chans := zipWith0 (fun (a b : GChan) => { a with enabled := b.enabled }) own.chans copy.chans }

def TdmBlk.configured (own copy : TdmBlk) : TdmBlk :=
  { own with
    groups := zipWith0 (fun (a b : TGroup) => { a with
      enable := b.enable, sync := b.sync, domain := b.domain, format := b.format, delay := b.delay, bclkInv := b.bclkInv
      fsInv := b.fsInv, mclk := b.mclk, frameBits := b.frameBits }) own.groups copy.groups
    ports := zipWith0 (fun (a b : TPort) => { a with
      inEn := b.inEn, outEn := b.outEn, group := b.group, slots := b.slots, width := b.width, data := b.data, pack3 := b.pack3
      inMask := b.inMask, outMask := b.outMask, inPend := b.inPend, outPend := b.outPend, inPendAt := b.inPendAt
      outPendAt := b.outPendAt }) own.ports copy.ports }

def Port.configured (a b : Port) : Port :=
  { a with
    enable := b.enable, speed := b.speed, fec := b.fec, an := b.an, loopback := b.loopback, promisc := b.promisc, mtu := b.mtu
    rxMap := b.rxMap, txPcp := b.txPcp, mode := b.mode, quanta := b.quanta, wdLimit := b.wdLimit
    rxq := zipWith0 (fun (x y : Queue) => { x with size := y.size, high := y.high, low := y.low }) a.rxq b.rxq
    txq := zipWith0 (fun (x y : Queue) => { x with size := y.size, high := y.high, low := y.low }) a.txq b.txq
    gates := b.gates, gatesNext := b.gatesNext, streamMac := b.streamMac, streamIp := b.streamIp }

/-- Open slots keep their own counts. -/
def StrmBlk.configured (own copy : StrmBlk) : StrmBlk :=
  { own with
    rx := zipWith0 (fun (a b : RxSlot) =>
      if b.st == .closed then RxSlot.init
      else if a.st == .closed then { RxSlot.init with st := .wait, cfg := b.cfg, openTick := b.openTick, last := b.last, g := b.g, lastOn := b.lastOn, lastA := b.lastA, lastB := b.lastB }
      else { a with cfg := b.cfg }) own.rx copy.rx
    tx := zipWith0 (fun (_ b : TxSlot) => if b.st == .closed then b else { b with st := .silent }) own.tx copy.tx }

/-- The bytes of a range of addresses become those of the copy. -/
def copyRange (m cells : List Host.Cell) (lo hi : Nat) : List Host.Cell :=
  (cells.filter (fun c => decide (lo ≤ c.1 ∧ c.1 < hi))).foldl (fun m c => memWrite m c.1 c.2) (memClear m lo hi)

/-- Phase 1 is adopted as a whole at C, where the configuration version becomes 0. -/
def State.adoptConfig (s : State) (c : PairCopy) : State :=
  { s with
    ref := s.ref.configured c.ref
    time := s.time.configured c.time
    route := s.route.configured c.route
    cald := s.cald.configured c.cald
    meter := s.meter.configured c.meter
    vent := { s.vent with vmap := c.vent.vmap }
    back := none
    lateOps := []
    dec := s.dec.configured c.dec
    gey := s.gey.configured c.gey
    tdm := s.tdm.configured c.tdm
    net := { s.net with ports := zipWith0 Port.configured s.net.ports c.net.ports, mcast := c.net.mcast }
    strm := s.strm.configured c.strm
    cond := { s.cond with wins := c.cond.wins, classes := c.cond.classes, starve := c.cond.starve, lockWd := c.cond.lockWd }
    dma := zipWith0 (fun (a b : DmaChan) => { a with enable := b.enable, buf := b.buf, outstanding := b.outstanding }) s.dma c.dma
    host := { s.host with
      allow := c.host.allow
      evtIp := c.host.evtIp
      evtPort := c.host.evtPort
      cmdMtu := c.host.cmdMtu
      cmds := c.host.cmds.map (fun (p : Pend) => { p with org := .mirror, noReply := false }) }
    sys := { s.sys with islands := zipWith0 (fun (a b : Island) => if a.pwr == b.pwr then a else b) s.sys.islands c.islands }
    pair := { s.pair with
      cfgVer := 0
      phase1Done := true
      holdOff := c.pair.holdOff
      nhEnable := c.pair.nhEnable
      nhPort := c.pair.nhPort
      nhDscp := c.pair.nhDscp
      nhUdp := c.pair.nhUdp
      nhIp := c.pair.nhIp }
    mem := copyRange s.mem c.cells 0x41000000 0x41400000 }

/-! ## Phases 2 and 3 (14 Table 14-7, R381) -/

def StrmBlk.processed (own copy : StrmBlk) : StrmBlk :=
  { own with rx := zipWith0 (fun (a b : RxSlot) => { b with
      pathA := a.pathA, pathB := a.pathB, minSlack := a.minSlack, dup := a.dup, late := a.late, early := a.early, badPkt := a.badPkt
      lastA := a.lastA, lastB := a.lastB, lateTick := a.lateTick }) own.rx copy.rx }

/-- Phase 2: the processing state, unit by unit. -/
def State.adoptProcessing (s : State) (c : PairCopy) : State :=
  { s with
    vent := { c.vent with vmap := s.vent.vmap }
    back := none
    lateOps := []
    cald := c.cald
    meter := c.meter
    route := { s.route with fades := c.route.fades, asrc := c.route.asrc, gens := c.route.gens, trackers := c.route.trackers }
    dec := c.dec
    strm := s.strm.processed c.strm
    tdm := c.tdm
    gey := c.gey
    mem := copyRange s.mem c.cells 0x40000000 0x41000000 }

/-- The samples of a delay slot that the engine has not itself recorded since phase 3 began come from the copy. -/
def State.adoptSlots (s : State) (c : PairCopy) : State :=
  s.onRoutes (fun r => { r with slots := c.route.slots })

/-- A phase finishes its copy: on the standby with what was copied, on the active with nothing. -/
def State.finishPhase (s : State) (c : Option PairCopy) : State :=
  let p := s.pair
  if s.solo || !p.linkUp || p.phase = 0 || 4 ≤ p.phase then s
  else
    match p.st, c with
    | .cold, some x =>
      let s1 := match p.phase with
        | 1 => s.adoptConfig x
        | 2 => s.adoptProcessing x
        | _ => s.adoptSlots x
      (s1.setPair { s1.pair with phase := p.phase + 1, progress := 0, matched := 0, runLength := 0 }).pairEvent 10 p.st p.phase s.tick32
    | .active, none =>
      (s.setPair { p with phase := p.phase + 1, progress := 0, cfgVer := if p.phase = 1 then 0 else p.cfgVer }).pairEvent 10 p.st p.phase s.tick32
    | _, _ => s

/-! ## The meanings of the rows -/

def execDweuneCellReceive (t cseq : Nat) (crcOk : Bool) (c : Cell) (s : State) : Host.Outcome State Fault Refusal :=
  .next ((s.goto t).takeCell cseq crcOk c)

def execLinkCalibration (t : Nat) (d : Int) (s : State) : Host.Outcome State Fault Refusal := .next ((s.goto t).calibrateLink d)

def execPatchSend (t : Nat) (c : CopyId) (s : State) : Host.Outcome State Fault Refusal := .next ((s.goto t).sendPatch c)

def execHaveSetFreeze (t ptick : Nat) (s : State) : Host.Outcome State Fault Refusal := .next ((s.goto t).freezeHave ptick)

def execResyncPhaseComplete (t : Nat) (c : Option PairCopy) (s : State) : Host.Outcome State Fault Refusal :=
  .next ((s.goto t).finishPhase c)

end Sys2Proof.Machine
end

