-- ==== Sys2Proof/Machine/Tick.lean ====
section
/-! DEFINITION. The tick (01 R10-R16): the capture that ends at a boundary, the input cut-off, the deadlines, the tick's
final samples and their emission, and what happens at every boundary. -/

namespace Sys2Proof.Machine
open Sys2Proof

/-! ## The settings that take over (03 R68, R79, log 19) -/

/-- One late setting on the configuration that the tick's samples left; none where it does not go through. -/
def replayOne (w : Option State) (e : Nat × List W32) : Option State :=
  match w with
  | none => none
  | some s =>
    if e.1 = opSinksChanged then some { s with route := s.route.resetSinks s.sinkDomain (e.2.map (·.toNat)) }
    else if e.1 = opMuteEnds then some { s with route := { s.route with famMute := none } }
    else
      let a := applyAny e.1 e.2 s
      if a.status = 0 then some a.s else none

/-- The tick is over: the settings of its boundary govern the samples from here on, over the state that the samples before
left. Where they do not go through once more, the copy on which they were applied takes over. What an island that went off
kept for these samples is lost. -/
def State.mergeBack (s : State) : State :=
  match s.back with
  | none => { s with lateOps := [] }
  | some b =>
    let w0 := { s with
      route := b.route
      cald := b.cald
      meter := b.meter
      vent := { s.vent with vmap := b.vmap }
      sys := { s.sys with islands := b.islands }
      back := none
      lateOps := [] }
    let s1 := match s.lateOps.foldl replayOne (some w0) with
      | none => { s with back := none, lateOps := [] }
      | some w =>
        { s with
          route := w.route
          cald := w.cald
          meter := w.meter
          vent := { s.vent with vmap := w.vent.vmap }
          fresh := w.fresh
          back := none
          lateOps := [] }
    (keptIslands.filter (fun i => pwrOf b.islands i == .on && pwrOf s.sys.islands i == .off)).foldl (fun (s : State) i => s.loseIsland i) s1

/-! ## Capture (01 Table 1-3) -/

def State.putCap (s : State) (a : Nat) (x : List Sample) : State := { s with aud := { s.aud with cap := kset s.aud.cap a x } }

/-- The generators' samples of tick d (03 R92-R94). -/
def State.runGens (s : State) (d : Nat) : State :=
  s.route.gens.foldl (fun (s : State) e =>
    let r := e.2.samples e.1 s.route.family44 d s.fresh
    ({ s with fresh := s.fresh + 1, route := { s.route with gens := kset s.route.gens e.1 r.2 } }).putCap (0xB000 + e.1) r.1) s

/-- One sample of an ASRC channel: silence in ACQUIRE, else a free value (log 11) under the channel's fade (03 R90). -/
def Asrc.gain (c : Asrc) (locked : Bool) (j : Nat) : Nat :=
  match c.fade with
  | some (up, k) => fade64 up (k + j)
  | none => if locked then 64 else 0

/-- The converted samples of tick d of every ASRC channel (03 R87-R90). -/
def State.runAsrc (s : State) (d : Nat) : State :=
  s.route.asrc.foldl (fun (s : State) e =>
    let c := e.2
    let n := tickSamples s.route.family44 c.domain d
    let locked := (s.route.trackers.getD c.tracker Tracker.init).st == .locked
    let ys := (List.range n).map (fun j => roundDiv (satQ31 (Config.freeInt s.fresh j) * (c.gain locked j : Int)) 64)
    let fade := match c.fade with
      | some (up, k) => if 64 ≤ k + n then none else some (up, k + n)
      | none => none
    ({ s with
      fresh := s.fresh + 1
      route := { s.route with asrc := kset s.route.asrc e.1 { c with fade := fade } } }).putCap (asrcKey c.src) ys) s

/-- What the active forwards of tick d: TDM input words, stage 2 samples, and ASRC outputs (14 Table 14-6). -/
def State.sendInputs (s : State) (d : Nat) (stage2 : List (Nat × List Sample)) : State :=
  if s.leads then
    s.sendCell (.inputs ⟨d, s.aud.cap.filter (fun (e : Nat × List Sample) => addrClass e.1 == 2 || decide (0x10000 ≤ e.1)) ++ stage2⟩)
  else s

/-- The capture of tick d ends. An engine that follows decimates at the cut-off, from the forwarded samples. -/
def State.capture (s : State) (d : Nat) : State :=
  let s1 := (({ s with aud := { s.aud with cap := [] } }).runGens d).tdmCapture d
  let r := if s1.follows then ([], s1) else s1.runDec d []
  (r.2.runAsrc d).sendInputs d r.1

/-! ## The input cut-off (01 R13, R15) -/

/-- The forwarded inputs of tick d that an engine which follows uses in place of its own (14 R372). -/
def State.forwarded (s : State) (d : Nat) : List (Nat × List Sample) :=
  if s.follows then ((s.pair.inputs.find? (fun (i : PairInputs) => i.tick == d)).map (·.samples)).getD [] else []

/-- The process tick of tick d begins. -/
def State.cutoff (s : State) : State :=
  let s := s.tellLock
  let d := s.aud.dataTick
  let fwd := s.forwarded d
  let s1 := if s.follows then (s.runDec d fwd).2 else s
  let direct := fwd.filter (fun (e : Nat × List Sample) => addrClass e.1 == 2 || decide (0x10000 ≤ e.1))
  let s2 := { s1 with aud := { s1.aud with
    src := direct.foldl (fun (l : List (Nat × List Sample)) (e : Nat × List Sample) => kset l e.1 e.2) s1.aud.cap
    bridged := []
    sinks := []
    cut := true
    running := true } }
  let s3 := (List.range 64).foldl (fun (s : State) n => s.coreCutoff d n) (s2.presentStreams d)
  s3.withWork (fun s => (List.range 64).foldl (fun (s : State) n => s.zeroOuts n) s)

/-! ## The end of the process tick -/

/-- The sinks of a tick that somebody takes: routed and assigned. -/
def State.routedSinks (s : State) : List Nat :=
  (s.route.entries.map (fun (e : RouteEntry) => e.sink)).filter (fun a => addrClass a != 10 && (s.sinkDomain a).isSome)

/-- Time stands at the boundary that ends the tick. -/
def State.toEnd (s : State) : State :=
  let len := boundaryNs (s.time.tick + 1) - boundaryNs s.time.tick
  if len ≤ s.time.sub then s else s.setTime s.time.tick len (len - s.time.sub)

/-- The post deadline: phases that have not yielded overrun, and every sink's samples are final (01 R16, 05 R136). -/
def State.finishTick (s : State) : State :=
  if !s.aud.cut then s
  else
    let s1 := s.withWork (fun s =>
      let s1 := ((s.deadline false).runCaldera).deadline true
      (s1.routedSinks.foldl (fun (s : State) a => (s.runSink a).2) s1).measureTaps)
    { s1 with
      vent := { s1.vent with cores := s1.vent.cores.map (fun (c : Core) => c.endTick) }
      aud := { s1.aud with cut := false } }

/-- A sink's final samples of tick d: silence without a route. -/
def State.finalSink (s : State) (d a : Nat) : List Sample :=
  match kget s.aud.sinks a with
  | some x => x
  | none =>
    match s.sinkDomain a with
    | some dom => List.replicate (tickSamples s.route.family44 dom d) 0
    | none => []

/-- Every assigned sink of the classes that a digest covers, in ascending order of address (14 R376). -/
def State.digestSinks (s : State) (d : Nat) : List (Nat × List Sample) :=
  (([1, 3, 5, 7, 9].flatMap (fun c => (List.range (classSize c)).map (fun i => c * 4096 + i))).filter
    (fun a => (s.sinkDomain a).isSome)).map (fun a => (a, s.finalSink d a))

/-- The final samples of tick d leave: into the TDM output FIFOs, the stream packets and the modulators, and into the
digest (01 Table 1-3). -/
def State.emission (s : State) (d : Nat) : State :=
  let mods := (List.range 192).map (fun i => (0x9000 + i, s.finalSink d (0x9000 + i)))
  let s1 := (((s.tdmPush d s.aud.sinks).emitStreams d s.aud.sinks).playAll mods).trackAll mods
  if s1.solo || !s1.pair.linkUp then s1 else s1.sendDigest d (s1.digestSinks d)

/-- The samples of this tick that feedback routes take later (03 R72): of buses and Vent output slots, newest first. -/
def State.newHist (s : State) : List (Nat × List Sample) :=
  let keys := (s.aud.hist.map Prod.fst ++ (s.aud.src.map Prod.fst).filter (fun a => addrClass a == 6) ++
    s.vent.outs.map (fun (e : Nat × List Sample) => 0x8000 + e.1)).eraseDups
  keys.map (fun a =>
    let zeros := match s.srcDomain a with
      | some dom => List.replicate (tickSamples s.route.family44 (min dom 2) s.aud.dataTick) (0 : Sample)
      | none => []
    let x := s.srcSamples a
    (a, ((if x.isEmpty then zeros else x).reverse ++ kgetD s.aud.hist a []).take 16))

/-- What the ended tick leaves for the next. -/
def State.turnOver (s : State) : State :=
  { s with
    aud := { s.aud with hist := s.newHist, muted := [], sinks := [] }
    vent := { s.vent with prevOuts := s.vent.outs, outs := [] }
    cald := { s.cald with mutedBus := [], done := false }
    flt := { s.flt with evtInTick := 0 } }

/-! ## The boundary (01 R11) -/

/-- What ends with a tick at the ports. -/
def State.endPorts (s : State) : State :=
  (List.range 3).foldl (fun (s : State) i => (s.statsHalf i).dropLateAudio i) s

/-- Tick n begins. -/
def State.beginTick (s : State) (n : Nat) : State :=
  let s1 := s.setTime n 0 (boundaryNs n - s.now)
  let s2 := { s1 with
    aud := { s1.aud with dataTick := n - 1 }
    net := { s1.net with ports := s1.net.ports.map (fun (p : Port) => p.turnGates n) } }
  let s3 := s2.stepRestarts.islandTurns.runTriggers.tdmAligned.checkRevert
  (List.range 24).foldl (fun (s : State) g => (s.redoGroup g).unpause g) s3

/-- A boundary: the tick that ends is captured, the samples of the one before it are final and leave. -/
def State.boundary (s : State) : State :=
  let n := s.time.tick + 1
  let s1 := (s.toEnd.finishTick.withWork (fun s => s.compile s.aud.dataTick)).mergeBack
  let s2 := (s1.endPorts.emission s1.aud.dataTick).turnOver
  (s2.capture s2.time.tick).beginTick n

/-! ## The meanings of the rows -/

/-- In RESET no clock runs, and TB0 starts with the release (13 R340). -/
def execTickBoundary (s : State) : Host.Outcome State Fault Refusal :=
  .next (if s.sys.phase == .reset then s else s.boundary)

/-- 2.0 us after the boundary, once a tick (01 R13). -/
def execInputCutoff (s : State) : Host.Outcome State Fault Refusal :=
  .next (if s.sys.phase == .reset || s.aud.cut then s else (s.goto 2000).cutoff)

/-- 16.667 us after the boundary (05 R136). -/
def execStripDeadline (s : State) : Host.Outcome State Fault Refusal :=
  .next (if s.sys.phase == .reset || !s.aud.cut then s else (s.goto 16667).withWork (fun s => s.deadline false))

/-- 05 R136. -/
def execPostDeadline (s : State) : Host.Outcome State Fault Refusal := .next (if s.sys.phase == .reset then s else s.toEnd.finishTick)

end Sys2Proof.Machine
end

