-- ==== Sys2Proof/Machine/VentRows.lean ====
section
/-! DEFINITION. The meanings of the Vent operations (06): each row issues, on the core it names, the bundle that holds its
operation together with the other slots of the row, at the core's program counter (log 17). -/

namespace Sys2Proof.Machine
open Sys2Proof

/-- R166. -/
def execVMnop (core : Nat) (rest : MacRest) (s : State) :
    Host.Outcome State Fault Refusal :=
  onUnit (core < 64) (s.issue core (rest.bundle .mnop))

/-- R166. -/
def execVMac (core : Nat) (ds : BitVec 5) (q : BitVec 3) (skip : BitVec 4) (rest : MacRest) (s : State) :
    Host.Outcome State Fault Refusal :=
  onUnit (core < 64) (s.issue core (rest.bundle (.quad .mac ds q skip 0)))

/-- R166. -/
def execVMsu (core : Nat) (ds : BitVec 5) (q : BitVec 3) (skip : BitVec 4) (rest : MacRest) (s : State) :
    Host.Outcome State Fault Refusal :=
  onUnit (core < 64) (s.issue core (rest.bundle (.quad .msu ds q skip 0)))

/-- R166. -/
def execVMpy (core : Nat) (ds : BitVec 5) (q : BitVec 3) (skip : BitVec 4) (rest : MacRest) (s : State) :
    Host.Outcome State Fault Refusal :=
  onUnit (core < 64) (s.issue core (rest.bundle (.quad .mpy ds q skip 0)))

/-- R166. -/
def execVMpyn (core : Nat) (ds : BitVec 5) (q : BitVec 3) (skip : BitVec 4) (rest : MacRest) (s : State) :
    Host.Outcome State Fault Refusal :=
  onUnit (core < 64) (s.issue core (rest.bundle (.quad .mpyn ds q skip 0)))

/-- R167. -/
def execVMacs (core : Nat) (ds : BitVec 5) (q : BitVec 3) (skip : BitVec 4) (dt : BitVec 5) (rest : MacRest) (s : State) :
    Host.Outcome State Fault Refusal :=
  onUnit (core < 64) (s.issue core (rest.bundle (.quad .macs ds q skip dt)))

/-- R167. -/
def execVMsus (core : Nat) (ds : BitVec 5) (q : BitVec 3) (skip : BitVec 4) (dt : BitVec 5) (rest : MacRest) (s : State) :
    Host.Outcome State Fault Refusal :=
  onUnit (core < 64) (s.issue core (rest.bundle (.quad .msus ds q skip dt)))

/-- R166. -/
def execVAclr (core : Nat) (mask : BitVec 4) (rest : MacRest) (s : State) :
    Host.Outcome State Fault Refusal :=
  onUnit (core < 64) (s.issue core (rest.bundle (.aclr mask)))

/-- R168. -/
def execVAcsh (core : Nat) (acs acd : BitVec 2) (sh : BitVec 5) (rest : MacRest) (s : State) :
    Host.Outcome State Fault Refusal :=
  onUnit (core < 64) (s.issue core (rest.bundle (.acsh acs acd sh)))

/-- R168. -/
def execVAcadd (core : Nat) (acs acd : BitVec 2) (sh : BitVec 5) (rest : MacRest) (s : State) :
    Host.Outcome State Fault Refusal :=
  onUnit (core < 64) (s.issue core (rest.bundle (.acadd acs acd sh)))

/-- R168. -/
def execVAcsub (core : Nat) (acs acd : BitVec 2) (sh : BitVec 5) (rest : MacRest) (s : State) :
    Host.Outcome State Fault Refusal :=
  onUnit (core < 64) (s.issue core (rest.bundle (.acsub acs acd sh)))

/-- R166. -/
def execVAcwr (core : Nat) (acd : BitVec 2) (q : BitVec 3) (rest : MacRest) (s : State) :
    Host.Outcome State Fault Refusal :=
  onUnit (core < 64) (s.issue core (rest.bundle (.acwr acd q)))

/-- R166. -/
def execVAcrd (core : Nat) (acs : BitVec 2) (q : BitVec 3) (rest : MacRest) (s : State) :
    Host.Outcome State Fault Refusal :=
  onUnit (core < 64) (s.issue core (rest.bundle (.acrd acs q)))

/-- R166. -/
def execVAcrnd (core : Nat) (acs : BitVec 2) (sh dd : BitVec 5) (rest : MacRest) (s : State) :
    Host.Outcome State Fault Refusal :=
  onUnit (core < 64) (s.issue core (rest.bundle (.acrnd acs sh dd)))

/-- R168. -/
def execVAdd (core : Nat) (dd da db : BitVec 5) (imm : Bool) (rest : MacRest) (s : State) :
    Host.Outcome State Fault Refusal :=
  onUnit (core < 64) (s.issue core (rest.bundle (.alu .add dd da db imm)))

/-- R168. -/
def execVSub (core : Nat) (dd da db : BitVec 5) (imm : Bool) (rest : MacRest) (s : State) :
    Host.Outcome State Fault Refusal :=
  onUnit (core < 64) (s.issue core (rest.bundle (.alu .sub dd da db imm)))

/-- R168. -/
def execVAdds (core : Nat) (dd da db : BitVec 5) (imm : Bool) (rest : MacRest) (s : State) :
    Host.Outcome State Fault Refusal :=
  onUnit (core < 64) (s.issue core (rest.bundle (.alu .adds dd da db imm)))

/-- R168. -/
def execVSubs (core : Nat) (dd da db : BitVec 5) (imm : Bool) (rest : MacRest) (s : State) :
    Host.Outcome State Fault Refusal :=
  onUnit (core < 64) (s.issue core (rest.bundle (.alu .subs dd da db imm)))

/-- R168. -/
def execVAnd (core : Nat) (dd da db : BitVec 5) (imm : Bool) (rest : MacRest) (s : State) :
    Host.Outcome State Fault Refusal :=
  onUnit (core < 64) (s.issue core (rest.bundle (.alu .and dd da db imm)))

/-- R168. -/
def execVOr (core : Nat) (dd da db : BitVec 5) (imm : Bool) (rest : MacRest) (s : State) :
    Host.Outcome State Fault Refusal :=
  onUnit (core < 64) (s.issue core (rest.bundle (.alu .or dd da db imm)))

/-- R168. -/
def execVXor (core : Nat) (dd da db : BitVec 5) (imm : Bool) (rest : MacRest) (s : State) :
    Host.Outcome State Fault Refusal :=
  onUnit (core < 64) (s.issue core (rest.bundle (.alu .xor dd da db imm)))

/-- R168. -/
def execVShl (core : Nat) (dd da db : BitVec 5) (imm : Bool) (rest : MacRest) (s : State) :
    Host.Outcome State Fault Refusal :=
  onUnit (core < 64) (s.issue core (rest.bundle (.alu .shl dd da db imm)))

/-- R168. -/
def execVAsr (core : Nat) (dd da db : BitVec 5) (imm : Bool) (rest : MacRest) (s : State) :
    Host.Outcome State Fault Refusal :=
  onUnit (core < 64) (s.issue core (rest.bundle (.alu .asr dd da db imm)))

/-- R168. -/
def execVLsr (core : Nat) (dd da db : BitVec 5) (imm : Bool) (rest : MacRest) (s : State) :
    Host.Outcome State Fault Refusal :=
  onUnit (core < 64) (s.issue core (rest.bundle (.alu .lsr dd da db imm)))

/-- R168. -/
def execVMin (core : Nat) (dd da db : BitVec 5) (imm : Bool) (rest : MacRest) (s : State) :
    Host.Outcome State Fault Refusal :=
  onUnit (core < 64) (s.issue core (rest.bundle (.alu .min dd da db imm)))

/-- R168. -/
def execVMax (core : Nat) (dd da db : BitVec 5) (imm : Bool) (rest : MacRest) (s : State) :
    Host.Outcome State Fault Refusal :=
  onUnit (core < 64) (s.issue core (rest.bundle (.alu .max dd da db imm)))

/-- R168. -/
def execVAbs (core : Nat) (dd da : BitVec 5) (rest : MacRest) (s : State) :
    Host.Outcome State Fault Refusal :=
  onUnit (core < 64) (s.issue core (rest.bundle (.abs dd da)))

/-- R168. -/
def execVCmp (core : Nat) (da db : BitVec 5) (imm : Bool) (rest : MacRest) (s : State) :
    Host.Outcome State Fault Refusal :=
  onUnit (core < 64) (s.issue core (rest.bundle (.cmp da db imm)))

/-- R168. -/
def execVMovfx (core : Nat) (dd : BitVec 5) (xa : BitVec 4) (rest : MacRest) (s : State) :
    Host.Outcome State Fault Refusal :=
  onUnit (core < 64) (s.issue core (rest.bundle (.movfx dd xa)))

/-- R168. -/
def execVMovtx (core : Nat) (xd : BitVec 4) (da : BitVec 5) (rest : MacRest) (s : State) :
    Host.Outcome State Fault Refusal :=
  onUnit (core < 64) (s.issue core (rest.bundle (.movtx xd da)))

/-- R169. -/
def execVLit (core : Nat) (dest : LitDest) (value : W32) (mac : MacOp) (s : State) :
    Host.Outcome State Fault Refusal :=
  onUnit (core < 64) (s.issue core (.lit mac dest value))

/-- R170. -/
def execVLdw (core : Nat) (r : BitVec 5) (an : BitVec 3) (am : AddrMode) (rest : LsRest) (s : State) :
    Host.Outcome State Fault Refusal :=
  onUnit (core < 64) (s.issue core (rest.bundle (.ldw r an am)))

/-- R170. -/
def execVLdl (core : Nat) (rp : BitVec 4) (an : BitVec 3) (am : AddrMode) (rest : LsRest) (s : State) :
    Host.Outcome State Fault Refusal :=
  onUnit (core < 64) (s.issue core (rest.bundle (.ldl rp an am)))

/-- R170. -/
def execVStw (core : Nat) (r : BitVec 5) (an : BitVec 3) (am : AddrMode) (rest : LsRest) (s : State) :
    Host.Outcome State Fault Refusal :=
  onUnit (core < 64) (s.issue core (rest.bundle (.stw r an am)))

/-- R170. -/
def execVStl (core : Nat) (rp : BitVec 4) (an : BitVec 3) (am : AddrMode) (rest : LsRest) (s : State) :
    Host.Outcome State Fault Refusal :=
  onUnit (core < 64) (s.issue core (rest.bundle (.stl rp an am)))

/-- R170. -/
def execVLdx (core : Nat) (x : BitVec 4) (an : BitVec 3) (am : AddrMode) (rest : LsRest) (s : State) :
    Host.Outcome State Fault Refusal :=
  onUnit (core < 64) (s.issue core (rest.bundle (.ldx x an am)))

/-- R170. -/
def execVStx (core : Nat) (x : BitVec 4) (an : BitVec 3) (am : AddrMode) (rest : LsRest) (s : State) :
    Host.Outcome State Fault Refusal :=
  onUnit (core < 64) (s.issue core (rest.bundle (.stx x an am)))

/-- R170. -/
def execVStac (core : Nat) (ac : BitVec 2) (sh : BitVec 3) (an : BitVec 3) (am : AddrMode) (rest : LsRest) (s : State) :
    Host.Outcome State Fault Refusal :=
  onUnit (core < 64) (s.issue core (rest.bundle (.stac ac sh an am)))

/-- R174. -/
def execVCnop (core : Nat) (rest : CnopRest) (s : State) :
    Host.Outcome State Fault Refusal :=
  onUnit (core < 64) (s.issue core (rest.bundle))

/-- R178. -/
def execVYield (core : Nat) (rest : ShortRest) (s : State) :
    Host.Outcome State Fault Refusal :=
  onUnit (core < 64) (s.issue core (rest.bundle (.yield)))

/-- R146. -/
def execVReti (core : Nat) (rest : ShortRest) (s : State) :
    Host.Outcome State Fault Refusal :=
  onUnit (core < 64) (s.issue core (rest.bundle (.reti)))

/-- R177. -/
def execVLexit (core : Nat) (rest : ShortRest) (s : State) :
    Host.Outcome State Fault Refusal :=
  onUnit (core < 64) (s.issue core (rest.bundle (.lexit)))

/-- R176. -/
def execVJr (core : Nat) (n : BitVec 5) (rest : ShortRest) (s : State) :
    Host.Outcome State Fault Refusal :=
  onUnit (core < 64) (s.issue core (rest.bundle (.jr n)))

/-- R176. -/
def execVBr (core : Nat) (c : Cond) (target : BitVec 13) (rest : LongRest) (s : State) :
    Host.Outcome State Fault Refusal :=
  onUnit (core < 64) (s.issue core (rest.bundle (.br c target)))

/-- R176. -/
def execVCall (core : Nat) (target : BitVec 13) (dl : BitVec 5) (rest : LongRest) (s : State) :
    Host.Outcome State Fault Refusal :=
  onUnit (core < 64) (s.issue core (rest.bundle (.call target dl)))

/-- R175. -/
def execVLoopi (core : Nat) (count : BitVec 16) (last : BitVec 13) (rest : LongRest) (s : State) :
    Host.Outcome State Fault Refusal :=
  onUnit (core < 64) (s.issue core (rest.bundle (.loopi count last)))

/-- R175. -/
def execVLoopr (core : Nat) (dc : BitVec 5) (last : BitVec 13) (rest : LongRest) (s : State) :
    Host.Outcome State Fault Refusal :=
  onUnit (core < 64) (s.issue core (rest.bundle (.loopr dc last)))

/-- R174. -/
def execVLda (core : Nat) (an : BitVec 3) (imm : BitVec 18) (rest : LongRest) (s : State) :
    Host.Outcome State Fault Refusal :=
  onUnit (core < 64) (s.issue core (rest.bundle (.lda an imm)))

end Sys2Proof.Machine
end

