-- ==== Sys2Proof/Machine/Dispatch.lean ====
section
/-! DEFINITION. One arm per constructor of Instr: the command's meaning. -/

namespace Sys2Proof.Machine
open Sys2Proof

def exec (i : Instr) (s : State) : Host.Outcome State Fault Refusal :=
  match i with
  | .nop h p => Sys2Proof.Machine.execNop h p s
  | .identify h p => Sys2Proof.Machine.execIdentify h p s
  | .seqQuery h p => Sys2Proof.Machine.execSeqQuery h p s
  | .stateGet h p => Sys2Proof.Machine.execStateGet h p s
  | .blockReset st p => Sys2Proof.Machine.execBlockReset st p s
  | .powerDomain st p => Sys2Proof.Machine.execPowerDomain st p s
  | .tempGet h p => Sys2Proof.Machine.execTempGet h p s
  | .refConfig st p => Sys2Proof.Machine.execRefConfig st p s
  | .refSelect st p => Sys2Proof.Machine.execRefSelect st p s
  | .refStatus h p => Sys2Proof.Machine.execRefStatus h p s
  | .holdoverConfig st p => Sys2Proof.Machine.execHoldoverConfig st p s
  | .ptpConfig st p => Sys2Proof.Machine.execPtpConfig st p s
  | .ptpDomainSelect st p => Sys2Proof.Machine.execPtpDomainSelect st p s
  | .timebaseConfig st p => Sys2Proof.Machine.execTimebaseConfig st p s
  | .timebaseAdjust st p => Sys2Proof.Machine.execTimebaseAdjust st p s
  | .triggerSet st p => Sys2Proof.Machine.execTriggerSet st p s
  | .timeGet h p => Sys2Proof.Machine.execTimeGet h p s
  | .portConfig st p => Sys2Proof.Machine.execPortConfig st p s
  | .mdioAccess h p => Sys2Proof.Machine.execMdioAccess h p s
  | .gateListLoad st p => Sys2Proof.Machine.execGateListLoad st p s
  | .flowConfig st p => Sys2Proof.Machine.execFlowConfig st p s
  | .statsRead h p => Sys2Proof.Machine.execStatsRead h p s
  | .streamRxOpen st p => Sys2Proof.Machine.execStreamRxOpen st p s
  | .streamRxClose st p => Sys2Proof.Machine.execStreamRxClose st p s
  | .streamTxOpen st p => Sys2Proof.Machine.execStreamTxOpen st p s
  | .streamTxClose st p => Sys2Proof.Machine.execStreamTxClose st p s
  | .streamStatus h p => Sys2Proof.Machine.execStreamStatus h p s
  | .addressConfig st p => Sys2Proof.Machine.execAddressConfig st p s
  | .routeSet st p => Sys2Proof.Machine.execRouteSet st p s
  | .routeClear st p => Sys2Proof.Machine.execRouteClear st p s
  | .routeGet h p => Sys2Proof.Machine.execRouteGet h p s
  | .domainConfig st p => Sys2Proof.Machine.execDomainConfig st p s
  | .bridgeConfig st p => Sys2Proof.Machine.execBridgeConfig st p s
  | .asrcConfig st p => Sys2Proof.Machine.execAsrcConfig st p s
  | .mixShape st p => Sys2Proof.Machine.execMixShape st p s
  | .xpointWrite st p => Sys2Proof.Machine.execXpointWrite st p s
  | .gainSet st p => Sys2Proof.Machine.execGainSet st p s
  | .bankSwap st p => Sys2Proof.Machine.execBankSwap st p s
  | .limiterSet st p => Sys2Proof.Machine.execLimiterSet st p s
  | .meterConfig st p => Sys2Proof.Machine.execMeterConfig st p s
  | .meterRead h p => Sys2Proof.Machine.execMeterRead h p s
  | .peakReset st p => Sys2Proof.Machine.execPeakReset st p s
  | .ventLoad st p => Sys2Proof.Machine.execVentLoad st p s
  | .ventStart st p => Sys2Proof.Machine.execVentStart st p s
  | .ventStop st p => Sys2Proof.Machine.execVentStop st p s
  | .ventParamWrite st p => Sys2Proof.Machine.execVentParamWrite st p s
  | .ventStatus h p => Sys2Proof.Machine.execVentStatus h p s
  | .ventMap st p => Sys2Proof.Machine.execVentMap st p s
  | .decConfig st p => Sys2Proof.Machine.execDecConfig st p s
  | .decSync st p => Sys2Proof.Machine.execDecSync st p s
  | .detectConfig st p => Sys2Proof.Machine.execDetectConfig st p s
  | .dcblockConfig st p => Sys2Proof.Machine.execDcblockConfig st p s
  | .tdmConfig st p => Sys2Proof.Machine.execTdmConfig st p s
  | .tdmSlotmask st p => Sys2Proof.Machine.execTdmSlotmask st p s
  | .tdmRestart st p => Sys2Proof.Machine.execTdmRestart st p s
  | .modConfig st p => Sys2Proof.Machine.execModConfig st p s
  | .modArm st p => Sys2Proof.Machine.execModArm st p s
  | .modDisarm st p => Sys2Proof.Machine.execModDisarm st p s
  | .loadDiagRun st p => Sys2Proof.Machine.execLoadDiagRun st p s
  | .loadDiagResult h p => Sys2Proof.Machine.execLoadDiagResult h p s
  | .protectConfig st p => Sys2Proof.Machine.execProtectConfig st p s
  | .boostConfig st p => Sys2Proof.Machine.execBoostConfig st p s
  | .modChannelEnable st p => Sys2Proof.Machine.execModChannelEnable st p s
  | .pairConfig st p => Sys2Proof.Machine.execPairConfig st p s
  | .pairStatus h p => Sys2Proof.Machine.execPairStatus h p s
  | .pairHandover st p => Sys2Proof.Machine.execPairHandover st p s
  | .pairResync st p => Sys2Proof.Machine.execPairResync st p s
  | .heartbeatConfig st p => Sys2Proof.Machine.execHeartbeatConfig st p s
  | .faultStatus h p => Sys2Proof.Machine.execFaultStatus h p s
  | .faultHistory h p => Sys2Proof.Machine.execFaultHistory h p s
  | .faultClear st p => Sys2Proof.Machine.execFaultClear st p s
  | .faultReaction st p => Sys2Proof.Machine.execFaultReaction st p s
  | .journalRead h p => Sys2Proof.Machine.execJournalRead h p s
  | .storeWrite h p => Sys2Proof.Machine.execStoreWrite h p s
  | .storeRead h p => Sys2Proof.Machine.execStoreRead h p s
  | .storeStatus h p => Sys2Proof.Machine.execStoreStatus h p s
  | .sceneLoad st p => Sys2Proof.Machine.execSceneLoad st p s
  | .fwUpdate h p => Sys2Proof.Machine.execFwUpdate h p s
  | .dmaChannelConfig st p => Sys2Proof.Machine.execDmaChannelConfig st p s
  | .dmaStart st p => Sys2Proof.Machine.execDmaStart st p s
  | .dmaStatus h p => Sys2Proof.Machine.execDmaStatus h p s
  | .windowConfig st p => Sys2Proof.Machine.execWindowConfig st p s
  | .arbConfig st p => Sys2Proof.Machine.execArbConfig st p s
  | .pendingCommandApply => Sys2Proof.Machine.execPendingCommandApply s
  | .cmdWptrWrite v slots => Sys2Proof.Machine.execCmdWptrWrite v slots s
  | .commandRingTake t => Sys2Proof.Machine.execCommandRingTake t s
  | .pcieDownloadLength image len => Sys2Proof.Machine.execPcieDownloadLength image len s
  | .rplRptrWrite v => Sys2Proof.Machine.execRplRptrWrite v s
  | .evtRptrWrite v => Sys2Proof.Machine.execEvtRptrWrite v s
  | .intStatusWrite v setNow => Sys2Proof.Machine.execIntStatusWrite v setNow s
  | .intMaskWrite v => Sys2Proof.Machine.execIntMaskWrite v s
  | .intForceWrite v => Sys2Proof.Machine.execIntForceWrite v s
  | .timeNsRead t rq => Sys2Proof.Machine.execTimeNsRead t rq s
  | .qfcMapWrite v => Sys2Proof.Machine.execQfcMapWrite v s
  | .registerWrite rq off v whole => Sys2Proof.Machine.execRegisterWrite rq off v whole s
  | .spiWriteCommand t n words early => Sys2Proof.Machine.execSpiWriteCommand t n words early s
  | .spiReadPacket ack n => Sys2Proof.Machine.execSpiReadPacket ack n s
  | .spiReadStatus => Sys2Proof.Machine.execSpiReadStatus s
  | .spiDownloadAppend n words early => Sys2Proof.Machine.execSpiDownloadAppend n words early s
  | .spiDownloadLength n words early => Sys2Proof.Machine.execSpiDownloadLength n words early s
  | .spiRegisterRead t n addr => Sys2Proof.Machine.execSpiRegisterRead t n addr s
  | .spiRegisterWrite n addr words early => Sys2Proof.Machine.execSpiRegisterWrite n addr words early s
  | .tickBoundary => Sys2Proof.Machine.execTickBoundary s
  | .inputCutoff => Sys2Proof.Machine.execInputCutoff s
  | .stripDeadline => Sys2Proof.Machine.execStripDeadline s
  | .postDeadline => Sys2Proof.Machine.execPostDeadline s
  | .calderaComplete t => Sys2Proof.Machine.execCalderaComplete t s
  | .ventStripStart t core => Sys2Proof.Machine.execVentStripStart t core s
  | .ventPostStart t core => Sys2Proof.Machine.execVentPostStart t core s
  | .ventInterruptEntry t core => Sys2Proof.Machine.execVentInterruptEntry t core s
  | .ventTransferComplete t core ch err => Sys2Proof.Machine.execVentTransferComplete t core ch err s
  | .ventTransferGo core ch => Sys2Proof.Machine.execVentTransferGo core ch s
  | .ventIntCauseClear core bits => Sys2Proof.Machine.execVentIntCauseClear core bits s
  | .ventSatClear core bits => Sys2Proof.Machine.execVentSatClear core bits s
  | .vMnop core rest => Sys2Proof.Machine.execVMnop core rest s
  | .vMac core ds q skip rest => Sys2Proof.Machine.execVMac core ds q skip rest s
  | .vMsu core ds q skip rest => Sys2Proof.Machine.execVMsu core ds q skip rest s
  | .vMpy core ds q skip rest => Sys2Proof.Machine.execVMpy core ds q skip rest s
  | .vMpyn core ds q skip rest => Sys2Proof.Machine.execVMpyn core ds q skip rest s
  | .vMacs core ds q skip dt rest => Sys2Proof.Machine.execVMacs core ds q skip dt rest s
  | .vMsus core ds q skip dt rest => Sys2Proof.Machine.execVMsus core ds q skip dt rest s
  | .vAclr core mask rest => Sys2Proof.Machine.execVAclr core mask rest s
  | .vAcsh core acs acd sh rest => Sys2Proof.Machine.execVAcsh core acs acd sh rest s
  | .vAcadd core acs acd sh rest => Sys2Proof.Machine.execVAcadd core acs acd sh rest s
  | .vAcsub core acs acd sh rest => Sys2Proof.Machine.execVAcsub core acs acd sh rest s
  | .vAcwr core acd q rest => Sys2Proof.Machine.execVAcwr core acd q rest s
  | .vAcrd core acs q rest => Sys2Proof.Machine.execVAcrd core acs q rest s
  | .vAcrnd core acs sh dd rest => Sys2Proof.Machine.execVAcrnd core acs sh dd rest s
  | .vAdd core dd da db imm rest => Sys2Proof.Machine.execVAdd core dd da db imm rest s
  | .vSub core dd da db imm rest => Sys2Proof.Machine.execVSub core dd da db imm rest s
  | .vAdds core dd da db imm rest => Sys2Proof.Machine.execVAdds core dd da db imm rest s
  | .vSubs core dd da db imm rest => Sys2Proof.Machine.execVSubs core dd da db imm rest s
  | .vAnd core dd da db imm rest => Sys2Proof.Machine.execVAnd core dd da db imm rest s
  | .vOr core dd da db imm rest => Sys2Proof.Machine.execVOr core dd da db imm rest s
  | .vXor core dd da db imm rest => Sys2Proof.Machine.execVXor core dd da db imm rest s
  | .vShl core dd da db imm rest => Sys2Proof.Machine.execVShl core dd da db imm rest s
  | .vAsr core dd da db imm rest => Sys2Proof.Machine.execVAsr core dd da db imm rest s
  | .vLsr core dd da db imm rest => Sys2Proof.Machine.execVLsr core dd da db imm rest s
  | .vMin core dd da db imm rest => Sys2Proof.Machine.execVMin core dd da db imm rest s
  | .vMax core dd da db imm rest => Sys2Proof.Machine.execVMax core dd da db imm rest s
  | .vAbs core dd da rest => Sys2Proof.Machine.execVAbs core dd da rest s
  | .vCmp core da db imm rest => Sys2Proof.Machine.execVCmp core da db imm rest s
  | .vMovfx core dd xa rest => Sys2Proof.Machine.execVMovfx core dd xa rest s
  | .vMovtx core xd da rest => Sys2Proof.Machine.execVMovtx core xd da rest s
  | .vLit core dest value mac => Sys2Proof.Machine.execVLit core dest value mac s
  | .vLdw core r an am rest => Sys2Proof.Machine.execVLdw core r an am rest s
  | .vLdl core rp an am rest => Sys2Proof.Machine.execVLdl core rp an am rest s
  | .vStw core r an am rest => Sys2Proof.Machine.execVStw core r an am rest s
  | .vStl core rp an am rest => Sys2Proof.Machine.execVStl core rp an am rest s
  | .vLdx core x an am rest => Sys2Proof.Machine.execVLdx core x an am rest s
  | .vStx core x an am rest => Sys2Proof.Machine.execVStx core x an am rest s
  | .vStac core ac sh an am rest => Sys2Proof.Machine.execVStac core ac sh an am rest s
  | .vCnop core rest => Sys2Proof.Machine.execVCnop core rest s
  | .vYield core rest => Sys2Proof.Machine.execVYield core rest s
  | .vReti core rest => Sys2Proof.Machine.execVReti core rest s
  | .vLexit core rest => Sys2Proof.Machine.execVLexit core rest s
  | .vJr core n rest => Sys2Proof.Machine.execVJr core n rest s
  | .vBr core c target rest => Sys2Proof.Machine.execVBr core c target rest s
  | .vCall core target dl rest => Sys2Proof.Machine.execVCall core target dl rest s
  | .vLoopi core count last rest => Sys2Proof.Machine.execVLoopi core count last rest s
  | .vLoopr core dc last rest => Sys2Proof.Machine.execVLoopr core dc last rest s
  | .vLda core an imm rest => Sys2Proof.Machine.execVLda core an imm rest s
  | .crossfadeComplete t sink => Sys2Proof.Machine.execCrossfadeComplete t sink s
  | .gainTimeout t bus idx => Sys2Proof.Machine.execGainTimeout t bus idx s
  | .bankLockEnd => Sys2Proof.Machine.execBankLockEnd s
  | .meterPublication t => Sys2Proof.Machine.execMeterPublication t s
  | .familyChangeMuteEnd => Sys2Proof.Machine.execFamilyChangeMuteEnd s
  | .asrcLock t tracker => Sys2Proof.Machine.execAsrcLock t tracker s
  | .asrcUnlock t tracker => Sys2Proof.Machine.execAsrcUnlock t tracker s
  | .decSyncInEdge t => Sys2Proof.Machine.execDecSyncInEdge t s
  | .decimatorSync => Sys2Proof.Machine.execDecimatorSync s
  | .decSettleEnd ctx => Sys2Proof.Machine.execDecSettleEnd ctx s
  | .detectorBlockEnd t ctx => Sys2Proof.Machine.execDetectorBlockEnd t ctx s
  | .stuckDetect t ctx value => Sys2Proof.Machine.execStuckDetect t ctx value s
  | .fastPathValue t ctx bits => Sys2Proof.Machine.execFastPathValue t ctx bits s
  | .senseStatusWord t lane w density => Sys2Proof.Machine.execSenseStatusWord t lane w density s
  | .stageReady g => Sys2Proof.Machine.execStageReady g s
  | .stageTimeout t g => Sys2Proof.Machine.execStageTimeout t g s
  | .diagStepEnd g meas => Sys2Proof.Machine.execDiagStepEnd g meas s
  | .diagComplete t g => Sys2Proof.Machine.execDiagComplete t g s
  | .rampUpComplete g => Sys2Proof.Machine.execRampUpComplete g s
  | .disarmFadeComplete g => Sys2Proof.Machine.execDisarmFadeComplete g s
  | .rampDownComplete g => Sys2Proof.Machine.execRampDownComplete g s
  | .overcurrentTrip t ch high => Sys2Proof.Machine.execOvercurrentTrip t ch high s
  | .psFltAssert t g => Sys2Proof.Machine.execPsFltAssert t g s
  | .psFltRelease t g => Sys2Proof.Machine.execPsFltRelease t g s
  | .psFaultTimeout t g => Sys2Proof.Machine.execPsFaultTimeout t g s
  | .channelRetryStart ch => Sys2Proof.Machine.execChannelRetryStart ch s
  | .failureCountReset ch => Sys2Proof.Machine.execFailureCountReset ch s
  | .channelEnterComplete ch => Sys2Proof.Machine.execChannelEnterComplete ch s
  | .channelLeaveComplete ch => Sys2Proof.Machine.execChannelLeaveComplete ch s
  | .boostOvervoltage t g => Sys2Proof.Machine.execBoostOvervoltage t g s
  | .boostUndervoltage t g => Sys2Proof.Machine.execBoostUndervoltage t g s
  | .tdmFrameStart t g bclks rate din => Sys2Proof.Machine.execTdmFrameStart t g bclks rate din s
  | .tdmGroupQualify g => Sys2Proof.Machine.execTdmGroupQualify g s
  | .tdmGroupLoss t g cause => Sys2Proof.Machine.execTdmGroupLoss t g cause s
  | .frameReceive t port f => Sys2Proof.Machine.execFrameReceive t port f s
  | .pauseTimerExpire t port unit => Sys2Proof.Machine.execPauseTimerExpire t port unit s
  | .pauseRepeat t port unit => Sys2Proof.Machine.execPauseRepeat t port unit s
  | .pauseWatchdog t port unit => Sys2Proof.Machine.execPauseWatchdog t port unit s
  | .frameTransmit t port => Sys2Proof.Machine.execFrameTransmit t port s
  | .gateEntryBoundary t port => Sys2Proof.Machine.execGateEntryBoundary t port s
  | .linkUp t port rate => Sys2Proof.Machine.execLinkUp t port rate s
  | .linkDown t port => Sys2Proof.Machine.execLinkDown t port s
  | .queueDataRead t master q => Sys2Proof.Machine.execQueueDataRead t master q s
  | .queueDataWrite t master q w => Sys2Proof.Machine.execQueueDataWrite t master q w s
  | .queueCommit t master q w => Sys2Proof.Machine.execQueueCommit t master q w s
  | .queueRewind t master q => Sys2Proof.Machine.execQueueRewind t master q s
  | .streamPacketCommit t port => Sys2Proof.Machine.execStreamPacketCommit t port s
  | .streamPathDown t slot port => Sys2Proof.Machine.execStreamPathDown t slot port s
  | .streamLost t slot => Sys2Proof.Machine.execStreamLost t slot s
  | .refDisqualify t ref cause => Sys2Proof.Machine.execRefDisqualify t ref cause s
  | .refQualifying t ref => Sys2Proof.Machine.execRefQualifying t ref s
  | .refQualified t ref => Sys2Proof.Machine.execRefQualified t ref s
  | .refFrequencyMeasure t rfreq dfreq dphase => Sys2Proof.Machine.execRefFrequencyMeasure t rfreq dfreq dphase s
  | .dpllLock t dpll refTime => Sys2Proof.Machine.execDpllLock t dpll refTime s
  | .dpllSwitchComplete t dpll offset refTime => Sys2Proof.Machine.execDpllSwitchComplete t dpll offset refTime s
  | .holdoverExpired t dpll => Sys2Proof.Machine.execHoldoverExpired t dpll s
  | .ageingLearn t rate resid hours => Sys2Proof.Machine.execAgeingLearn t rate resid hours s
  | .islandClockFail t island => Sys2Proof.Machine.execIslandClockFail t island s
  | .timeSteerEnd t tb => Sys2Proof.Machine.execTimeSteerEnd t tb s
  | .stepMuteEnd => Sys2Proof.Machine.execStepMuteEnd s
  | .eventTimeEpoch t => Sys2Proof.Machine.execEventTimeEpoch t s
  | .ptpMessageReceive t which port m => Sys2Proof.Machine.execPtpMessageReceive t which port m s
  | .ptpSample t which err pred freq => Sys2Proof.Machine.execPtpSample t which err pred freq s
  | .ptpCalibrated t which => Sys2Proof.Machine.execPtpCalibrated t which s
  | .ptpDomainLost t which cause => Sys2Proof.Machine.execPtpDomainLost t which cause s
  | .trigInEdge t pin => Sys2Proof.Machine.execTrigInEdge t pin s
  | .triggerFire t trig => Sys2Proof.Machine.execTriggerFire t trig s
  | .heartbeatSend t k => Sys2Proof.Machine.execHeartbeatSend t k s
  | .heartbeatCheck t k => Sys2Proof.Machine.execHeartbeatCheck t k s
  | .kaInEdge t => Sys2Proof.Machine.execKaInEdge t s
  | .kaLost t => Sys2Proof.Machine.execKaLost t s
  | .guardRelease t => Sys2Proof.Machine.execGuardRelease t s
  | .startupWaitExpire t => Sys2Proof.Machine.execStartupWaitExpire t s
  | .dweuneLinkUp t => Sys2Proof.Machine.execDweuneLinkUp t s
  | .dweuneLinkDown t => Sys2Proof.Machine.execDweuneLinkDown t s
  | .dweuneCellReceive t cseq crcOk c => Sys2Proof.Machine.execDweuneCellReceive t cseq crcOk c s
  | .linkCalibration t d => Sys2Proof.Machine.execLinkCalibration t d s
  | .patchSend t c => Sys2Proof.Machine.execPatchSend t c s
  | .haveSetFreeze t ptick => Sys2Proof.Machine.execHaveSetFreeze t ptick s
  | .digestCompare t tick => Sys2Proof.Machine.execDigestCompare t tick s
  | .resyncPhaseComplete t c => Sys2Proof.Machine.execResyncPhaseComplete t c s
  | .resyncRetry t => Sys2Proof.Machine.execResyncRetry t s
  | .holdOffExpire t => Sys2Proof.Machine.execHoldOffExpire t s
  | .handoverInstant t => Sys2Proof.Machine.execHandoverInstant t s
  | .networkHeartbeatSend t => Sys2Proof.Machine.execNetworkHeartbeatSend t s
  | .conduitRequest t master addr op lock release holder => Sys2Proof.Machine.execConduitRequest t master addr op lock release holder s
  | .transactionComplete t target ok => Sys2Proof.Machine.execTransactionComplete t target ok s
  | .busTimeout t target => Sys2Proof.Machine.execBusTimeout t target s
  | .starvation t target master => Sys2Proof.Machine.execStarvation t target master s
  | .lockTimeout t target => Sys2Proof.Machine.execLockTimeout t target s
  | .dmaDescriptorComplete t ch => Sys2Proof.Machine.execDmaDescriptorComplete t ch s
  | .dmaXferErr t ch moved fetch notify => Sys2Proof.Machine.execDmaXferErr t ch moved fetch notify s
  | .islandDrainComplete t island forced => Sys2Proof.Machine.execIslandDrainComplete t island forced s
  | .islandStartComplete island => Sys2Proof.Machine.execIslandStartComplete island s
  | .faultMessageReceive t m => Sys2Proof.Machine.execFaultMessageReceive t m s
  | .firstFaultClose t => Sys2Proof.Machine.execFirstFaultClose t s
  | .flashOperationComplete t readBack => Sys2Proof.Machine.execFlashOperationComplete t readBack s
  | .flashOperationTimeout t => Sys2Proof.Machine.execFlashOperationTimeout t s
  | .storeSessionTimeout t region => Sys2Proof.Machine.execStoreSessionTimeout t region s
  | .coldReset => Sys2Proof.Machine.execColdReset s
  | .warmReset => Sys2Proof.Machine.execWarmReset s
  | .resetRelease boot role host vddioA => Sys2Proof.Machine.execResetRelease boot role host vddioA s
  | .bootComplete t => Sys2Proof.Machine.execBootComplete t s
  | .perstAssert => Sys2Proof.Machine.execPerstAssert s
  | .perstRelease t => Sys2Proof.Machine.execPerstRelease t s
  | .pwrgdFall => Sys2Proof.Machine.execPwrgdFall s
  | .pcieLinkDown t => Sys2Proof.Machine.execPcieLinkDown t s
  | .supplyFault t index supply mv => Sys2Proof.Machine.execSupplyFault t index supply mv s
  | .thermalSample t temps => Sys2Proof.Machine.execThermalSample t temps s
  | .pauseIgnoreEnd t port unit => Sys2Proof.Machine.execPauseIgnoreEnd t port unit s
  | .ptpMessageTransmit t which port k => Sys2Proof.Machine.execPtpMessageTransmit t which port k s
  | .standbyAligned t => Sys2Proof.Machine.execStandbyAligned t s
  | .ctrlWatchdog t => Sys2Proof.Machine.execCtrlWatchdog t s
  | .mdioTransactionComplete t data => Sys2Proof.Machine.execMdioTransactionComplete t data s
  | .msixMaskClear vec => Sys2Proof.Machine.execMsixMaskClear vec s
  | .pcieLinkUp t => Sys2Proof.Machine.execPcieLinkUp t s
  | .ioSupplyLoss modGroup => Sys2Proof.Machine.execIoSupplyLoss modGroup s
  | .fuseProgramming words => Sys2Proof.Machine.execFuseProgramming words s

end Sys2Proof.Machine
end

