-- ==== Sys2Proof/Safety.lean ====
section
/-! DEFINITION. The terms in which claims about the engine are stated: the canonical form of memory, the conditions under
which a command packet is taken, the rows grouped by kind, the conditions under which a Vent bundle runs, and the parts of
the state that a family of commands may touch. -/

namespace Sys2Proof.Machine
open Sys2Proof

/-! ## Memory -/

/-- Memory is in its canonical form. -/
def State.memOk (s : State) : Bool := memWf s.mem

/-! ## Packets -/

/-- The query rows: opcode, row, and what answers it. -/
def queryRows : List (Nat × (CmdHead → List W32 → Instr) × (List W32 → State → Ans)) :=
  [((0x00 : Nat), Instr.nop, queryNop),
    ((0x01 : Nat), Instr.identify, queryIdentify),
    ((0x03 : Nat), Instr.stateGet, queryStateGet),
    ((0x07 : Nat), Instr.tempGet, queryTempGet),
    ((0x12 : Nat), Instr.refStatus, queryRefStatus),
    ((0x19 : Nat), Instr.timeGet, queryTimeGet),
    ((0x23 : Nat), Instr.statsRead, queryStatsRead),
    ((0x28 : Nat), Instr.streamStatus, queryStreamStatus),
    ((0x32 : Nat), Instr.routeGet, queryRouteGet),
    ((0x46 : Nat), Instr.meterRead, queryMeterRead),
    ((0x54 : Nat), Instr.ventStatus, queryVentStatus),
    ((0x74 : Nat), Instr.loadDiagResult, queryLoadDiagResult),
    ((0x81 : Nat), Instr.pairStatus, queryPairStatus),
    ((0x90 : Nat), Instr.faultStatus, queryFaultStatus),
    ((0x91 : Nat), Instr.faultHistory, queryFaultHistory),
    ((0x94 : Nat), Instr.journalRead, queryJournalRead),
    ((0xB2 : Nat), Instr.dmaStatus, queryDmaStatus)]

/-- The rows of state-changing packets: opcode, row, and what happens at the target tick. -/
def settingRows : List (Nat × (Stage → List W32 → Instr) × (List W32 → State → Ans)) :=
  [((0x04 : Nat), Instr.blockReset, applyBlockReset),
    ((0x06 : Nat), Instr.powerDomain, applyPowerDomain),
    ((0x10 : Nat), Instr.refConfig, applyRefConfig),
    ((0x11 : Nat), Instr.refSelect, applyRefSelect),
    ((0x13 : Nat), Instr.holdoverConfig, applyHoldoverConfig),
    ((0x14 : Nat), Instr.ptpConfig, applyPtpConfig),
    ((0x15 : Nat), Instr.ptpDomainSelect, applyPtpDomainSelect),
    ((0x16 : Nat), Instr.timebaseConfig, applyTimebaseConfig),
    ((0x17 : Nat), Instr.timebaseAdjust, applyTimebaseAdjust),
    ((0x18 : Nat), Instr.triggerSet, applyTriggerSet),
    ((0x20 : Nat), Instr.portConfig, applyPortConfig),
    ((0x21 : Nat), Instr.gateListLoad, applyGateListLoad),
    ((0x22 : Nat), Instr.flowConfig, applyFlowConfig),
    ((0x24 : Nat), Instr.streamRxOpen, applyStreamRxOpen),
    ((0x25 : Nat), Instr.streamRxClose, applyStreamRxClose),
    ((0x26 : Nat), Instr.streamTxOpen, applyStreamTxOpen),
    ((0x27 : Nat), Instr.streamTxClose, applyStreamTxClose),
    ((0x29 : Nat), Instr.addressConfig, applyAddressConfig),
    ((0x30 : Nat), Instr.routeSet, applyRouteSet),
    ((0x31 : Nat), Instr.routeClear, applyRouteClear)] ++
  [((0x33 : Nat), Instr.domainConfig, applyDomainConfig),
    ((0x34 : Nat), Instr.bridgeConfig, applyBridgeConfig),
    ((0x35 : Nat), Instr.asrcConfig, applyAsrcConfig),
    ((0x40 : Nat), Instr.mixShape, applyMixShape),
    ((0x41 : Nat), Instr.xpointWrite, applyXpointWrite),
    ((0x42 : Nat), Instr.gainSet, applyGainSet),
    ((0x43 : Nat), Instr.bankSwap, applyBankSwap),
    ((0x44 : Nat), Instr.limiterSet, applyLimiterSet),
    ((0x45 : Nat), Instr.meterConfig, applyMeterConfig),
    ((0x47 : Nat), Instr.peakReset, applyPeakReset),
    ((0x50 : Nat), Instr.ventLoad, applyVentLoad),
    ((0x51 : Nat), Instr.ventStart, applyVentStart),
    ((0x52 : Nat), Instr.ventStop, applyVentStop),
    ((0x53 : Nat), Instr.ventParamWrite, applyVentParamWrite),
    ((0x55 : Nat), Instr.ventMap, applyVentMap),
    ((0x60 : Nat), Instr.decConfig, applyDecConfig),
    ((0x61 : Nat), Instr.decSync, applyDecSync),
    ((0x62 : Nat), Instr.detectConfig, applyDetectConfig),
    ((0x63 : Nat), Instr.dcblockConfig, applyDcblockConfig),
    ((0x64 : Nat), Instr.tdmConfig, applyTdmConfig)] ++
  [((0x65 : Nat), Instr.tdmSlotmask, applyTdmSlotmask),
    ((0x66 : Nat), Instr.tdmRestart, applyTdmRestart),
    ((0x70 : Nat), Instr.modConfig, applyModConfig),
    ((0x71 : Nat), Instr.modArm, applyModArm),
    ((0x72 : Nat), Instr.modDisarm, applyModDisarm),
    ((0x73 : Nat), Instr.loadDiagRun, applyLoadDiagRun),
    ((0x75 : Nat), Instr.protectConfig, applyProtectConfig),
    ((0x76 : Nat), Instr.boostConfig, applyBoostConfig),
    ((0x77 : Nat), Instr.modChannelEnable, applyModChannelEnable),
    ((0x80 : Nat), Instr.pairConfig, applyPairConfig),
    ((0x82 : Nat), Instr.pairHandover, applyPairHandover),
    ((0x83 : Nat), Instr.pairResync, applyPairResync),
    ((0x84 : Nat), Instr.heartbeatConfig, applyHeartbeatConfig),
    ((0x92 : Nat), Instr.faultClear, applyFaultClear),
    ((0x93 : Nat), Instr.faultReaction, applyFaultReaction),
    ((0xA3 : Nat), Instr.sceneLoad, applySceneLoad),
    ((0xB0 : Nat), Instr.dmaChannelConfig, applyDmaChannelConfig),
    ((0xB1 : Nat), Instr.dmaStart, applyDmaStart),
    ((0xB3 : Nat), Instr.windowConfig, applyWindowConfig),
    ((0xB4 : Nat), Instr.arbConfig, applyArbConfig)]

/-- The rows of commands that are neither: SEQ_QUERY, MDIO, and those of the store. -/
def immediateRows : List (Nat × (CmdHead → List W32 → Instr) × (Cmd → State → State)) :=
  [((0x02 : Nat), Instr.seqQuery, takeSeqQuery),
    ((0x20 : Nat), Instr.mdioAccess, takeMdio),
    ((0xA0 : Nat), Instr.storeWrite, takeStoreWrite),
    ((0xA1 : Nat), Instr.storeRead, takeStoreRead),
    ((0xA2 : Nat), Instr.storeStatus, takeStoreStatus),
    ((0xA4 : Nat), Instr.fwUpdate, takeFwUpdate)]

/-- Every packet row that arrives on a channel, with its opcode. -/
def arrivals : List (Nat × (CmdHead → List W32 → Instr)) :=
  queryRows.map (fun e => (e.1, e.2.1)) ++ settingRows.map (fun e => (e.1, fun h => e.2.1 (.arrive h))) ++
    immediateRows.map (fun e => (e.1, e.2.1))

/-- The engine when a packet reaches the command service: time has moved on, and a key that STORE_WRITE left is in force. -/
def State.arrived (s : State) (h : CmdHead) : State := (s.goto h.t).keyTurn h.chan

/-- The channel carries the packet into the framing check (02 R33, R55-R57, 19 R526). -/
def State.admits (s : State) (h : CmdHead) (op : Nat) (p : List W32) : Prop :=
  s.serviced = true ∧ (h.chan = .pcie → s.sys.hostSel = true ∧ s.host.perst = false) ∧
    (h.chan = .udp → (s.arrived h).udpAdmits h.src (commandWords h op p) = true)

/-- The host number is the one that the channel expects, or its first (02 R40). -/
def State.expects (s : State) (h : CmdHead) : Prop :=
  ((s.arrived h).chan h.chan).expect = none ∨ ((s.arrived h).chan h.chan).expect = some h.seq

/-- A packet of an opcode is taken: admitted, of a length that the opcode allows, in sequence, with room among the
outstanding commands, and answered in the present system state. -/
def State.takes (s : State) (h : CmdHead) (op : Nat) (p : List W32) : Prop :=
  s.admits h op p ∧ lenAllowed op (p.length + 3) = true ∧ s.expects h ∧ (s.arrived h).outstanding h.chan < 64 ∧
    (s.sys.phase = .halted → answeredHalted op = true)

/-- The engine once a packet in sequence is accepted: the channel holds its number and expects the next. -/
def State.accepted (s : State) (h : CmdHead) : State :=
  let a := s.arrived h
  a.setChan h.chan { (a.chan h.chan).hold h.seq with expect := some (h.seq + 1) }

/-- The reply of a packet that the engine refuses or answers before anything fixes a tick. -/
def State.repliesFree (s : State) (h : CmdHead) (op status : Nat) (held : Bool) : State :=
  s.freeTick.2.sendReply h.chan h.src op status h.seq s.freeTick.1 [] held

/-! ## Vent rows -/

/-- The core and the bundle of a Vent row; none of the other rows. -/
def ventBundle (i : Instr) : Option (Nat × Bundle) :=
  match i with
  | .vMnop core rest => some (core, rest.bundle .mnop)
  | .vMac core ds q skip rest => some (core, rest.bundle (.quad .mac ds q skip 0))
  | .vMsu core ds q skip rest => some (core, rest.bundle (.quad .msu ds q skip 0))
  | .vMpy core ds q skip rest => some (core, rest.bundle (.quad .mpy ds q skip 0))
  | .vMpyn core ds q skip rest => some (core, rest.bundle (.quad .mpyn ds q skip 0))
  | .vMacs core ds q skip dt rest => some (core, rest.bundle (.quad .macs ds q skip dt))
  | .vMsus core ds q skip dt rest => some (core, rest.bundle (.quad .msus ds q skip dt))
  | .vAclr core mask rest => some (core, rest.bundle (.aclr mask))
  | .vAcsh core acs acd sh rest => some (core, rest.bundle (.acsh acs acd sh))
  | .vAcadd core acs acd sh rest => some (core, rest.bundle (.acadd acs acd sh))
  | .vAcsub core acs acd sh rest => some (core, rest.bundle (.acsub acs acd sh))
  | .vAcwr core acd q rest => some (core, rest.bundle (.acwr acd q))
  | .vAcrd core acs q rest => some (core, rest.bundle (.acrd acs q))
  | .vAcrnd core acs sh dd rest => some (core, rest.bundle (.acrnd acs sh dd))
  | .vAdd core dd da db imm rest => some (core, rest.bundle (.alu .add dd da db imm))
  | .vSub core dd da db imm rest => some (core, rest.bundle (.alu .sub dd da db imm))
  | .vAdds core dd da db imm rest => some (core, rest.bundle (.alu .adds dd da db imm))
  | .vSubs core dd da db imm rest => some (core, rest.bundle (.alu .subs dd da db imm))
  | .vAnd core dd da db imm rest => some (core, rest.bundle (.alu .and dd da db imm))
  | .vOr core dd da db imm rest => some (core, rest.bundle (.alu .or dd da db imm))
  | .vXor core dd da db imm rest => some (core, rest.bundle (.alu .xor dd da db imm))
  | .vShl core dd da db imm rest => some (core, rest.bundle (.alu .shl dd da db imm))
  | .vAsr core dd da db imm rest => some (core, rest.bundle (.alu .asr dd da db imm))
  | .vLsr core dd da db imm rest => some (core, rest.bundle (.alu .lsr dd da db imm))
  | .vMin core dd da db imm rest => some (core, rest.bundle (.alu .min dd da db imm))
  | .vMax core dd da db imm rest => some (core, rest.bundle (.alu .max dd da db imm))
  | .vAbs core dd da rest => some (core, rest.bundle (.abs dd da))
  | .vCmp core da db imm rest => some (core, rest.bundle (.cmp da db imm))
  | .vMovfx core dd xa rest => some (core, rest.bundle (.movfx dd xa))
  | .vMovtx core xd da rest => some (core, rest.bundle (.movtx xd da))
  | .vLit core dest value mac => some (core, .lit mac dest value)
  | .vLdw core r an am rest => some (core, rest.bundle (.ldw r an am))
  | .vLdl core rp an am rest => some (core, rest.bundle (.ldl rp an am))
  | .vStw core r an am rest => some (core, rest.bundle (.stw r an am))
  | .vStl core rp an am rest => some (core, rest.bundle (.stl rp an am))
  | .vLdx core x an am rest => some (core, rest.bundle (.ldx x an am))
  | .vStx core x an am rest => some (core, rest.bundle (.stx x an am))
  | .vStac core ac sh an am rest => some (core, rest.bundle (.stac ac sh an am))
  | .vCnop core rest => some (core, rest.bundle)
  | .vYield core rest => some (core, rest.bundle (.yield))
  | .vReti core rest => some (core, rest.bundle (.reti))
  | .vLexit core rest => some (core, rest.bundle (.lexit))
  | .vJr core n rest => some (core, rest.bundle (.jr n))
  | .vBr core c target rest => some (core, rest.bundle (.br c target))
  | .vCall core target dl rest => some (core, rest.bundle (.call target dl))
  | .vLoopi core count last rest => some (core, rest.bundle (.loopi count last))
  | .vLoopr core dc last rest => some (core, rest.bundle (.loopr dc last))
  | .vLda core an imm rest => some (core, rest.bundle (.lda an imm))
  | _ => none

/-- What a core sees when it issues: the state with every due result retired, and the state that the bundle changes. -/
def State.seen (s : State) (n : Nat) : State × State := (s.retireDue n).view n

/-- The registers that a bundle reads. -/
def State.seenRegs (s : State) (n : Nat) : RegSet := ((s.seen n).1.core n).regs

/-- The core exists, is active, and the bundle meets no trap. -/
def State.issues (s : State) (n : Nat) (b : Bundle) : Prop :=
  n < 64 ∧ (s.core n).active = true ∧ (s.seen n).1.trapOf n b ((s.seen n).1.core n) = none

/-- A result of the bundle that core n issued in s stands in flight in t, to be seen lat bundles later, in the register set
that issued it. -/
def State.result (s : State) (n : Nat) (t : State) (lat : Nat) (x : Retire) : Prop :=
  ∃ f ∈ (t.core n).infl, f.due = (s.core n).cyc + lat ∧ f.shadow = (s.core n).handler.isSome ∧ f.act = x

/-- The bundle ends its phase. -/
def MacRest.yields : MacRest → Bool
  | .full _ _ c => c == .yield
  | .lit _ _ => false

def LsRest.yields : LsRest → Bool
  | .full _ _ _ c => c == .yield
  | .long _ _ _ => false

/-- The rows of the ALU operations with two operands. -/
def aluRows : List (AluOp × (Nat → BitVec 5 → BitVec 5 → BitVec 5 → Bool → MacRest → Instr)) :=
  [(.add, Instr.vAdd), (.sub, Instr.vSub), (.adds, Instr.vAdds), (.subs, Instr.vSubs), (.and, Instr.vAnd), (.or, Instr.vOr),
   (.xor, Instr.vXor), (.shl, Instr.vShl), (.asr, Instr.vAsr), (.lsr, Instr.vLsr), (.min, Instr.vMin), (.max, Instr.vMax)]

/-- The slots beside a lone operation: nothing else. -/
def bare : MacRest := .full .nop .nop .cnop

/-- Nothing beside a lone control operation. -/
def bareShort : ShortRest := ⟨.mnop, .nop, .nop⟩

def bareLong : LongRest := ⟨.nop, .nop⟩

/-- Nothing beside a lone load/store operation. -/
def bareLs : LsRest := .full false .mnop .nop .cnop

/-- An address of a core's data or instruction memory. -/
def inCore (n a : Nat) : Prop := (dataBase n ≤ a ∧ a < dataBase n + 0x40000) ∨ (instBase n ≤ a ∧ a < instBase n + 0x10000)

/-- Every store that a core has in flight is an aligned word of its own memory. -/
def Core.storesLocal (c : Core) : Prop := ∀ f ∈ c.infl, ∀ a w, f.act = .store a w → a % 4 = 0 ∧ a < 0x40000

/-- The store addresses of a bundle do not reach the reserved top of the Basin (19 R521). -/
def clearOfTop (b : Bundle) (r : RegSet) : Prop :=
  ∀ x ∈ b.accesses r, x.1.isStore = true → ¬(0x215FFFF8 < x.2.2.1 ∧ x.2.2.1 < 0x21800000)

end Sys2Proof.Machine
end

