-- ==== Sys2Proof/WellFormed.lean ====
section
/-! DEFINITION. The well-formed commands: a packet row has a length that its opcode allows (18 Table 18-1) and the form
that its row names, a Vent operation belongs to a core and lies in a bundle that has an encoding (06), and a happening
names units that the engine has. -/

namespace Sys2Proof
open Sys2Proof.Machine

/-- The slots beside a MAC-slot operation have an encoding. -/
def MacRestOk (r : MacRest) : Bool :=
  match r with
  | .full _ _ _ => true
  | .lit _ _ => true

/-- The slots beside a load/store operation have an encoding. -/
def LsRestOk (r : LsRest) : Bool :=
  match r with
  | .full _ m _ _ => m.wf
  | .long _ _ c => c.wf

def CnopRestOk (r : CnopRest) : Bool :=
  match r with
  | .short r => r.mac.wf
  | .long _ => true

/-- A packet of an opcode with these parameter words has a length that 02 R32 accepts. -/
def PacketOk (op : Nat) (p : List W32) : Bool := lenAllowed op (p.length + 3)

def Instr.wf (i : Instr) : Bool :=
  match i with
  | .nop _ p => PacketOk 0x00 p
  | .identify _ p => PacketOk 0x01 p
  | .seqQuery _ p => PacketOk 0x02 p
  | .stateGet _ p => PacketOk 0x03 p
  | .blockReset _ p => PacketOk 0x04 p
  | .powerDomain _ p => PacketOk 0x06 p
  | .tempGet _ p => PacketOk 0x07 p
  | .refConfig _ p => PacketOk 0x10 p
  | .refSelect _ p => PacketOk 0x11 p
  | .refStatus _ p => PacketOk 0x12 p
  | .holdoverConfig _ p => PacketOk 0x13 p
  | .ptpConfig _ p => PacketOk 0x14 p
  | .ptpDomainSelect _ p => PacketOk 0x15 p
  | .timebaseConfig _ p => PacketOk 0x16 p
  | .timebaseAdjust _ p => PacketOk 0x17 p
  | .triggerSet _ p => PacketOk 0x18 p
  | .timeGet _ p => PacketOk 0x19 p
  | .portConfig _ p => PacketOk 0x20 p && !bit (pw p 3) 31
  | .mdioAccess _ p => decide (p.length = 2) && bit (pw p 3) 31
  | .gateListLoad _ p => PacketOk 0x21 p
  | .flowConfig _ p => PacketOk 0x22 p
  | .statsRead _ p => PacketOk 0x23 p
  | .streamRxOpen _ p => PacketOk 0x24 p
  | .streamRxClose _ p => PacketOk 0x25 p
  | .streamTxOpen _ p => PacketOk 0x26 p
  | .streamTxClose _ p => PacketOk 0x27 p
  | .streamStatus _ p => PacketOk 0x28 p
  | .addressConfig _ p => PacketOk 0x29 p
  | .routeSet _ p => PacketOk 0x30 p
  | .routeClear _ p => PacketOk 0x31 p
  | .routeGet _ p => PacketOk 0x32 p
  | .domainConfig _ p => PacketOk 0x33 p
  | .bridgeConfig _ p => PacketOk 0x34 p
  | .asrcConfig _ p => PacketOk 0x35 p
  | .mixShape _ p => PacketOk 0x40 p
  | .xpointWrite _ p => PacketOk 0x41 p
  | .gainSet _ p => PacketOk 0x42 p
  | .bankSwap _ p => PacketOk 0x43 p
  | .limiterSet _ p => PacketOk 0x44 p
  | .meterConfig _ p => PacketOk 0x45 p
  | .meterRead _ p => PacketOk 0x46 p
  | .peakReset _ p => PacketOk 0x47 p
  | .ventLoad _ p => PacketOk 0x50 p
  | .ventStart _ p => PacketOk 0x51 p
  | .ventStop _ p => PacketOk 0x52 p
  | .ventParamWrite _ p => PacketOk 0x53 p
  | .ventStatus _ p => PacketOk 0x54 p
  | .ventMap _ p => PacketOk 0x55 p
  | .decConfig _ p => PacketOk 0x60 p
  | .decSync _ p => PacketOk 0x61 p
  | .detectConfig _ p => PacketOk 0x62 p
  | .dcblockConfig _ p => PacketOk 0x63 p
  | .tdmConfig _ p => PacketOk 0x64 p
  | .tdmSlotmask _ p => PacketOk 0x65 p
  | .tdmRestart _ p => PacketOk 0x66 p
  | .modConfig _ p => PacketOk 0x70 p
  | .modArm _ p => PacketOk 0x71 p
  | .modDisarm _ p => PacketOk 0x72 p
  | .loadDiagRun _ p => PacketOk 0x73 p
  | .loadDiagResult _ p => PacketOk 0x74 p
  | .protectConfig _ p => PacketOk 0x75 p
  | .boostConfig _ p => PacketOk 0x76 p
  | .modChannelEnable _ p => PacketOk 0x77 p
  | .pairConfig _ p => PacketOk 0x80 p
  | .pairStatus _ p => PacketOk 0x81 p
  | .pairHandover _ p => PacketOk 0x82 p
  | .pairResync _ p => PacketOk 0x83 p
  | .heartbeatConfig _ p => PacketOk 0x84 p
  | .faultStatus _ p => PacketOk 0x90 p
  | .faultHistory _ p => PacketOk 0x91 p
  | .faultClear _ p => PacketOk 0x92 p
  | .faultReaction _ p => PacketOk 0x93 p
  | .journalRead _ p => PacketOk 0x94 p
  | .storeWrite _ p => PacketOk 0xA0 p
  | .storeRead _ p => PacketOk 0xA1 p
  | .storeStatus _ p => PacketOk 0xA2 p
  | .sceneLoad _ p => PacketOk 0xA3 p
  | .fwUpdate _ p => PacketOk 0xA4 p
  | .dmaChannelConfig _ p => PacketOk 0xB0 p
  | .dmaStart _ p => PacketOk 0xB1 p
  | .dmaStatus _ p => PacketOk 0xB2 p
  | .windowConfig _ p => PacketOk 0xB3 p
  | .arbConfig _ p => PacketOk 0xB4 p
  | .pendingCommandApply => true
  | .cmdWptrWrite _ _ => true
  | .commandRingTake _ => true
  | .pcieDownloadLength _ _ => true
  | .rplRptrWrite _ => true
  | .evtRptrWrite _ => true
  | .intStatusWrite _ _ => true
  | .intMaskWrite _ => true
  | .intForceWrite _ => true
  | .timeNsRead _ _ => true
  | .qfcMapWrite _ => true
  | .registerWrite _ _ _ _ => true
  | .spiWriteCommand _ _ _ _ => true
  | .spiReadPacket _ _ => true
  | .spiReadStatus => true
  | .spiDownloadAppend _ _ _ => true
  | .spiDownloadLength _ _ _ => true
  | .spiRegisterRead _ _ _ => true
  | .spiRegisterWrite _ _ _ _ => true
  | .tickBoundary => true
  | .inputCutoff => true
  | .stripDeadline => true
  | .postDeadline => true
  | .calderaComplete _ => true
  | .ventStripStart _ core => decide (core < 64)
  | .ventPostStart _ core => decide (core < 64)
  | .ventInterruptEntry _ core => decide (core < 64)
  | .ventTransferComplete _ core ch _ => decide (core < 64 ∧ ch < 4)
  | .ventTransferGo core ch => decide (core < 64 ∧ ch < 4)
  | .ventIntCauseClear core _ => decide (core < 64)
  | .ventSatClear core _ => decide (core < 64)
  | .vMnop core rest => decide (core < 64) && MacRestOk rest
  | .vMac core _ _ _ rest => decide (core < 64) && MacRestOk rest
  | .vMsu core _ _ _ rest => decide (core < 64) && MacRestOk rest
  | .vMpy core _ _ _ rest => decide (core < 64) && MacRestOk rest
  | .vMpyn core _ _ _ rest => decide (core < 64) && MacRestOk rest
  | .vMacs core _ _ _ _ rest => decide (core < 64) && MacRestOk rest
  | .vMsus core _ _ _ _ rest => decide (core < 64) && MacRestOk rest
  | .vAclr core _ rest => decide (core < 64) && MacRestOk rest
  | .vAcsh core _ _ _ rest => decide (core < 64) && MacRestOk rest
  | .vAcadd core _ _ _ rest => decide (core < 64) && MacRestOk rest
  | .vAcsub core _ _ _ rest => decide (core < 64) && MacRestOk rest
  | .vAcwr core _ _ rest => decide (core < 64) && MacRestOk rest
  | .vAcrd core _ _ rest => decide (core < 64) && MacRestOk rest
  | .vAcrnd core _ _ _ rest => decide (core < 64) && MacRestOk rest
  | .vAdd core _ _ _ _ rest => decide (core < 64) && MacRestOk rest
  | .vSub core _ _ _ _ rest => decide (core < 64) && MacRestOk rest
  | .vAdds core _ _ _ _ rest => decide (core < 64) && MacRestOk rest
  | .vSubs core _ _ _ _ rest => decide (core < 64) && MacRestOk rest
  | .vAnd core _ _ _ _ rest => decide (core < 64) && MacRestOk rest
  | .vOr core _ _ _ _ rest => decide (core < 64) && MacRestOk rest
  | .vXor core _ _ _ _ rest => decide (core < 64) && MacRestOk rest
  | .vShl core _ _ _ _ rest => decide (core < 64) && MacRestOk rest
  | .vAsr core _ _ _ _ rest => decide (core < 64) && MacRestOk rest
  | .vLsr core _ _ _ _ rest => decide (core < 64) && MacRestOk rest
  | .vMin core _ _ _ _ rest => decide (core < 64) && MacRestOk rest
  | .vMax core _ _ _ _ rest => decide (core < 64) && MacRestOk rest
  | .vAbs core _ _ rest => decide (core < 64) && MacRestOk rest
  | .vCmp core _ _ _ rest => decide (core < 64) && MacRestOk rest
  | .vMovfx core _ _ rest => decide (core < 64) && MacRestOk rest
  | .vMovtx core _ _ rest => decide (core < 64) && MacRestOk rest
  | .vLit core _ _ mac => decide (core < 64) && mac.wf
  | .vLdw core _ _ _ rest => decide (core < 64) && LsRestOk rest
  | .vLdl core _ _ _ rest => decide (core < 64) && LsRestOk rest
  | .vStw core _ _ _ rest => decide (core < 64) && LsRestOk rest
  | .vStl core _ _ _ rest => decide (core < 64) && LsRestOk rest
  | .vLdx core _ _ _ rest => decide (core < 64) && LsRestOk rest
  | .vStx core _ _ _ rest => decide (core < 64) && LsRestOk rest
  | .vStac core _ _ _ _ rest => decide (core < 64) && LsRestOk rest
  | .vCnop core rest => decide (core < 64) && CnopRestOk rest
  | .vYield core rest => decide (core < 64) && rest.mac.wf
  | .vReti core rest => decide (core < 64) && rest.mac.wf
  | .vLexit core rest => decide (core < 64) && rest.mac.wf
  | .vJr core _ rest => decide (core < 64) && rest.mac.wf
  | .vBr core _ _ _ => decide (core < 64)
  | .vCall core _ _ _ => decide (core < 64)
  | .vLoopi core count _ _ => decide (core < 64) && count != 0
  | .vLoopr core _ _ _ => decide (core < 64)
  | .vLda core _ _ _ => decide (core < 64)
  | .crossfadeComplete _ _ => true
  | .gainTimeout _ _ _ => true
  | .bankLockEnd => true
  | .meterPublication _ => true
  | .familyChangeMuteEnd => true
  | .asrcLock _ tracker => decide (tracker < 16)
  | .asrcUnlock _ tracker => decide (tracker < 16)
  | .decSyncInEdge _ => true
  | .decimatorSync => true
  | .decSettleEnd ctx => decide (ctx < 512)
  | .detectorBlockEnd _ ctx => decide (ctx < 512)
  | .stuckDetect _ ctx _ => decide (ctx < 512)
  | .fastPathValue _ ctx _ => decide (ctx < 560)
  | .senseStatusWord _ lane _ _ => decide (lane < 24)
  | .stageReady g => decide (g < 24)
  | .stageTimeout _ g => decide (g < 24)
  | .diagStepEnd g _ => decide (g < 24)
  | .diagComplete _ g => decide (g < 24)
  | .rampUpComplete g => decide (g < 24)
  | .disarmFadeComplete g => decide (g < 24)
  | .rampDownComplete g => decide (g < 24)
  | .overcurrentTrip _ ch _ => decide (ch < 192)
  | .psFltAssert _ g => decide (g < 24)
  | .psFltRelease _ g => decide (g < 24)
  | .psFaultTimeout _ g => decide (g < 24)
  | .channelRetryStart ch => decide (ch < 192)
  | .failureCountReset ch => decide (ch < 192)
  | .channelEnterComplete ch => decide (ch < 192)
  | .channelLeaveComplete ch => decide (ch < 192)
  | .boostOvervoltage _ g => decide (g < 24)
  | .boostUndervoltage _ g => decide (g < 24)
  | .tdmFrameStart _ g _ _ _ => decide (g < 8)
  | .tdmGroupQualify g => decide (g < 8)
  | .tdmGroupLoss _ g _ => decide (g < 8)
  | .frameReceive _ port _ => decide (port < 3)
  | .pauseTimerExpire _ port unit => decide (port < 3 ∧ unit ≤ 8)
  | .pauseRepeat _ port unit => decide (port < 3 ∧ unit ≤ 8)
  | .pauseWatchdog _ port unit => decide (port < 3 ∧ unit ≤ 8)
  | .frameTransmit _ port => decide (port < 3)
  | .gateEntryBoundary _ port => decide (port < 3)
  | .linkUp _ port _ => decide (port < 3)
  | .linkDown _ port => decide (port < 3)
  | .queueDataRead _ master q => decide (master < 13 ∧ q < 48)
  | .queueDataWrite _ master q _ => decide (master < 13 ∧ q < 48)
  | .queueCommit _ master q _ => decide (master < 13 ∧ q < 48)
  | .queueRewind _ master q => decide (master < 13 ∧ q < 48)
  | .streamPacketCommit _ port => decide (port < 2)
  | .streamPathDown _ slot port => decide (slot < 256 ∧ port < 2)
  | .streamLost _ slot => decide (slot < 256)
  | .refDisqualify _ ref _ => decide (ref < 9)
  | .refQualifying _ ref => decide (ref < 9)
  | .refQualified _ ref => decide (ref < 9)
  | .refFrequencyMeasure _ _ _ _ => true
  | .dpllLock _ dpll _ => decide (dpll < 2)
  | .dpllSwitchComplete _ dpll _ _ => decide (dpll < 2)
  | .holdoverExpired _ dpll => decide (dpll < 2)
  | .ageingLearn _ _ _ _ => true
  | .islandClockFail _ island => decide (island < 16)
  | .timeSteerEnd _ tb => decide (tb < 2)
  | .stepMuteEnd => true
  | .eventTimeEpoch _ => true
  | .ptpMessageReceive _ which port _ => decide (which < 2 ∧ port < 3)
  | .ptpSample _ which _ _ _ => decide (which < 2)
  | .ptpCalibrated _ which => decide (which < 2)
  | .ptpDomainLost _ which _ => decide (which < 2)
  | .trigInEdge _ pin => decide (pin < 4)
  | .triggerFire _ trig => decide (trig < 16)
  | .heartbeatSend _ k => decide (k < 32)
  | .heartbeatCheck _ k => decide (k < 32)
  | .kaInEdge _ => true
  | .kaLost _ => true
  | .guardRelease _ => true
  | .startupWaitExpire _ => true
  | .dweuneLinkUp _ => true
  | .dweuneLinkDown _ => true
  | .dweuneCellReceive _ _ _ _ => true
  | .linkCalibration _ _ => true
  | .patchSend _ _ => true
  | .haveSetFreeze _ _ => true
  | .digestCompare _ _ => true
  | .resyncPhaseComplete _ _ => true
  | .resyncRetry _ => true
  | .holdOffExpire _ => true
  | .handoverInstant _ => true
  | .networkHeartbeatSend _ => true
  | .conduitRequest _ master _ _ _ _ _ => decide (master < 13)
  | .transactionComplete _ target _ => decide (target < 13)
  | .busTimeout _ target => decide (target < 13)
  | .starvation _ target master => decide (target < 13 ∧ master < 13)
  | .lockTimeout _ target => decide (target < 13)
  | .dmaDescriptorComplete _ ch => decide (ch < 32)
  | .dmaXferErr _ ch _ _ _ => decide (ch < 32)
  | .islandDrainComplete _ island _ => decide (island < 16)
  | .islandStartComplete island => decide (island < 16)
  | .faultMessageReceive _ _ => true
  | .firstFaultClose _ => true
  | .flashOperationComplete _ _ => true
  | .flashOperationTimeout _ => true
  | .storeSessionTimeout _ region => decide (region < 4)
  | .coldReset => true
  | .warmReset => true
  | .resetRelease _ _ _ _ => true
  | .bootComplete _ => true
  | .perstAssert => true
  | .perstRelease _ => true
  | .pwrgdFall => true
  | .pcieLinkDown _ => true
  | .supplyFault _ _ _ _ => true
  | .thermalSample _ _ => true
  | .pauseIgnoreEnd _ port unit => decide (port < 3 ∧ unit ≤ 8)
  | .ptpMessageTransmit _ which port _ => decide (which < 2 ∧ port < 3)
  | .standbyAligned _ => true
  | .ctrlWatchdog _ => true
  | .mdioTransactionComplete _ _ => true
  | .msixMaskClear vec => decide (vec.getD 0 < 32)
  | .pcieLinkUp _ => true
  | .ioSupplyLoss _ => true
  | .fuseProgramming _ => true

end Sys2Proof
end

