-- ==== Sys2Proof/Certificates/Slice0/Obligations.lean ====
section
/-! DEFINITION. The statements about the engine that the provers are asked to prove, one definition each. -/

open Sys2Proof Sys2Proof.Machine

/-- A step runs the command at the front of the queue on the state with the rest of the queue (02_command_protocol R37). -/
def Obligations.StepRunsTheFrontCommand : Prop :=
  ∀ (c : Instr) (rest : List Instr) (s : State),
    step { s with pending := c :: rest } = exec c { s with pending := rest }

/-- With an empty queue the block only lets its Vent cores fetch, and idles when none of them is active (05_vent_cores
R134, log 1 (DESIGN CHOICE)). -/
def Obligations.EmptyQueueRunsTheCores : Prop :=
  (∀ s : State, s.pending = [] → (∀ n, n < 64 → (s.core n).active = false) → step s = .next s) ∧
    (∀ (s : State) (k : Nat), s.pending = [] → k < 64 →
      (∀ n, n < 64 → n ≠ k → (s.core n).active = false ∧ ((s.fetchIssue k).core n).active = false) →
      step s = .next (s.fetchIssue k))

/-- Each of the 17 queries executes when its packet is accepted and is answered at once, whatever its apply tick (R38). -/
def Obligations.QueriesAnswerWhenAccepted : Prop :=
  ∀ e ∈ queryRows, ∀ (h : CmdHead) (p : List W32) (s : State), s.takes h e.1 p →
    let r := e.2.2 p (s.accepted h)
    exec (e.2.1 h p) s =
      .next (r.s.sendReply h.chan h.src e.1 r.status h.seq (s.accepted h).tick32 r.data true)

/-- NOP is answered with OK under the device counter and changes nothing but its channel (R43, R40, R484,
18_command_reference Table 18-1). -/
def Obligations.NopIsAnsweredAndNumbered : Prop :=
  ∀ (h : CmdHead) (p : List W32) (s : State), s.takes h 0x00 p →
    ∃ t, exec (.nop h p) s = .next t ∧
      (t.chan h.chan).dev = (s.chan h.chan).dev + 1 ∧ (t.chan h.chan).expect = some (h.seq + 1) ∧
      (∀ d, d ≠ h.chan → t.chan d = s.chan d) ∧
      (t.chan h.chan).nos.any (fun n => n.seq == h.seq &&
        n.reply == some (replyWords 0x00 0 h.seq (s.chan h.chan).dev s.tick32 [])) = true ∧
      t.sys = s.sys ∧ t.flt = s.flt ∧ t.route = s.route ∧ t.cald = s.cald ∧ t.meter = s.meter ∧ t.vent = s.vent ∧
      t.dec = s.dec ∧ t.gey = s.gey ∧ t.tdm = s.tdm ∧ t.strm = s.strm ∧ t.pair = s.pair ∧ t.cond = s.cond ∧
      t.dma = s.dma ∧ t.store = s.store ∧ t.mem = s.mem ∧ t.host.cmds = s.host.cmds ∧ t.time = (s.goto h.t).time

/-- In the solo role a state-changing packet waits for its target tick, with ACCEPTED when that is not the first
eligible one (R34, R35, R489). -/
def Obligations.SettingsWaitForTheirTick : Prop :=
  ∀ e ∈ settingRows, e.1 ≠ 0xA3 → ∀ (h : CmdHead) (p : List W32) (s : State), s.takes h e.1 p → s.solo = true →
    (∀ target late, resolveTick (s.accepted h).now (s.accepted h).lead h.applyTick = some (target, late) →
      let a := s.accepted h
      let q : Pend := ⟨e.1, p, target, a.now, .host h.chan h.src, h.seq, late, false, h.noReply⟩
      let t := { a with host := { a.host with cmds := a.host.cmds ++ [q] } }
      exec (e.2.1 (.arrive h) p) s =
        .next (if target = firstTick a.now a.lead ∨ h.noReply = true then t
          else t.sendReply h.chan h.src e.1 1 h.seq (w32 target) [] true)) ∧
    (resolveTick (s.accepted h).now (s.accepted h).lead h.applyTick = none →
      exec (e.2.1 (.arrive h) p) s = .next ((s.accepted h).repliesFree h e.1 8 true))

/-- The target tick of R34 is the named tick or the first boundary at least L after the stamp, never one before it
(R34). -/
def Obligations.TargetTicksAreEligible : Prop :=
  ∀ (stamp lead : Nat) (a : W32),
    (∀ m, firstTick stamp lead ≤ m ↔ 3 * (stamp + lead) ≤ 125000 * m) ∧
    resolveTick stamp lead 0 = some (firstTick stamp lead, false) ∧
    (a ≠ 0 → ∀ d, d = (a - w32 (tickOf stamp)).toNat →
      ((d = 0 ∨ 2 ^ 31 ≤ d) → resolveTick stamp lead a = some (firstTick stamp lead, true)) ∧
      (2 ^ 24 < d → d < 2 ^ 31 → resolveTick stamp lead a = none) ∧
      (0 < d → d ≤ 2 ^ 24 → firstTick stamp lead ≤ tickOf stamp + d →
        resolveTick stamp lead a = some (tickOf stamp + d, false) ∧ w32 (tickOf stamp + d) = a) ∧
      (0 < d → d ≤ 2 ^ 24 → tickOf stamp + d < firstTick stamp lead →
        resolveTick stamp lead a = some (firstTick stamp lead, true)))

/-- In a pair the active sends a mirrored command to the standby, which forwards its own to the active or answers
NOT_OWNER (R59, R60, R61). -/
def Obligations.MirroredCommandsInAPair : Prop :=
  ∀ e ∈ settingRows, e.1 ≠ 0xA3 → ∀ (h : CmdHead) (p : List W32) (s : State), s.takes h e.1 p → s.solo = false →
    mirroredOp e.1 p = true →
    let a := s.accepted h
    (h.mirror = true → s.pair.owner = true → ∀ target late,
      resolveTick a.now a.lead h.applyTick = some (target, late) → target = firstTick a.now a.lead →
      exec (e.2.1 (.arrive h) p) s = .next
        (({ a with host := { a.host with cmds := a.host.cmds ++
            [(⟨e.1, p, target, a.now, .host h.chan h.src, h.seq, late, false, h.noReply⟩ : Pend)] } }).sendCell
          (.command e.1 target p))) ∧
    (h.mirror = true → s.pair.owner = false → s.pair.linkUp = true →
      exec (e.2.1 (.arrive h) p) s = .next
        (({ a with pair := { a.pair with
            fwdTag := a.pair.fwdTag + 1
            fwd := a.pair.fwd ++ [(⟨a.pair.fwdTag, e.1, .host h.chan h.src, h.seq, false, h.noReply⟩ : Fwd)] } }).sendCell
          (.forward a.pair.fwdTag e.1 h.applyTick p))) ∧
    (h.mirror = true → s.pair.owner = false → s.pair.linkUp = false →
      exec (e.2.1 (.arrive h) p) s = .next (a.repliesFree h e.1 7 true)) ∧
    (h.mirror = false → ∀ target late,
      resolveTick a.now a.lead h.applyTick = some (target, late) → target = firstTick a.now a.lead →
      exec (e.2.1 (.arrive h) p) s = .next
        { a with host := { a.host with cmds := a.host.cmds ++
            [(⟨e.1, p, target, a.now, .host h.chan h.src, h.seq, late, false, h.noReply⟩ : Pend)] } })

/-- A state-changing command that applies takes effect whole, or changes nothing when its status is not OK (R487, R60,
R375). -/
def Obligations.SettingsApplyWholeOrNotAtAll : Prop :=
  ∀ e ∈ settingRows, ∀ (p : List W32) (s : State),
    ((e.2.2 p s).status ≠ 0 → exec (e.2.1 .apply p) s = .next s) ∧
    ((e.2.2 p s).status = 0 → ∃ t, exec (e.2.1 .apply p) s = .next t ∧
      t = ((e.2.2 p s).s.keepBack s e.1 p).applied ∧ t.pair.cfgVer = (e.2.2 p s).s.pair.cfgVer + 1 ∧
      t.sys.phase ≠ .ready)

/-- At a boundary the pending commands that are due apply in tick order, then in the order of their stamps, then PCIe,
SPI, UDP (R37). -/
def Obligations.DueCommandsApplyInOrder : Prop :=
  (∀ s : State, (∀ p ∈ s.host.cmds, s.time.tick < p.target) → exec .pendingCommandApply s = .next s) ∧
    (∀ (s : State) (p : Pend), s.nextDue = some p →
      p ∈ s.host.cmds ∧ p.target ≤ s.time.tick ∧
      (∀ q ∈ s.host.cmds, q.target ≤ s.time.tick →
        p.target < q.target ∨ (p.target = q.target ∧ (p.stamp < q.stamp ∨ (p.stamp = q.stamp ∧ p.org.rank ≤ q.org.rank)))) ∧
      (∀ pre post, s.host.cmds = pre ++ p :: post → p ∉ pre →
        ∀ q ∈ pre, q.target ≤ s.time.tick → q.target = p.target →
          p.stamp < q.stamp ∨ (p.stamp = q.stamp ∧ p.org.rank < q.org.rank)) ∧
      exec .pendingCommandApply s = .next (State.applyPending (s.host.cmds.length - 1)
        (({ s with host := { s.host with cmds := s.host.cmds.erase p } }).applyPend p (applyAny p.op)))) ∧
    (∀ (s : State), (∃ p ∈ s.host.cmds, p.target ≤ s.time.tick) → s.nextDue.isSome = true)

/-- What R40 makes of a host number: in sequence, a repeat, a gap that is filled, or out of window (R40, R41, R43). -/
def Obligations.HostNumbersFollowTheWindow : Prop :=
  ∀ (ch : ChanSt) (auth : Bool) (q : W32),
    (∀ g x, ch.check auth q = .run g x → x.nos.any (fun n => n.seq == q && n.reply.isNone) = true ∧ x.dev = ch.dev ∧ x.evts = ch.evts) ∧
    (ch.expect = none → ∃ x, ch.check auth q = .run false x ∧ x.expect = some (q + 1) ∧ x.gaps = ch.gaps) ∧
    (∀ e, ch.expect = some e →
      (q = e → ∃ x, ch.check auth q = .run false x ∧ x.expect = some (e + 1) ∧ x.gaps = ch.gaps) ∧
      (2 ^ 32 - 64 ≤ (q - e).toNat → ∀ n, ch.nos.find? (fun m => m.seq == q) = some n → ch.check auth q = .again n) ∧
      (2 ^ 32 - 64 ≤ (q - e).toNat → ch.nos.find? (fun m => m.seq == q) = none →
        ∃ x, ch.check auth q = .run true x ∧ x.expect = some e ∧ x.gaps = ch.gaps) ∧
      (q ≠ e → (q - e).toNat < 2 ^ 32 - 64 → auth = true → 2 ^ 31 ≤ (q - e).toNat → ch.check auth q = .drop) ∧
      (q ≠ e → (q - e).toNat < 2 ^ 32 - 64 → auth = false ∨ (q - e).toNat < 2 ^ 31 →
        ∃ x, ch.check auth q = .run true x ∧ x.expect = some (q + 1) ∧ x.gaps = ch.gaps + 1))

/-- A repeated number, a wrong length or a 65th outstanding command is answered and executes nothing (R31, R32, R39,
R40, R489). -/
def Obligations.RepeatsAndRefusalsLeaveNoTrace : Prop :=
  (∀ e ∈ arrivals, e.1 ≠ 0x02 → ∀ (h : CmdHead) (p : List W32) (s : State) (x : W32) (n : HeldNo),
    s.admits h e.1 p → lenAllowed e.1 (p.length + 3) = true →
    ((s.arrived h).chan h.chan).expect = some x → 2 ^ 32 - 64 ≤ (h.seq - x).toNat →
    ((s.arrived h).chan h.chan).nos.find? (fun m => m.seq == h.seq) = some n →
    (∀ ws, n.reply = some ws → exec (e.2 h p) s = .next ((s.arrived h).deliverReply h.chan h.src ws) ∧
      ((s.arrived h).deliverReply h.chan h.src ws).chan h.chan = (s.arrived h).chan h.chan) ∧
    (n.reply = none → n.suppressed = true → exec (e.2 h p) s = .next (s.arrived h)) ∧
    (n.reply = none → n.suppressed = false → exec (e.2 h p) s = .next ((s.arrived h).setChan h.chan
      { (s.arrived h).chan h.chan with nos := ((s.arrived h).chan h.chan).nos.map (fun m =>
          if m.seq == h.seq then { m with copies := m.copies ++ [h.src] } else m) }))) ∧
    (∀ e ∈ arrivals, ∀ (h : CmdHead) (p : List W32) (s : State), s.admits h e.1 p → p.length < 65533 →
      lenAllowed e.1 (p.length + 3) = false →
      exec (e.2 h p) s = .next ((s.arrived h).repliesFree h e.1 4 false) ∧
      (((s.arrived h).repliesFree h e.1 4 false).chan h.chan).expect = ((s.arrived h).chan h.chan).expect ∧
      (((s.arrived h).repliesFree h e.1 4 false).chan h.chan).nos = ((s.arrived h).chan h.chan).nos) ∧
    (∀ e ∈ arrivals, e.1 ≠ 0x02 → ∀ (h : CmdHead) (p : List W32) (s : State), s.admits h e.1 p →
      lenAllowed e.1 (p.length + 3) = true → s.expects h →
      ((s.arrived h).chan h.chan).expect ≠ none → 64 ≤ (s.arrived h).outstanding h.chan →
      exec (e.2 h p) s = .next ((s.arrived h).repliesFree h e.1 2 false) ∧
      (((s.arrived h).repliesFree h e.1 2 false).chan h.chan).expect = ((s.arrived h).chan h.chan).expect ∧
      (((s.arrived h).repliesFree h e.1 2 false).chan h.chan).nos = ((s.arrived h).chan h.chan).nos)

/-- A due command is checked against its boundary and finally answered; in HALTED all but six packets are answered
FAULTED (R31, R33, R35, R36, R487, R489). -/
def Obligations.CommandsAreFinallyAnswered : Prop :=
  (∀ (s : State) (p : Pend), s.host.cmds = [p] → p.target ≤ s.time.tick →
    let b := { s with host := { s.host with cmds := [] } }
    let a := applyAny p.op p.par b
    exec .pendingCommandApply s = .next
      (if s.sys.phase = .halted then b.answer p.org p.op 0x0B p.seq (w32 p.target) [] true
       else if a.status = 0 then
         let c := (a.s.keepBack b p.op p.par).applied
         if p.late = false ∧ p.gap = false ∧ p.noReply = true then c.suppress p.org p.seq
         else c.answer p.org p.op (if p.late then 6 else if p.gap then 5 else 0) p.seq (w32 p.target) a.data true
       else b.answer p.org p.op a.status p.seq (w32 p.target) a.data true)) ∧
    (∀ e ∈ arrivals, answeredHalted e.1 = false → ∀ (h : CmdHead) (p : List W32) (s : State),
      s.admits h e.1 p → lenAllowed e.1 (p.length + 3) = true → s.expects h →
      (s.arrived h).outstanding h.chan < 64 → s.sys.phase = .halted → s.solo = true →
      exec (e.2 h p) s = .next ((s.accepted h).repliesFree h e.1 0x0B true)) ∧
    (∀ e ∈ arrivals, ∀ (h : CmdHead) (p : List W32) (s : State), s.sys.ctrlAlive = false →
      exec (e.2 h p) s = .next (s.goto h.t))

/-- CMD_WPTR, RPL_RPTR and EVT_RPTR take writes in range, discard or refuse the others as R516 says (R516). -/
def Obligations.RingPointersTakeForwardWrites : Prop :=
  ∀ (v : W32) (s : State), s.sys.hostSel = true → s.host.perst = false →
    let p : W16 := v.truncate 16
    ((p = s.host.cmdW → exec (.cmdWptrWrite v []) s = .next s) ∧
      (p ≠ s.host.cmdW → 1 ≤ (p - s.host.cmdR).toNat → (p - s.host.cmdR).toNat ≤ 64 →
        exec (.cmdWptrWrite v []) s = .next { s with host := { s.host with cmdW := p } }) ∧
      (p ≠ s.host.cmdW → ¬(1 ≤ (p - s.host.cmdR).toNat ∧ (p - s.host.cmdR).toNat ≤ 64) →
        exec (.cmdWptrWrite v []) s = .next (s.hostError .pcie))) ∧
    (((s.host.rplW - p).toNat ≤ 64 → (p - s.host.rplR).toNat < 2 ^ 15 →
        ∃ t, exec (.rplRptrWrite v) s = .next t ∧ t.host.rplR = p ∧ t.host.cmdW = s.host.cmdW ∧ t.host.evtR = s.host.evtR ∧
          t.host.chPcie = s.host.chPcie ∧ t.sys = s.sys ∧ t.flt = s.flt ∧ t.vent = s.vent ∧ t.mem = s.mem) ∧
      (¬((s.host.rplW - p).toNat ≤ 64 ∧ (p - s.host.rplR).toNat < 2 ^ 15) →
        exec (.rplRptrWrite v) s = .next (s.hostError .pcie))) ∧
    ((2 ^ 15 ≤ (p - s.host.evtR).toNat → exec (.evtRptrWrite v) s = .next s) ∧
      ((p - s.host.evtR).toNat < 2 ^ 15 → (s.host.evtW - p).toNat ≤ 256 →
        exec (.evtRptrWrite v) s = .next { s with host := { s.host with evtR := p } }) ∧
      ((p - s.host.evtR).toNat < 2 ^ 15 → 256 < (s.host.evtW - p).toNat →
        exec (.evtRptrWrite v) s = .next (s.hostError .pcie)))

/-- INT_STATUS, INT_MASK and INT_FORCE: which bits change and which MSI-X vectors are sent, held or left alone (R517,
R523). -/
def Obligations.InterruptRegistersAndVectors : Prop :=
  let same (s t : State) : Prop := t = { s with host := { s.host with
      intStatus := t.host.intStatus, intMask := t.host.intMask, msixPend := t.host.msixPend,
      msixVec := t.host.msixVec, msixFn := t.host.msixFn }, out := t.out }
    let sends (s t : State) (P : Nat → Prop) : Prop :=
      ∃ vs : List Nat, t.out = s.out ++ vs.map Out.msix ∧ vs.Nodup ∧ ∀ n,
        (n ∈ vs ↔ P n ∧ s.host.msixFn = false ∧ s.host.msixVec.getLsbD n = false) ∧
        (t.host.msixPend.getLsbD n = true ↔ s.host.msixPend.getLsbD n = true ∨
          (P n ∧ (s.host.msixFn = true ∨ s.host.msixVec.getLsbD n = true)))
    let settable (s : State) (n : Nat) : Prop := n < 11 ∧ (n ≤ 1 → s.sys.hostSel = true)
    ∀ (v w : W32) (s : State),
    (∃ t, exec (.intStatusWrite v w) s = .next t ∧ same s t ∧ t.host.intMask = s.host.intMask ∧
      (∀ n, n < 32 → (t.host.intStatus.getLsbD n = true ↔ (w.getLsbD n = true ∧ settable s n) ∨
        (s.host.intStatus.getLsbD n = true ∧ v.getLsbD n = false))) ∧
      sends s t (fun n => w.getLsbD n = true ∧ settable s n ∧ s.host.intMask.getLsbD n = false ∧
        (s.host.intStatus.getLsbD n = false ∨ v.getLsbD n = true))) ∧
    (∃ t, exec (.intForceWrite v) s = .next t ∧ same s t ∧ t.host.intMask = s.host.intMask ∧
      (∀ n, n < 32 → (t.host.intStatus.getLsbD n = true ↔ (v.getLsbD n = true ∧ settable s n) ∨
        s.host.intStatus.getLsbD n = true)) ∧
      sends s t (fun n => v.getLsbD n = true ∧ settable s n ∧ s.host.intMask.getLsbD n = false ∧
        s.host.intStatus.getLsbD n = false)) ∧
    (∃ t, exec (.intMaskWrite v) s = .next t ∧ same s t ∧ t.host.intStatus = s.host.intStatus ∧
      t.host.intMask = v &&& 0x7FF ∧
      sends s t (fun n => n < 11 ∧ s.host.intMask.getLsbD n = true ∧ v.getLsbD n = false ∧
        s.host.intStatus.getLsbD n = true)) ∧
    (∀ vec : Option Nat, vec.getD 0 < 32 → ∃ t, exec (.msixMaskClear vec) s = .next t ∧ same s t ∧
      t.host.intStatus = s.host.intStatus ∧ t.host.intMask = s.host.intMask ∧
      (∀ n, n < 32 → t.host.msixVec.getLsbD n = (s.host.msixVec.getLsbD n && !(vec == some n))) ∧
      (t.host.msixFn = (s.host.msixFn && vec.isSome)) ∧
      (∀ n, n < 32 → t.host.msixPend.getLsbD n = (s.host.msixPend.getLsbD n && (t.host.msixFn || t.host.msixVec.getLsbD n))) ∧
      ∃ vs : List Nat, t.out = s.out ++ vs.map Out.msix ∧ ∀ n, n ∈ vs ↔
        n < 32 ∧ s.host.msixPend.getLsbD n = true ∧ t.host.msixFn = false ∧ t.host.msixVec.getLsbD n = false)

/-- Register writes act only as whole aligned words, a TIME_NS read latches for its requester, QFC_MAP takes what is
written (R513, R514, R515, R519, R430). -/
def Obligations.RegisterFileAccesses : Prop :=
  (∀ rq off v s, exec (.registerWrite rq off v false) s = .next s) ∧
    (∀ rq off v whole s, off % 4 ≠ 0 → exec (.registerWrite rq off v whole) s = .next s) ∧
    (∀ rq off v whole s, off ∉ [0x0100, 0x010C, 0x0114, 0x0200, 0x0204, 0x0208, 0x0600] → off < 0x8000 ∨ 0x8200 ≤ off →
      exec (.registerWrite rq off v whole) s = .next s) ∧
    (∀ off v whole s, 0x0100 ≤ off → off ≤ 0x0114 → exec (.registerWrite .spi off v whole) s = .next s) ∧
    (∀ rq v s, s.sys.phase ≠ .boot → (rq = .pcie → s.sys.hostSel = true ∧ s.host.perst = false) →
      exec (.registerWrite rq 0x0204 v true) s = exec (.intMaskWrite v) s ∧
      exec (.registerWrite rq 0x0200 v true) s = exec (.intStatusWrite v 0) s ∧
      exec (.registerWrite rq 0x0208 v true) s = exec (.intForceWrite v) s ∧
      exec (.registerWrite rq 0x0600 v true) s = exec (.qfcMapWrite v) s) ∧
    (∀ v s, s.sys.phase ≠ .boot → s.sys.hostSel = true → s.host.perst = false →
      exec (.registerWrite .pcie 0x0100 v true) s = exec (.cmdWptrWrite v []) s ∧
      exec (.registerWrite .pcie 0x010C v true) s = exec (.rplRptrWrite v) s ∧
      exec (.registerWrite .pcie 0x0114 v true) s = exec (.evtRptrWrite v) s) ∧
    (∀ (v : W32) (s : State), (∀ k ∈ [0, 8, 16, 24], fld v (k + 5) k < 48) →
      exec (.qfcMapWrite v) s = .next { s with host := { s.host with qfcMap := v } }) ∧
    (∀ (v : W32) (s : State), (∃ k ∈ [0, 8, 16, 24], 48 ≤ fld v (k + 5) k) →
      exec (.qfcMapWrite v) s = .next ({ s with host := { s.host with qfcMap := v } }.hostError .conduit)) ∧
    (∀ (t : Nat) (rq : Requester) (s : State),
      let g := s.goto t
      exec (.timeNsRead t rq) s = .next { g with
        time := { g.time with latches := g.time.latches.set rq.index (g.tick32, w32 (g.now / 2 ^ 32)) }
        out := g.out ++ [.read rq 0x0400 (w32 g.now)] })

/-- PERST_N resets only the PCIe function; the PCIe link goes up and down (R526, R436, R470). -/
def Obligations.PcieFunctionAndLink : Prop :=
  (∀ s, exec .perstAssert s = .next { s with host := { s.host with perst := true } }) ∧
    (∀ t s, ∃ u, exec (.perstRelease t) s = .next u ∧ u.host.perst = false ∧ u.host.cmdW = 0 ∧ u.host.cmdR = 0 ∧
      u.host.rplR = 0 ∧ u.host.evtW = 0 ∧ u.host.evtR = 0 ∧ u.host.cmdSlots = [] ∧ u.host.evtSlots = [] ∧
      u.host.intStatus.getLsbD 1 = false ∧
      (s.host.heldRpl = [] → u.host.rplW = 0 ∧ u.host.rplSlots = [] ∧ u.host.intStatus.getLsbD 0 = false) ∧
      u.host.chPcie = s.host.chPcie ∧ u.host.chSpi = s.host.chSpi ∧ u.host.chUdp = s.host.chUdp ∧ u.host.cmds = s.host.cmds ∧
      u.sys = s.sys ∧ u.flt = s.flt ∧ u.mem = s.mem ∧ u.vent = s.vent) ∧
    (∀ t s, s.sys.hostSel = true → ∃ u, exec (.pcieLinkUp t) s = .next u ∧ u.host.linkUp = true ∧
      u = { s with host := { s.host with linkUp := true }, time := u.time }) ∧
    (∀ t s, s.sys.hostSel = true → s.host.linkUp = true →
      exec (.pcieLinkDown t) s =
        .next ({ s.goto t with host := { s.host with linkUp := false } }.raise 0x13 0 0x25 0)) ∧
    (∀ t s, s.host.linkUp = false → exec (.pcieLinkDown t) s = .next (s.goto t))

/-- The host writes packets into the command ring and the engine takes them in ring order, unless replies wait for room
(R47, R48, R49). -/
def Obligations.CommandRingIsTakenInOrder : Prop :=
  (∀ (v : W32) (i : Nat) (ws : List W32) (s : State), s.sys.hostSel = true → s.host.perst = false → i < 64 →
      s.slotIsHost i = true → (v.truncate 16 : W16) ≠ s.host.cmdW →
      1 ≤ ((v.truncate 16 : W16) - s.host.cmdR).toNat → ((v.truncate 16 : W16) - s.host.cmdR).toNat ≤ 64 →
      ∃ t, exec (.cmdWptrWrite v [(i, ws)]) s = .next t ∧ kget t.host.cmdSlots i = some ws ∧
        t.host.cmdW = v.truncate 16 ∧ (∀ j, j ≠ i → kget t.host.cmdSlots j = kget s.host.cmdSlots j) ∧
        t = { s with host := { s.host with cmdW := t.host.cmdW, cmdSlots := t.host.cmdSlots } }) ∧
    (∀ t (s : State), (s.host.cmdR = s.host.cmdW ∨ s.rplFull = true ∨ s.host.heldRpl ≠ []) →
      exec (.commandRingTake t) s = .next (s.goto t)) ∧
    (∀ t (s : State) (ws : List W32), s.serviced = true → s.ringsUp = true → s.host.cmdR ≠ s.host.cmdW → s.rplFull = false →
      s.host.heldRpl = [] → kget s.host.cmdSlots (s.host.cmdR.toNat % 64) = some ws →
      2 ≤ fld (ws.headD 0) 15 0 → fld (ws.headD 0) 15 0 = ws.length →
      exec (.commandRingTake t) s =
        .next ({ s.goto t with host := { s.host with cmdR := s.host.cmdR + 1 } }.receive .pcie noSrc ws takeCommand))

/-- A reply and an event are written at their write pointers; a full event ring loses its oldest unread event (R50). -/
def Obligations.RepliesAndEventsStandInTheirRings : Prop :=
  ∀ (s : State) (src : UdpSrc) (ws : List W32), s.ringsUp = true →
    (let t := s.deliverEvent .pcie ws
     kget t.host.evtSlots (s.host.evtW.toNat % 256) = some ws ∧ t.host.evtW = s.host.evtW + 1 ∧
      t.host.evtR = (if s.host.evtW - s.host.evtR = 256 then s.host.evtR + 1 else s.host.evtR) ∧
      t.host.intStatus.getLsbD 1 = true ∧
      (∀ j, j ≠ s.host.evtW.toNat % 256 → kget t.host.evtSlots j = kget s.host.evtSlots j) ∧
      t.host.rplW = s.host.rplW ∧ t.host.rplSlots = s.host.rplSlots) ∧
    (s.host.heldRpl = [] → s.host.rplW - s.host.rplR ≠ 64 →
     let t := s.deliverReply .pcie src ws
     kget t.host.rplSlots (s.host.rplW.toNat % 64) = some ws ∧ t.host.rplW = s.host.rplW + 1 ∧
      t.host.rplR = s.host.rplR ∧ t.host.intStatus.getLsbD 0 = true ∧ t.host.heldRpl = [] ∧
      (∀ j, j ≠ s.host.rplW.toNat % 64 → kget t.host.rplSlots j = kget s.host.rplSlots j)) ∧
    (s.host.rplW - s.host.rplR = 64 →
     s.deliverReply .pcie src ws = { s with host := { s.host with heldRpl := s.host.heldRpl ++ [ws] } })

/-- What each SPI transaction shifts out and does (R51, R52, R53, R54, R514, R470). -/
def Obligations.SpiTransactions : Prop :=
  (∀ s : State, s.sys.phase ≠ .reset → (∀ p ∈ s.host.spiWait, p.words.length < 65536) →
      ∃ w, exec .spiReadStatus s = .next { s with host := { s.host with lastBad := false }, out := s.out ++ [.miso w []] } ∧
        bit w 31 = s.cmdReady ∧ bit w 30 = !s.host.spiWait.isEmpty ∧ bit w 29 = s.host.lastBad ∧ fld w 28 16 = 0 ∧
        fld w 15 0 = ((s.host.spiWait.head?).map (·.words.length)).getD 0) ∧
    (∀ (s : State) (ack : Bool) (n : Nat) (p : SpiPkt) (rest : List SpiPkt), s.sys.phase ≠ .reset →
      (if ack = true ∧ s.host.spiRead = true then s.host.spiWait.drop 1 else s.host.spiWait) = p :: rest →
      exec (.spiReadPacket ack n) s = .next { s with
        host := { s.host with spiWait := p :: rest, spiRead := decide (p.words.length + 1 ≤ n) }
        out := s.out ++ [.miso s.spiStatus ((p.words ++ [crc32cBE p.words]).take n ++
          List.replicate (n - (p.words.length + 1)) 0)] }) ∧
    (∀ (s : State) (ack : Bool) (n : Nat), s.sys.phase ≠ .reset → s.host.spiWait.length ≤ 1 →
      (s.host.spiWait = [] ∨ (ack = true ∧ s.host.spiRead = true)) →
      exec (.spiReadPacket ack n) s = .next { s with
        host := { s.host with spiWait := [], spiRead := false }, out := s.out ++ [.miso s.spiStatus (List.replicate n 0)] }) ∧
    (∀ (t n : Nat) (ws : List W32) (crc : W32) (early : Bool) (s : State), s.serviced = true → s.cmdReady = true →
      let g := (s.goto t).emit (.miso (s.goto t).spiStatus [])
      ((early = true ∨ ws = [] ∨ crc ≠ crc32cBE ws ∨ n ≠ ws.length + 1 ∨ fld (ws.headD 0) 15 0 + 1 ≠ n) →
        exec (.spiWriteCommand t n (ws ++ [crc]) early) s = .next { g with host := { g.host with lastBad := true } }) ∧
      (early = false → ws ≠ [] → crc = crc32cBE ws → n = ws.length + 1 → fld (ws.headD 0) 15 0 + 1 = n →
        exec (.spiWriteCommand t n (ws ++ [crc]) early) s = .next (g.receive .spi noSrc ws takeCommand))) ∧
    (∀ (t n off : Nat) (s : State), s.sys.phase ≠ .reset → 1 ≤ n → n ≤ 64 → off % 4 = 0 →
      ∃ ws u, ws.length = n ∧ exec (.spiRegisterRead t n off) s = .next u ∧
        u.out = s.out ++ [.miso (s.goto t).spiStatus (ws ++ [crc32cBE ws])] ∧
        (∀ i, i < n → (off + 4 * i ≠ 0x0408 ∧ off + 4 * i ≠ 0x040C) → ws[i]? = some ((s.goto t).regWord .spi (off + 4 * i)))) ∧
    (∀ (n off : Nat) (w : W32) (crc : W32) (early : Bool) (s : State), s.sys.phase ≠ .reset → s.sys.phase ≠ .boot →
      let g := s.emit (.miso s.spiStatus [])
      ((early = true ∨ n ≠ 1 ∨ crc ≠ crc32cBE [w32 off, w]) →
        exec (.spiRegisterWrite n off [w, crc] early) s = .next { g with host := { g.host with lastBad := true } }) ∧
      (early = false → n = 1 → off = 0x0204 → crc = crc32cBE [w32 off, w] →
        exec (.spiRegisterWrite n off [w, crc] early) s = exec (.intMaskWrite w) g)) ∧
    (∀ (n : Nat) (ws : List W32) (s : State), s.spiDownload = true → s.sys.dlBytes = none → n = ws.length → ws ≠ [] →
      s.sys.dlWords + ws.length ≤ 0x300000 →
      ∃ t, exec (.spiDownloadAppend n (ws ++ [crc32cBE ws]) false) s = .next t ∧
        t.mem = memWriteWs s.mem (0x20000000 + 4 * s.sys.dlWords) ws ∧ t.sys.dlWords = s.sys.dlWords + ws.length) ∧
    (∀ (len : W32) (s : State), s.spiDownload = true → s.sys.dlBytes = none →
      ∃ t, exec (.spiDownloadLength 2 [len, crc32cBE [len]] false) s = .next t ∧ t.sys.dlBytes = some len.toNat ∧
        t.mem = s.mem) ∧
    (∀ (img : List W32) (len : W32) (s : State), s.pcieDownload = true → s.host.perst = false → s.sys.dlBytes = none →
      img.length ≤ 0x300000 →
      ∃ t, exec (.pcieDownloadLength img len) s = .next t ∧ t.sys.dlBytes = some len.toNat ∧
        t.mem = memWriteWs s.mem 0x20000000 img)

/-- Each of the 48 Vent rows issues its bundle on an active core, traps with the lowest cause, or leaves a core alone
that fetches nothing (R134, R148, R161, R162, log 17 (DESIGN CHOICE)). -/
def Obligations.BundlesIssueTrapOrWait : Prop :=
  ∀ (i : Instr) (n : Nat) (b : Bundle) (s : State), ventBundle i = some (n, b) → n < 64 →
    ((s.core n).active = false → exec i s = .next s) ∧
    (∀ cause, (s.core n).active = true → (s.seen n).1.trapOf n b ((s.seen n).1.core n) = some cause →
      exec i s = .next ((s.seen n).2.ventTrap n cause)) ∧
    (s.issues n b → exec i s = .next ((s.seen n).2.bundleEffect (s.seen n).1 n b))

/-- A bundle that traps has no effect, the core halts with the cause and the bundle address, and VENT_TRAP is sent
(R148, R162). -/
def Obligations.TrapHaltsTheCore : Prop :=
  ∀ (i : Instr) (n : Nat) (b : Bundle) (k : Nat) (s : State), ventBundle i = some (n, b) → n < 64 →
    (s.core n).active = true → (s.seen n).1.trapOf n b ((s.seen n).1.core n) = some k → (s.classNow 0x04 0x1C = 2 ∨ s.classNow 0x04 0x1C = 3) →
    let r := ((s.seen n).2.retireAll n).core n
    ∃ t, exec i s = .next t ∧ (t.core n).st = .halted ∧ (t.core n).trap = k ∧ (t.core n).haltPc = (s.core n).pc ∧
      (t.core n).ph = .idle ∧ (t.core n).handler = none ∧ (t.core n).br = none ∧ (t.core n).infl = [] ∧
      (t.core n).main = r.main ∧ (t.core n).shadow = r.shadow ∧
      (∀ m, m ≠ n → t.core m = s.core m) ∧
      ∃ x ∈ t.flt.journal, fld x.msgH 31 24 = 0x04 ∧ fld x.msgH 23 16 = n ∧ fld x.msgH 15 8 = 0x1C ∧
        x.msgL = pack [(k, 24), ((s.core n).pc, 0)]

/-- The ALU rows put their result and flags in flight, to be seen two bundles later (R168, R179, R165). -/
def Obligations.AluOperationsWriteResultAndFlags : Prop :=
  ∀ (n : Nat) (rest : MacRest) (s : State), rest.yields = false →
    let r := s.seenRegs n
    let opB (db : BitVec 5) (imm : Bool) : W32 := if imm then db.zeroExtend 32 else r.rd db.toNat
    (∀ e ∈ aluRows, ∀ dd da db imm, s.issues n (rest.bundle (.alu e.1 dd da db imm)) →
      let x := aluResult e.1 (r.rd da.toNat) (opB db imm)
      ∃ t, exec (e.2 n dd da db imm rest) s = .next t ∧ s.result n t 2 (.wrD dd.toNat x.1) ∧
        s.result n t 2 (.flags x.2.z x.2.n x.2.c x.2.v)) ∧
    (∀ dd da, s.issues n (rest.bundle (.abs dd da)) →
      let x := absResult (r.rd da.toNat)
      ∃ t, exec (.vAbs n dd da rest) s = .next t ∧ s.result n t 2 (.wrD dd.toNat x.1) ∧
        s.result n t 2 (.flags x.2.z x.2.n x.2.c x.2.v)) ∧
    (∀ da db imm, s.issues n (rest.bundle (.cmp da db imm)) →
      let x := (aluResult .sub (r.rd da.toNat) (opB db imm)).2
      ∃ t, exec (.vCmp n da db imm rest) s = .next t ∧ s.result n t 2 (.flags x.z x.n x.c x.v)) ∧
    (∀ dd (xa : BitVec 4), s.issues n (rest.bundle (.movfx dd xa)) →
      ∃ t, exec (.vMovfx n dd xa rest) s = .next t ∧
        s.result n t 2 (.wrD dd.toNat (if xa.toNat < 8 then r.ra xa.toNat else r.rmd (xa.toNat - 8)))) ∧
    (∀ (xd : BitVec 4) da, s.issues n (rest.bundle (.movtx xd da)) →
      ∃ t, exec (.vMovtx n xd da rest) s = .next t ∧
        s.result n t 2 (if xd.toNat < 8 then .wrA xd.toNat (r.rd da.toNat) else .wrMd (xd.toNat - 8) (r.rd da.toNat)))

/-- The results and flags of Table 6-4 in exact arithmetic (R168, R165, 06_vent_instructions Table 6-4). -/
def Obligations.AluResultsFollowTheTable : Prop :=
  ∀ (a b : W32),
    let k := b.toNat % 32
    let clip (x : Int) : Int := max (-2147483648) (min 2147483647 x)
    (∀ op, (aluResult op a b).2.z = decide ((aluResult op a b).1 = 0) ∧
      (aluResult op a b).2.n = decide ((aluResult op a b).1.toInt < 0)) ∧
    ((aluResult .add a b).1.toNat = (a.toNat + b.toNat) % 2 ^ 32 ∧
      (aluResult .add a b).2.c = some (decide (2 ^ 32 ≤ a.toNat + b.toNat)) ∧
      (aluResult .add a b).2.v = some (decide (clip (a.toInt + b.toInt) ≠ a.toInt + b.toInt))) ∧
    ((aluResult .sub a b).1.toNat = (2 ^ 32 + a.toNat - b.toNat) % 2 ^ 32 ∧
      (aluResult .sub a b).2.c = some (decide (b.toNat ≤ a.toNat)) ∧
      (aluResult .sub a b).2.v = some (decide (clip (a.toInt - b.toInt) ≠ a.toInt - b.toInt))) ∧
    ((aluResult .adds a b).1.toInt = clip (a.toInt + b.toInt) ∧ (aluResult .adds a b).2.c = none ∧
      (aluResult .adds a b).2.v = some (decide (clip (a.toInt + b.toInt) ≠ a.toInt + b.toInt))) ∧
    ((aluResult .subs a b).1.toInt = clip (a.toInt - b.toInt) ∧ (aluResult .subs a b).2.c = none ∧
      (aluResult .subs a b).2.v = some (decide (clip (a.toInt - b.toInt) ≠ a.toInt - b.toInt))) ∧
    (∀ op ∈ [AluOp.and, .or, .xor, .shl, .asr, .lsr, .min, .max],
      (aluResult op a b).2.c = none ∧ (aluResult op a b).2.v = none) ∧
    (∀ i, i < 32 → (aluResult .and a b).1.getLsbD i = (a.getLsbD i && b.getLsbD i) ∧
      (aluResult .or a b).1.getLsbD i = (a.getLsbD i || b.getLsbD i) ∧
      (aluResult .xor a b).1.getLsbD i = (a.getLsbD i != b.getLsbD i)) ∧
    (aluResult .shl a b).1.toNat = a.toNat * 2 ^ k % 2 ^ 32 ∧ (aluResult .lsr a b).1.toNat = a.toNat / 2 ^ k ∧
    (aluResult .asr a b).1.toInt = a.toInt / (2 ^ k : Nat) ∧
    (aluResult .min a b).1.toInt = min a.toInt b.toInt ∧ (aluResult .max a b).1.toInt = max a.toInt b.toInt ∧
    (absResult a).1.toInt = clip (if a.toInt < 0 then -a.toInt else a.toInt) ∧
    (absResult a).2.v = some (decide (a = 0x80000000)) ∧ (absResult a).2.c = none

/-- The quad and accumulator rows put their sums, loads and slides in flight for each lane not skipped (R166, R167,
R168, R179). -/
def Obligations.MacOperationsAccumulate : Prop :=
  ∀ (n : Nat) (rest : MacRest) (s : State), rest.yields = false →
    let r := s.seenRegs n
    let pc := (s.core n).pc
    let prod (ds : BitVec 5) (q : BitVec 3) (i : Nat) : Int := (r.rd ds.toNat).toInt * (r.rd (4 * q.toNat + i)).toInt
    let slid (t : State) (q : BitVec 3) (dt : BitVec 5) : Prop :=
      s.result n t 1 (.wrD (4 * q.toNat + 3) (r.rd (4 * q.toNat + 2))) ∧
      s.result n t 1 (.wrD (4 * q.toNat + 2) (r.rd (4 * q.toNat + 1))) ∧
      s.result n t 1 (.wrD (4 * q.toNat + 1) (r.rd (4 * q.toNat))) ∧ s.result n t 1 (.wrD (4 * q.toNat) (r.rd dt.toNat))
    (∀ (ds : BitVec 5) (q : BitVec 3) (skip : BitVec 4) (dt : BitVec 5),
      (s.issues n (rest.bundle (.quad .mac ds q skip 0)) → ∃ t, exec (.vMac n ds q skip rest) s = .next t ∧
        ∀ i, i < 4 → skip.getLsbD i = false → s.result n t 3 (.acAdd i (prod ds q i) pc)) ∧
      (s.issues n (rest.bundle (.quad .msu ds q skip 0)) → ∃ t, exec (.vMsu n ds q skip rest) s = .next t ∧
        ∀ i, i < 4 → skip.getLsbD i = false → s.result n t 3 (.acAdd i (-(prod ds q i)) pc)) ∧
      (s.issues n (rest.bundle (.quad .mpy ds q skip 0)) → ∃ t, exec (.vMpy n ds q skip rest) s = .next t ∧
        ∀ i, i < 4 → skip.getLsbD i = false → s.result n t 3 (.acSet i (prod ds q i) pc)) ∧
      (s.issues n (rest.bundle (.quad .mpyn ds q skip 0)) → ∃ t, exec (.vMpyn n ds q skip rest) s = .next t ∧
        ∀ i, i < 4 → skip.getLsbD i = false → s.result n t 3 (.acSet i (-(prod ds q i)) pc)) ∧
      (s.issues n (rest.bundle (.quad .macs ds q skip dt)) → ∃ t, exec (.vMacs n ds q skip dt rest) s = .next t ∧
        slid t q dt ∧ ∀ i, i < 4 → skip.getLsbD i = false → s.result n t 3 (.acAdd i (prod ds q i) pc)) ∧
      (s.issues n (rest.bundle (.quad .msus ds q skip dt)) → ∃ t, exec (.vMsus n ds q skip dt rest) s = .next t ∧
        slid t q dt ∧ ∀ i, i < 4 → skip.getLsbD i = false → s.result n t 3 (.acAdd i (-(prod ds q i)) pc))) ∧
    (∀ mask : BitVec 4, s.issues n (rest.bundle (.aclr mask)) → ∃ t, exec (.vAclr n mask rest) s = .next t ∧
      ∀ i, i < 4 → mask.getLsbD i = true → s.result n t 3 (.acSet i 0 pc)) ∧
    (∀ (acs acd : BitVec 2) (sh dd : BitVec 5) (q : BitVec 3),
      let x := accShift (r.rac acs.toNat).toInt sh.toInt
      (s.issues n (rest.bundle (.acsh acs acd sh)) → ∃ t, exec (.vAcsh n acs acd sh rest) s = .next t ∧
        s.result n t 3 (.acSet acd.toNat x pc)) ∧
      (s.issues n (rest.bundle (.acadd acs acd sh)) → ∃ t, exec (.vAcadd n acs acd sh rest) s = .next t ∧
        s.result n t 3 (.acAdd acd.toNat x pc)) ∧
      (s.issues n (rest.bundle (.acsub acs acd sh)) → ∃ t, exec (.vAcsub n acs acd sh rest) s = .next t ∧
        s.result n t 3 (.acAdd acd.toNat (-x) pc)) ∧
      (s.issues n (rest.bundle (.acwr acd q)) → ∃ t, exec (.vAcwr n acd q rest) s = .next t ∧
        s.result n t 3 (.acSet acd.toNat (BitVec.toInt (((r.rd (4 * q.toNat + 2)).truncate 16 : W16) ++
          r.rd (4 * q.toNat + 1) ++ r.rd (4 * q.toNat))) pc)) ∧
      (s.issues n (rest.bundle (.acrd acs q)) → ∃ t, exec (.vAcrd n acs q rest) s = .next t ∧
        s.result n t 3 (.wrD (4 * q.toNat) ((r.rac acs.toNat).extractLsb' 0 32)) ∧
        s.result n t 3 (.wrD (4 * q.toNat + 1) ((r.rac acs.toNat).extractLsb' 32 32)) ∧
        s.result n t 3 (.wrD (4 * q.toNat + 2) (((r.rac acs.toNat).extractLsb' 64 16).signExtend 32))) ∧
      (s.issues n (rest.bundle (.acrnd acs sh dd)) → ∃ t, exec (.vAcrnd n acs sh dd rest) s = .next t ∧
        s.result n t 3 (.wrD dd.toNat (accStore x))))

/-- Accumulators saturate at 80 bits, shifts round half up, stores round half up to Q1.31 and saturate (R139, R140,
R141, R168). -/
def Obligations.AccumulatorArithmeticIsExact : Prop :=
  ∀ (x : Int) (k : Nat),
    (accKeep x).1.toInt = max (-(2 ^ 79)) (min (2 ^ 79 - 1) x) ∧ ((accKeep x).2 = true ↔ x < -(2 ^ 79) ∨ 2 ^ 79 - 1 < x) ∧
    accShift x k = x * 2 ^ k ∧ (0 < k → accShift x (-(k : Int)) = (x + 2 ^ (k - 1)) / 2 ^ k) ∧
    (accStore x).toInt = max (-(2 ^ 31)) (min (2 ^ 31 - 1) ((x + 2 ^ 30) / 2 ^ 31)) ∧
    accStore (2 ^ 79 - 1) = 0x7FFFFFFF ∧ accStore (-(2 ^ 79)) = 0x80000000

/-- A result in flight is written when it is due, before the next bundle, into the set that issued it; locks and SAT
follow R140 and R164 (R140, R143, R147, R164, R179). -/
def Obligations.ResultsRetireWhenDue : Prop :=
  ∀ (s : State) (n : Nat) (f : InFlight), n < 64 → (s.core n).active = true → (s.core n).infl = [f] → f.stalled = false →
    let r := (s.core n).setOf f.shadow
    ∃ t, exec (.vMnop n bare) s = .next t ∧ (t.core n).cyc = (s.core n).cyc + 1 ∧
      ((s.core n).cyc < f.due → (t.core n).infl = [f] ∧ ((t.core n).setOf f.shadow).d = r.d ∧
        ((t.core n).setOf f.shadow).ac = r.ac) ∧
      (f.due ≤ (s.core n).cyc → (t.core n).infl = [] ∧
        (∀ i v, f.act = .wrD i v → ((t.core n).setOf f.shadow).d = r.d.set i v ∧ ((t.core n).setOf f.shadow).ac = r.ac) ∧
        (∀ z g c v, f.act = .flags z g c v → ((t.core n).setOf f.shadow).z = z ∧ ((t.core n).setOf f.shadow).n = g ∧
          ((t.core n).setOf f.shadow).c = c.getD r.c ∧ ((t.core n).setOf f.shadow).v = v.getD r.v) ∧
        (∀ i x pc, f.act = .acSet i x pc → ((t.core n).setOf f.shadow).ac = r.ac.set i (accKeep x).1 ∧
          ((t.core n).setOf f.shadow).lock = r.lock.set i (accKeep x).2 ∧
          (t.core n).sat = (if (accKeep x).2 then (s.core n).sat ||| 1 <<< i else (s.core n).sat)) ∧
        (∀ i x pc, f.act = .acAdd i x pc → r.lock.getD i false = true →
          ((t.core n).setOf f.shadow).ac = r.ac ∧ ((t.core n).setOf f.shadow).lock = r.lock ∧ (t.core n).sat = (s.core n).sat) ∧
        (∀ i x pc, f.act = .acAdd i x pc → r.lock.getD i false = false →
          let k := accKeep ((r.rac i).toInt + x)
          ((t.core n).setOf f.shadow).ac = r.ac.set i k.1 ∧ ((t.core n).setOf f.shadow).lock = r.lock.set i k.2 ∧
          (t.core n).sat = (if k.2 then (s.core n).sat ||| 1 <<< i else (s.core n).sat)))

/-- Loads, stores, post-modified addresses and literals of the Vent rows (R169, R170, R171, R173, R179, R128). -/
def Obligations.LoadsStoresAndLiterals : Prop :=
  ∀ (n : Nat) (s : State) (an : BitVec 3) (am : AddrMode) (rest : LsRest), rest.yields = false →
    let r := s.seenRegs n
    let v := (s.seen n).1
    let e4 := effAddr r an.toNat am 2
    let e8 := effAddr r an.toNat am 3
    let moves (t : State) (e : W32 × Option W32) : Prop := ∀ w, e.2 = some w → s.result n t 1 (.wrA an.toNat w)
    (isLocal e4.1.toNat = true →
      (∀ x, s.issues n (rest.bundle (.ldw x an am)) → ∃ t, exec (.vLdw n x an am rest) s = .next t ∧
        s.result n t 2 (.wrD x.toNat (v.coreLoad n e4.1.toNat)) ∧ moves t e4) ∧
      (∀ x, s.issues n (rest.bundle (.ldx x an am)) → ∃ t, exec (.vLdx n x an am rest) s = .next t ∧
        s.result n t 2 (if x.toNat < 8 then .wrA x.toNat (v.coreLoad n e4.1.toNat)
          else .wrMd (x.toNat - 8) (v.coreLoad n e4.1.toNat)) ∧ moves t e4) ∧
      (∀ x, s.issues n (rest.bundle (.stw x an am)) → ∃ t, exec (.vStw n x an am rest) s = .next t ∧
        s.result n t 2 (.store e4.1.toNat (r.rd x.toNat)) ∧ moves t e4) ∧
      (∀ x, s.issues n (rest.bundle (.stx x an am)) → ∃ t, exec (.vStx n x an am rest) s = .next t ∧
        s.result n t 2 (.store e4.1.toNat (if x.toNat < 8 then r.ra x.toNat else r.rmd (x.toNat - 8))) ∧ moves t e4) ∧
      (∀ ac sh, s.issues n (rest.bundle (.stac ac sh an am)) → ∃ t, exec (.vStac n ac sh an am rest) s = .next t ∧
        s.result n t 2 (.store e4.1.toNat (accStore ((r.rac ac.toNat).toInt * 2 ^ sh.toNat))) ∧ moves t e4)) ∧
    (isLocal e8.1.toNat = true →
      (∀ x, s.issues n (rest.bundle (.ldl x an am)) → ∃ t, exec (.vLdl n x an am rest) s = .next t ∧
        s.result n t 2 (.wrD (2 * x.toNat) (v.coreLoad n e8.1.toNat)) ∧
        s.result n t 2 (.wrD (2 * x.toNat + 1) (v.coreLoad n (e8.1.toNat + 4))) ∧ moves t e8) ∧
      (∀ x, s.issues n (rest.bundle (.stl x an am)) → ∃ t, exec (.vStl n x an am rest) s = .next t ∧
        s.result n t 2 (.store e8.1.toNat (r.rd (2 * x.toNat))) ∧
        s.result n t 2 (.store (e8.1.toNat + 4) (r.rd (2 * x.toNat + 1))) ∧ moves t e8)) ∧
    (∀ (d : LitDest) (w : W32) (m : MacOp), s.issues n (.lit m d w) → ∃ t, exec (.vLit n d w m) s = .next t ∧
      s.result n t 2 (match d with
        | .d i => .wrD i.toNat w
        | .a i => .wrA i.toNat w
        | .md i => .wrMd i.toNat w))

/-- The access address and new An of every addressing mode, with circular blocks and bit-reversed updates (R171, R172). -/
def Obligations.AddressingModesAndWrapping : Prop :=
  (∀ (r : RegSet) (n lw : Nat),
      let a := r.ra n
      let md := r.rmd n
      let w : Int := (2 ^ lw : Nat)
      effAddr r n .plain lw = (a, none) ∧ effAddr r n .postInc lw = (a, some (a + BitVec.ofInt 32 w)) ∧
      effAddr r n .postDec lw = (a, some (a - BitVec.ofInt 32 w)) ∧
      effAddr r n .postMod lw = (a, some (wrapAddr md lw a (sfld md 15 0))) ∧
      effAddr r n .preMod lw = (wrapAddr md lw a (sfld md 15 0), none) ∧
      effAddr r n .circInc lw = (a, some (wrapAddr md lw a w)) ∧
      effAddr r n .circDec lw = (a, some (wrapAddr md lw a (-w)))) ∧
    (∀ (md a : W32) (lw : Nat) (x : Int), 2 ≤ lw → lw ≤ 3 →
      let c := fld md 20 16
      (c = 0 → wrapAddr md lw a x = a + BitVec.ofInt 32 x) ∧
      (3 ≤ c → c ≤ 18 → bit md 21 = false →
        (wrapAddr md lw a x).toNat = a.toNat / 2 ^ c * 2 ^ c + (a + BitVec.ofInt 32 x).toNat % 2 ^ c) ∧
      (3 ≤ c → c ≤ 18 → bit md 21 = true →
        let field (w : W32) : Nat := w.toNat / 2 ^ lw % 2 ^ (c - lw)
        (wrapAddr md lw a x).toNat / 2 ^ c = a.toNat / 2 ^ c ∧ (wrapAddr md lw a x).toNat % 2 ^ lw = a.toNat % 2 ^ lw ∧
        revBits (c - lw) (field (wrapAddr md lw a x)) =
          (revBits (c - lw) (field a) + revBits (c - lw) (field (BitVec.ofInt 32 x))) % 2 ^ (c - lw) ∧
        ∀ i, i < c - lw → (revBits (c - lw) (field a)).testBit i = (field a).testBit (c - lw - 1 - i)))

/-- What the control rows do: branches with two delay slots, loops, LDA, YIELD, RETI and LEXIT (R146, R174, R175, R176,
R177, R178, R179). -/
def Obligations.ControlOperations : Prop :=
  ∀ (n : Nat) (s : State),
    let r := s.seenRegs n
    let c := s.core n
    let next := (c.pc + 1) % 8192
    (∀ k tg (rest : LongRest), s.issues n (rest.bundle (.br k tg)) → ∃ t, exec (.vBr n k tg rest) s = .next t ∧
      (t.core n).br = some ⟨tg.toNat, 2, condHolds k r ((s.seen n).1.core n).sat⟩ ∧ (t.core n).pc = next) ∧
    (∀ tg dl (rest : LongRest), s.issues n (rest.bundle (.call tg dl)) → ∃ t, exec (.vCall n tg dl rest) s = .next t ∧
      (t.core n).br = some ⟨tg.toNat, 2, true⟩ ∧ (t.core n).pc = next ∧
      s.result n t 2 (.wrD dl.toNat (w32 ((c.pc + 3) % 8192)))) ∧
    (∀ k (rest : ShortRest), s.issues n (rest.bundle (.jr k)) → ∃ t, exec (.vJr n k rest) s = .next t ∧
      (t.core n).br = some ⟨(r.rd k.toNat).toNat % 8192, 2, true⟩ ∧ (t.core n).pc = next) ∧
    (∀ k e (rest : LongRest), s.issues n (rest.bundle (.loopi k e)) → ∃ t, exec (.vLoopi n k e rest) s = .next t ∧
      (t.core n).regs.loops = ⟨next, e.toNat, k.toNat⟩ :: c.regs.loops ∧ (t.core n).pc = next) ∧
    (∀ d e (rest : LongRest), s.issues n (rest.bundle (.loopr d e)) → r.rd d.toNat ≠ 0 →
      ∃ t, exec (.vLoopr n d e rest) s = .next t ∧
        (t.core n).regs.loops = ⟨next, e.toNat, (r.rd d.toNat).toNat⟩ :: c.regs.loops ∧ (t.core n).pc = next) ∧
    (∀ an imm (rest : LongRest), s.issues n (rest.bundle (.lda an imm)) → ∃ t, exec (.vLda n an imm rest) s = .next t ∧
      s.result n t 2 (.wrA an.toNat (imm.zeroExtend 32))) ∧
    (∀ l ls, s.issues n (bareShort.bundle .lexit) → c.regs.loops = l :: ls → (∀ x ∈ c.regs.loops, x.last ≠ c.pc) →
      ∃ t, exec (.vLexit n bareShort) s = .next t ∧ (t.core n).regs.loops.head? = some { l with left := 1 }) ∧
    (∀ (rest : ShortRest), s.issues n (rest.bundle .yield) → ∃ t, exec (.vYield n rest) s = .next t ∧
      (t.core n).ph = (if c.ph = .post then .idle else .waitPost) ∧ (t.core n).infl = [] ∧ (t.core n).main.loops = [] ∧
      (t.core n).br = none ∧ (t.core n).st = .running) ∧
    (∀ (rest : ShortRest), s.issues n (rest.bundle .reti) → ∃ t, exec (.vReti n rest) s = .next t ∧
      (t.core n).handler = none ∧ (t.core n).pc = c.retPc ∧ (t.core n).ph = c.ph) ∧
    (s.issues n (bareShort.bundle .cnop) → (∀ l ∈ c.regs.loops, l.last ≠ c.pc) → c.br = none →
      ∃ t, exec (.vCnop n (.short bareShort)) s = .next t ∧ (t.core n).pc = next ∧ (t.core n).regs.loops = c.regs.loops ∧
        (t.core n).br = none) ∧
    (∀ x, s.issues n (bareShort.bundle .cnop) → (∀ l ∈ c.regs.loops, l.last ≠ c.pc) → c.br = some x → 1 ≤ x.slots →
      ∃ t, exec (.vCnop n (.short bareShort)) s = .next t ∧
        (1 < x.slots → (t.core n).br = some { x with slots := x.slots - 1 } ∧ (t.core n).pc = next) ∧
        (x.slots = 1 → (t.core n).br = none ∧ (t.core n).pc = if x.taken then x.target else next))

/-- At the END of a loop the count goes down and the body repeats, or the level closes with every level inside it (R175,
R177). -/
def Obligations.HardwareLoopsNest : Prop :=
  ∀ (inner : List Loop) (l : Loop) (outer : List Loop) (pc : Nat), (∀ x ∈ inner, x.last ≠ pc) →
    nextInLoops inner pc false none = (inner, (pc + 1) % 8192) ∧
    (l.last = pc → 1 < l.left → nextInLoops (inner ++ l :: outer) pc false none =
      (inner ++ { l with left := l.left - 1 } :: outer, l.first)) ∧
    (l.last = pc → l.left ≤ 1 → nextInLoops (inner ++ l :: outer) pc false none = (outer, (pc + 1) % 8192)) ∧
    (l.last = pc → nextInLoops (l :: outer) pc true none = (outer, (pc + 1) % 8192))

/-- A Vent row changes its own core and memories, the Basin bytes it stores and what the fault path carries, and nothing
else (R126, R127, R147, R173). -/
def Obligations.VentRowsTouchOnlyTheirCore : Prop :=
  ∀ (i : Instr) (n : Nat) (b : Bundle) (s t : State), ventBundle i = some (n, b) → clearOfTop b (s.seenRegs n) →
    (s.core n).storesLocal → exec i s = .next t →
    (∀ m, m ≠ n → t.core m = s.core m) ∧
    (∀ a, ¬inCore n a → (∀ x ∈ b.accesses (s.seenRegs n), x.1.isStore = true → ¬(x.2.2.1 ≤ a ∧ a < x.2.2.1 + 2 ^ x.1.lw)) →
      memRead t.mem a = memRead s.mem a) ∧
    t.time = s.time ∧ t.ref = s.ref ∧ t.route = s.route ∧ t.aud = s.aud ∧ t.cald = s.cald ∧ t.meter = s.meter ∧
    t.vent.vmap = s.vent.vmap ∧ t.dec = s.dec ∧ t.gey = s.gey ∧ t.tdm = s.tdm ∧ t.strm = s.strm ∧ t.dma = s.dma ∧
    t.mdio = s.mdio ∧ t.host.cmds = s.host.cmds ∧ t.back = s.back ∧ t.pending = s.pending

/-- A Vent row leaves only aligned stores to the core's own memory in flight, unless the core has become unpredictable
(R173, R148, 05_vent_cores Table 5-2). -/
def Obligations.InFlightStoresStayLocal : Prop :=
  (∀ n, (State.reset.core n).storesLocal) ∧
    (∀ (i : Instr) (n : Nat) (b : Bundle) (s t : State), ventBundle i = some (n, b) → (s.core n).storesLocal →
      exec i s = .next t → Blk.core n ∉ t.unpred → (t.core n).storesLocal)

/-- Every bundle that has an encoding is decoded from its own 64 bits, and every word that decodes is the encoding of
what it decodes to (R160, R161, R166, R169, R170, R174, 06_vent_instructions Tables 6-1 to 6-8). -/
def Obligations.BundleEncodingRoundTrip : Prop :=
  (∀ b : Bundle, b.wf = true → decodeBundle (encodeBundle b) = some b) ∧
    (∀ (w : BitVec 64) (b : Bundle), decodeBundle w = some b → b.wf = true ∧ encodeBundle b = w)

/-- Words written out from the tables of chapter 06 decode to the operations they stand for, and reserved ones do not
decode (R160, R161, R166, R169, R170, R174). -/
def Obligations.BundleWordsDecode : Prop :=
  decodeBundle 0 = some (.full .mnop .nop .nop .cnop) ∧
    decodeBundle 0x0254000000000000 = some (.full (.quad .mac 5 2 0 0) .nop .nop .cnop) ∧
    decodeBundle 0x20110E0000000000 = some (.full (.alu .add 1 2 3 true) .nop .nop .cnop) ∧
    decodeBundle 0x000000284C000000 = some (.full .mnop (.ldw 8 2 .postMod) .nop .cnop) ∧
    decodeBundle 0x0000000003A40000 = some (.full .mnop .nop (.stac 1 2 0 .plain) .cnop) ∧
    decodeBundle 0x0000000000000100 = some (.full .mnop .nop .nop .yield) ∧
    decodeBundle 0x0000000000000407 = some (.full .mnop .nop .nop (.jr 7)) ∧
    decodeBundle 0x4000000040004123 = some (.long .nop .nop (.br .ne 0x123)) ∧
    decodeBundle 0x400000008003E010 = some (.long .nop .nop (.call 0x10 31)) ∧
    decodeBundle 0x40000000C0020040 = some (.long .nop .nop (.loopi 16 0x40)) ∧
    decodeBundle 0x40000001400C1000 = some (.long .nop .nop (.lda 3 0x1000)) ∧
    decodeBundle 0x8000002112345678 = some (.lit .mnop (.a 1) 0x12345678) ∧
    decodeBundle 0xC000000000000000 = none ∧ decodeBundle 0x0E00000000000000 = none ∧
    decodeBundle 0x0000004100000000 = none ∧ decodeBundle 0x0254010000000000 = none ∧
    decodeBundle 0x3C08000000000000 = none ∧ decodeBundle 0x40000000C0000040 = none

/-- Phase starts, interrupt entry, transfers and the write-1-to-clear words of a core (R131, R134, R135, R136, R140,
R145, R146). -/
def Obligations.CoreHappenings : Prop :=
  (∀ (t n : Nat) (s : State), n < 64 → s.back = none → (s.core n).st = .running → (s.core n).handler = none →
      ((s.core n).intPend &&& (s.core n).intEn &&& 7) = 0 →
      ((s.core n).ph = .waitStrip → (s.goto t).inputsReady n false = true →
        ∃ u, exec (.ventStripStart t n) s = .next u ∧ (u.core n).ph = .strip ∧ (u.core n).pc = 0 ∧
          (u.core n).phaseBit = false ∧ (u.core n).main = (s.core n).main) ∧
      ((s.core n).ph = .waitPost → (s.goto t).inputsReady n true = true →
        ∃ u, exec (.ventPostStart t n) s = .next u ∧ (u.core n).ph = .post ∧ (u.core n).pc = 8 ∧
          (u.core n).phaseBit = true ∧ (u.core n).main = (s.core n).main)) ∧
    (∀ (t n : Nat) (s : State), n < 64 → n < s.vent.cores.length → (s.core n).st = .running → (s.core n).handler = none →
      (s.core n).br = none → ((s.core n).intPend &&& (s.core n).intEn &&& 7) ≠ 0 →
      let p := (s.core n).intPend &&& (s.core n).intEn
      let v := if p &&& 2 ≠ 0 then (2, 0x18) else if p &&& 1 ≠ 0 then (1, 0x10) else (4, 0x20)
      ∃ u, exec (.ventInterruptEntry t n) s = .next u ∧ (u.core n).handler = some v.2 ∧ (u.core n).pc = v.2 ∧
        (u.core n).retPc = (s.core n).pc ∧ (u.core n).intPend = (s.core n).intPend &&& (7 - v.1) ∧
        (u.core n).intCause = (s.core n).intCause ∧ (u.core n).main = (s.core n).main ∧ (u.core n).shadow = (s.core n).shadow) ∧
    (∀ (n ch : Nat) (s : State), n < 64 → ch < 4 → n < s.vent.cores.length → ch < (s.core n).xfers.length →
      ∃ u, exec (.ventTransferGo n ch) s = .next u ∧
        let x := (s.core n).xfers.getD ch Xfer.init
        (u.core n).xfers = (s.core n).xfers.set ch (if x.busy then x else { x with busy := true, err := false }) ∧
        u = s.setCore n (u.core n)) ∧
    (∀ (n : Nat) (w : W32) (s : State), n < 64 → n < s.vent.cores.length →
      (∃ u, exec (.ventIntCauseClear n w) s = .next u ∧ ∀ i, i < 3 →
        (u.core n).intCause.testBit i = ((s.core n).intCause.testBit i && !w.getLsbD i) ∧
        (u.core n).intPend.testBit i = ((s.core n).intPend.testBit i && !w.getLsbD i)) ∧
      (∃ u, exec (.ventSatClear n w) s = .next u ∧ ∀ i, i < 4 →
        (u.core n).sat.testBit i = ((s.core n).sat.testBit i && !w.getLsbD i))) ∧
    (∀ (t n ch : Nat) (s : State), n < 64 → ch < 4 → n < s.vent.cores.length →
      let x := (s.core n).xfers.getD ch Xfer.init
      x.busy = true → x.bad = false → bit x.ctl 31 = false →
      (s.goto t).permits (coreMaster n) x.remote false = true →
      (s.goto t).permits (coreMaster n) (x.remote + 4 * x.words - 4) false = true →
      ∃ u, exec (.ventTransferComplete t n ch false) s = .next u ∧
        u.mem = memWrites s.mem (dataBase n + x.start) ((({ s.goto t with fresh := s.fresh + 1 } : State)).busBytes x.remote (4 * x.words)) ∧
        (u.core n).xfers = (s.core n).xfers.set ch { x with busy := false, err := false } ∧
        (u.core n).intCause = (if bit x.ctl 30 then (s.core n).intCause ||| 4 else (s.core n).intCause))

/-- A phase that has not yielded by its deadline overruns: the core halts, or only that phase ends where the kind is
corrected (R136, R148). -/
def Obligations.PhaseDeadlines : Prop :=
  (∀ (n : Nat) (s : State), s.sys.phase ≠ .reset → s.aud.cut = true → (s.core n).late false = true →
      (∀ m, m ≠ n → (s.core m).late false = false) → n < 64 →
      ∃ u, exec .stripDeadline s = .next u ∧ (u.core n).overruns = min 65535 ((s.core n).overruns + 1) ∧
        (s.classNow 0x04 0x1B ≠ 1 → (u.core n).st = .halted ∧ (u.core n).ph = .idle) ∧
        (s.classNow 0x04 0x1B = 1 → (u.core n).st = .running ∧ (u.core n).ph = .waitPost)) ∧
    (∀ (n : Nat) (s : State), s.sys.phase ≠ .reset → s.aud.cut = true → (s.core n).late true = true →
      (∀ m, m ≠ n → (s.core m).late true = false) → (∀ m, (s.core m).late false = false) → n < 64 →
      ∃ u, exec .postDeadline s = .next u ∧ u.aud.cut = false ∧ (u.core n).overruns = min 65535 ((s.core n).overruns + 1) ∧
        (s.classNow 0x04 0x1B ≠ 1 → (u.core n).st = .halted ∧ (u.core n).ph = .idle) ∧
        (s.classNow 0x04 0x1B = 1 → (u.core n).st = .running ∧ (u.core n).ph = .idle)) ∧
    (∀ s : State, s.aud.cut = false → exec .stripDeadline s = .next s ∧
      ∃ u, exec .postDeadline s = .next u ∧ u = { s with time := u.time })

/-- VENT_LOAD, VENT_START, VENT_STOP, VENT_PARAM_WRITE and VENT_MAP at their apply tick (R132, R150, R152, R153, R154,
R155). -/
def Obligations.VentCommands : Prop :=
  ∀ (n : Nat) (s : State), n < 64 → n < s.vent.cores.length → s.islandOn (coreIsland n) = true →
    ∀ (w3 : W32), fld w3 13 8 = n → fld w3 5 0 = n → fld w3 30 14 = 0 → fld w3 7 6 = 0 →
    (∀ (off : W32) (ws : List W32), ws.length ≤ 1019 → off.toNat + 4 * ws.length ≤ (if bit w3 31 then 0x37000 else 0x10000) →
      off.toNat % (if bit w3 31 then 4 else 8) = 0 →
      ((s.core n).shown ≠ .running → ∃ t, exec (.ventLoad .apply (w3 :: off :: ws)) s = .next t ∧
        t.mem = memWriteWs s.mem ((if bit w3 31 then dataBase n else instBase n) + off.toNat) ws ∧
        (t.core n).shown = .stopped ∧ (t.core n).main = (s.core n).main ∧ ∀ m, m ≠ n → t.core m = s.core m) ∧
      ((s.core n).shown = .running → exec (.ventLoad .apply (w3 :: off :: ws)) s = .next s)) ∧
    ((s.core n).shown = .stopped ∨ (s.core n).shown = .halted → ∃ t, exec (.ventStart .apply [w3]) s = .next t ∧
      (t.core n).shown = .running ∧ (t.core n).sched = (s.core n).sched ++ [(s.time.tick, if bit w3 31 then .resume else .fresh)] ∧
      (bit w3 31 = true → (t.core n).main = (s.core n).main ∧ (t.core n).shadow = (s.core n).shadow) ∧
      t.mem = s.mem ∧ ∀ m, m ≠ n → t.core m = s.core m) ∧
    ((s.core n).shown = .empty → exec (.ventStart .apply [w3]) s = .next s) ∧
    ((s.core n).shown = .running → bit w3 31 = false → ∃ t, exec (.ventStop .apply [w3]) s = .next t ∧
      (t.core n).sched = (s.core n).sched ++ [(s.time.tick, .stop)] ∧ (t.core n).shown = .stopped ∧
      (t.core n).main = (s.core n).main ∧ t.mem = s.mem ∧ ∀ m, m ≠ n → t.core m = s.core m) ∧
    ((s.core n).shown = .halted → bit w3 31 = false → ∃ t, exec (.ventStop .apply [w3]) s = .next t ∧
      (t.core n).st = .stopped ∧ (t.core n).main = (s.core n).main ∧ t.mem = s.mem) ∧
    (∀ (off : W32) (ws : List W32), off.toNat % 4 = 0 → off.toNat + 4 * ws.length ≤ 0x37000 → (s.core n).shown ≠ .empty →
      let used := if (s.core n).paramWords.1 = s.time.tick then (s.core n).paramWords.2 else 0
      (used + ws.length ≤ 4096 → ∃ t, exec (.ventParamWrite .apply (w3 :: off :: ws)) s = .next t ∧
        (t.core n).params = (s.core n).params ++ [⟨s.time.tick, off.toNat, ws, bit w3 31⟩] ∧
        (t.core n).paramWords = (s.time.tick, used + ws.length) ∧ t.mem = s.mem ∧ ∀ m, m ≠ n → t.core m = s.core m) ∧
      (4096 < used + ws.length → exec (.ventParamWrite .apply (w3 :: off :: ws)) s = .next s)) ∧
    (∀ (e : W32), fld e 27 22 = n → fld e 12 11 = 0 → fld e 29 28 < 3 →
      let x := mapWord e
      let map := setSlot s.vent.vmap x
      let t := { s with vent := { s.vent with vmap := map } }
      mapFits map = true → t.changedSinks s = [] → t.routesFit (t.route.resetSinks t.sinkDomain []) = true →
      ∃ u, exec (.ventMap .apply [w32 1, e]) s = .next u ∧ u.vent.vmap = map ∧
        (∀ y ∈ map, (y.output = x.output ∧ y.slot = x.slot) → x.unmap = false ∧ y = x.bind) ∧
        (x.unmap = false → x.bind ∈ map) ∧
        (∀ y, ¬(y.output = x.output ∧ y.slot = x.slot) → (y ∈ map ↔ y ∈ s.vent.vmap)))

/-- The state under a cold reset holds the defaults that the chapters give (R123, R203, R239, R262, R293, R339, R362,
R402, R473, R475, R442, R515). -/
def Obligations.ResetLeavesSpecValues : Prop :=
  State.reset.pending = [] ∧ State.reset.out = [] ∧ State.reset.sys.phase = .reset ∧ State.reset.flt.active = [] ∧
    State.reset.flt.hist = [] ∧ State.reset.flt.fatal = false ∧ State.reset.flt.corrCount = 0 ∧
    (∀ i, i < 16 → State.reset.islandOn i = decide (i ≠ 11)) ∧
    State.reset.host.intMask = 0x7FF ∧ State.reset.host.intStatus = 0 ∧ State.reset.host.cmdW = 0 ∧ State.reset.host.rplR = 0 ∧
    State.reset.route.entries = [] ∧ State.reset.route.family44 = false ∧
    State.reset.cald.shape = 0 ∧ State.reset.cald.active = [] ∧ State.reset.cald.shadow = [] ∧
    (GainSt.init.code, GainSt.init.inv, GainSt.init.lin) = (0, false, 2 ^ 27) ∧
    (Lim.init.enable, Lim.init.look, Lim.init.thresh, Lim.init.release) = (false, 0, 0, 100) ∧
    (Tap.init.rmsMs, Tap.init.hold, Tap.init.holdTp, Tap.init.alarmEn, Tap.init.armed) = (300, 0, false, false, true) ∧
    State.reset.meter.period = 24 ∧ State.reset.meter.published = false ∧ State.reset.meter.gen = 0 ∧
    State.reset.vent.cores.length = 64 ∧ (∀ c ∈ State.reset.vent.cores, c.st = .empty) ∧ State.reset.vent.vmap = [] ∧
    State.reset.dec.clk = [0, 0, 0, 0] ∧ State.reset.dec.syncInEn = false ∧
    (∀ c ∈ State.reset.dec.ctxs, c.enable = false ∧ c.preset = 1 ∧ c.domain = 1 ∧ c.det = false ∧ c.detReport = true ∧ c.detBlock = 24 ∧
      c.detFreq = 1000 ∧ c.detPresent = 600 ∧ c.clipLevel = 10 ∧ c.dc = false ∧ c.dcCorner = 100) ∧
    State.reset.dec.lanes.length = 24 ∧ (∀ l ∈ State.reset.dec.lanes, l.st = .off) ∧
    State.reset.gey.groups.length = 24 ∧ (∀ g ∈ State.reset.gey.groups, g.st = .disarmed ∧ g.domain = 1 ∧ g.minPulse = 8 ∧ g.maxMod = 980 ∧
      g.vref = 4800 ∧ g.iTrip = 3000 ∧ g.retries = 3 ∧ g.tLimit = 110 ∧ g.bst = false ∧ g.kp = 64 ∧ g.ki = 8) ∧
    State.reset.gey.chans.length = 192 ∧ (∀ c ∈ State.reset.gey.chans, c.enabled = true ∧ c.fails = 0 ∧ c.clip = false ∧ c.result = 0) ∧
    (∀ g ∈ State.reset.tdm.groups, g.st = .off ∧ g.frameBits = 512 ∧ g.domain = 1) ∧
    (∀ p, p < 32 → ((State.reset.tport p).group, (State.reset.tport p).slots, (State.reset.tport p).inMask, (State.reset.tport p).outMask) =
      (p / 4, 16, 0xFFFFFFFF, 0xFFFFFFFF)) ∧
    (∀ p, p < 3 → (State.reset.port p).enable = decide (p = 2) ∧ (State.reset.port p).mtu = 1500 ∧ (State.reset.port p).quanta = 65535 ∧
      (State.reset.port p).gates = ⟨1, [(0xFF, 16384)]⟩ ∧ (State.reset.port p).counters = List.replicate 48 0) ∧
    (State.reset.ref.refs.map (fun r => (r.eligible, r.rank, r.freqLim, r.requal))) =
      [(true, 0, 100, 20), (true, 1, 100, 20), (false, 2, 100, 20), (false, 3, 100, 20), (false, 4, 100, 20), (false, 5, 100, 20),
       (false, 5, 100, 20), (false, 6, 100, 20), (false, 0, 100, 20)] ∧
    (∀ d ∈ State.reset.ref.dplls, d.st = .freerun ∧ d.select = 14) ∧ State.reset.ref.window = 200 ∧
    (State.reset.time.bases.map (fun b => (b.enable, b.val, b.slew, b.offset))) =
      [(true, 0, 100, 0), (true, 0, 100, 0)] ++ List.replicate 6 (false, 0, 100, 0) ∧
    (State.reset.time.insts.map (fun i => (i.enable, i.domain, i.ports, i.slaveOnly))) = [(true, 0, 3, true), (false, 1, 3, true)] ∧
    (∀ t ∈ State.reset.time.trigs, t.armed = false) ∧
    State.reset.pair.holdOff = 20 ∧ State.reset.pair.nhEnable = false ∧ State.reset.pair.nhPort = 2 ∧ State.reset.pair.nhDscp = 46 ∧
    State.reset.pair.takeovers = 0 ∧ State.reset.pair.handovers = 0

/-- The memory at reset is in the canonical form that every step keeps; that an unlisted byte reads 0 is the model's
choice (log 9) (17_store_boot_power Table 17-8, log 9 (DESIGN CHOICE)). -/
def Obligations.ResetMemoryIsCanonical : Prop :=
  State.reset.memOk = true ∧ ∀ a, memRead State.reset.mem a = 0

/-- Whatever command is in front, or none, a step from a canonical memory leaves a canonical memory (R520, 05_vent_cores
Table 5-1, log 9 (DESIGN CHOICE)). -/
def Obligations.StepKeepsMemoryCanonical : Prop :=
  ∀ s t : State, s.memOk = true → step s = .next t → t.memOk = true

/-- ROUTE_SET, ROUTE_CLEAR, DOMAIN_CONFIG, BRIDGE_CONFIG and ASRC_CONFIG at their apply tick (R66, R68, R79, R80, R84,
R85, R87, R497, R498, R501, R503). -/
def Obligations.RoutingCommands : Prop :=
  ∀ s : State,
    (∀ e w1 : W32, let x : RouteWords := ⟨fld e 31 16, fld e 15 0, w1⟩
      x.bad s.route.family44 = false → x.src ≠ 0xFFFF →
      let r := s.route.setEntry (s.sinkDomain x.sink) x.sink x.src (bit w1 30) (fld w1 29 18) (fld w1 17 0)
      (({ s with route := r } : State).routesFit r = false → exec (.routeSet .apply [w32 1, e, w1]) s = .next s) ∧
      (({ s with route := r } : State).routesFit r = true → ∃ t y, exec (.routeSet .apply [w32 1, e, w1]) s = .next t ∧
        t.route.entry x.sink = some y ∧ y.src = x.src ∧ y.inv = bit w1 30 ∧ y.xfade = fld w1 29 18 ∧ y.delay = fld w1 17 0 ∧ y.clearing = false ∧
        (∀ a, a ≠ x.sink → t.route.entry a = s.route.entry a) ∧
        (s.route.entry x.sink = none → (∀ f ∈ s.route.fades, f.sink ≠ x.sink) → y.slot.isSome = decide (y.delay ≠ 0 ∧ addrClass x.sink ≠ 10) ∧
          ((s.sinkDomain x.sink).isSome = true → addrClass x.sink ≠ 10 → y.xfade ≠ 0 → (⟨x.sink, [], y.xfade, 0⟩ : Fade) ∈ t.route.fades)) ∧
        t.mem = s.mem ∧ t.vent = s.vent ∧ t.dec = s.dec ∧ t.gey = s.gey ∧ t.tdm = s.tdm ∧ t.cald = s.cald)) ∧
    (∀ (w : W32) (y : RouteEntry), fld w 31 16 = 0 → addrClass (fld w 15 0) ≠ 11 → s.route.entry (fld w 15 0) = some y → y.clearing = false →
      ∃ t, exec (.routeClear .apply [w32 1, w]) s = .next t ∧
        (y.xfade = 0 → t.route.entry (fld w 15 0) = none) ∧
        (y.xfade ≠ 0 → (s.sinkDomain (fld w 15 0)).isSome = true → addrClass (fld w 15 0) ≠ 10 →
          t.route.entry (fld w 15 0) = some { y with clearing := true, slot := none } ∧
          (⟨fld w 15 0, s.route.heldTerms (fld w 15 0), y.xfade, 0⟩ : Fade) ∈ t.route.fades) ∧
        (∀ a, a ≠ fld w 15 0 → t.route.entry a = s.route.entry a) ∧ t.mem = s.mem ∧ t.vent = s.vent ∧ t.cald = s.cald) ∧
    (∀ f : Bool, f ≠ s.route.family44 →
      ((∀ g ∈ s.gey.groups, g.st = .disarmed ∨ g.st = .fault) → ∃ t, exec (.domainConfig .apply [w32 (b2n f)]) s = .next t ∧
        t.route.family44 = f ∧ t.route.famMute = some (s.time.tick + 1200) ∧ t.route.fades = [] ∧
        (∀ x ∈ t.route.slots, x.samples = []) ∧ t.mem = s.mem ∧ t.vent = s.vent ∧ t.gey = s.gey) ∧
      ((∃ g ∈ s.gey.groups, g.st ≠ .disarmed ∧ g.st ≠ .fault) → exec (.domainConfig .apply [w32 (b2n f)]) s = .next s)) ∧
    (∀ w : W32, bit w 30 = false → fld w 27 16 = 0 → fld w 29 28 ≠ 3 → isSourceClass (addrClass (fld w 15 0)) = true →
      addrOk (fld w 15 0) = true → s.srcDomain (fld w 15 0) ≠ some (fld w 29 28) →
      let hit (b : Bridge) : Prop := b.src = fld w 15 0 ∧ b.target = fld w 29 28
      let l := s.route.bridges ++ [⟨fld w 15 0, fld w 29 28, true⟩]
      let l' := s.route.bridges.map (fun b => if b.src = fld w 15 0 ∧ b.target = fld w 29 28 then { b with held := false } else b)
      (bit w 31 = true → (∀ b ∈ s.route.bridges, ¬hit b) → s.routesFit { s.route with bridges := l } = true →
        ∃ t, exec (.bridgeConfig .apply [w]) s = .next t ∧ (⟨fld w 15 0, fld w 29 28, true⟩ : Bridge) ∈ t.route.bridges ∧
          t.route.entries = s.route.entries ∧ t.mem = s.mem ∧ t.vent = s.vent) ∧
      (bit w 31 = true → (∀ b ∈ s.route.bridges, ¬hit b) → s.routesFit { s.route with bridges := l } = false →
        exec (.bridgeConfig .apply [w]) s = .next s) ∧
      (bit w 31 = false → (∃ b ∈ s.route.bridges, hit b) → s.routesFit { s.route with bridges := l' } = true →
        ∃ t, exec (.bridgeConfig .apply [w]) s = .next t ∧ (∀ b ∈ t.route.bridges, hit b → b.held = false) ∧
          t.route.entries = s.route.entries ∧ t.mem = s.mem ∧ t.vent = s.vent)) ∧
    (∀ (k num den : Nat) (en : Bool), k < 16 → s.route.trackers.length = 16 → 0 < num → num < 2 ^ 24 → 0 < den → den < 2 ^ 24 →
      8000 * den ≤ 4 * domainRate s.route.family44 0 * num → domainRate s.route.family44 0 * num ≤ 216000 * den →
      (∀ e ∈ s.route.asrc, e.2.tracker ≠ k) →
      ∃ t, exec (.asrcConfig .apply [pack [(b2n en, 29), (2, 24), (k, 0)], w32 num, w32 den]) s = .next t ∧
        t.route = { s.route with trackers := s.route.trackers.set k ⟨en, .idle, 2, 0, num, den⟩ } ∧ t.mem = s.mem ∧ t.vent = s.vent) ∧
    (∀ (trk dom ch src : Nat), trk < 16 → dom < 3 → ch < 64 → src < 65536 → isSourceClass (src / 4096) = true → s.route.trackers.length = 16 →
      (s.route.trackers.getD trk Tracker.init).enable = true → kget s.route.asrc ch = none →
      let tr := s.route.trackers.getD trk Tracker.init
      let x : Asrc := ⟨src, trk, dom, if tr.st = .locked then some (true, 0) else none⟩
      let r := { s.route with asrc := kset s.route.asrc ch x, trackers := s.route.trackers.set trk { tr with st := if tr.st = .idle then .acquire else tr.st } }
      ({ s with route := r } : State).routesFit r = true →
      ∃ t, exec (.asrcConfig .apply [pack [(1, 30), (1, 29), (dom, 27), (trk, 23), (1, 0)], pack [(ch, 16), (src, 0)]]) s = .next t ∧
        kget t.route.asrc ch = some x ∧ t.route.trackers = r.trackers ∧ t.mem = s.mem ∧ t.vent = s.vent)

/-- A crossfade ends on its last sample, the silence of a family change ends after 1,200 ticks, and trackers lock and
unlock (R79, R80, R84, R90, R77, R82). -/
def Obligations.RoutingHappenings : Prop :=
  (∀ (t sink : Nat) (s : State), s.back = none →
      ((∃ f ∈ s.route.fades, f.sink = sink ∧ f.len ≤ f.k) → ∃ u, exec (.crossfadeComplete t sink) s = .next u ∧
        (∀ f, f ∈ u.route.fades ↔ f ∈ s.route.fades ∧ f.sink ≠ sink) ∧
        (∀ e, e ∈ u.route.entries ↔ e ∈ s.route.entries ∧ ¬(e.sink = sink ∧ e.clearing = true)) ∧
        (∀ x ∈ u.route.slots, x ∈ s.route.slots ∧ x.num ∈ u.route.usedSlots) ∧ u.mem = s.mem ∧ u.vent = s.vent ∧ u.cald = s.cald) ∧
      ((∀ f ∈ s.route.fades, f.sink = sink → f.k < f.len) → exec (.crossfadeComplete t sink) s = .next (s.goto t))) ∧
    (∀ (m : Nat) (s : State), s.route.famMute = some m →
      (s.time.tick < m → exec .familyChangeMuteEnd s = .next s) ∧
      (m ≤ s.time.tick → ∃ u, exec .familyChangeMuteEnd s = .next u ∧ u.route = { s.route with famMute := none } ∧ u.mem = s.mem ∧ u.aud = s.aud)) ∧
    (∀ (t k : Nat) (s : State), k < 16 → s.route.trackers.length = 16 →
      let st := (s.route.trackers.getD k Tracker.init).st
      (st = .acquire → ∃ u, exec (.asrcLock t k) s = .next u ∧ (u.route.trackers.getD k Tracker.init).st = .locked ∧
        (∀ e ∈ u.route.asrc, e.2.tracker = k → e.2.fade = some (true, 0)) ∧ u.route.entries = s.route.entries ∧ u.mem = s.mem) ∧
      (st ≠ .acquire → exec (.asrcLock t k) s = .next (s.goto t)) ∧
      (st = .locked → ∃ u, exec (.asrcUnlock t k) s = .next u ∧ (u.route.trackers.getD k Tracker.init).st = .acquire ∧
        (∀ e ∈ u.route.asrc, e.2.tracker = k → e.2.fade = some (false, 0)) ∧ u.route.entries = s.route.entries ∧ u.mem = s.mem) ∧
      (st ≠ .locked → exec (.asrcUnlock t k) s = .next (s.goto t))) ∧
    (∀ (o x : Sample) (h : Nat), -(2 ^ 31) ≤ o → o < 2 ^ 31 → -(2 ^ 31) ≤ x → x < 2 ^ 31 → h ≤ gainOne →
      fadeSample [(o, gainOne)] x h = roundDiv (o * ((gainOne - h : Nat) : Int) + x * (h : Int)) gainOne)

/-- MIX_SHAPE, XPOINT_WRITE, GAIN_SET, BANK_SWAP, LIMITER_SET, METER_CONFIG and PEAK_RESET at their apply tick (R98,
R100, R106, R108, R110, R111, R112, R114, R116, R117, R121). -/
def Obligations.CalderaCommands : Prop :=
  ∀ s : State, s.islandOn 8 = true →
    let keeps (t : State) : Prop := t.mem = s.mem ∧ t.vent = s.vent ∧ t.dec = s.dec ∧ t.gey = s.gey ∧ t.tdm = s.tdm ∧ t.time = s.time
    let c := s.cald.settle s.time.tick
    let d := s.cald.shape - 1
    (∀ sh, sh < 4 → sh ≠ s.cald.shape →
      let s1 : State := { s with cald := { s.cald with
        shape := sh, active := [], shadow := [], ramp := none, lockEnd := none, version := s.cald.version + 1
        inG := (s.cald.inG.filter (fun e => e.1 < shapeInputs sh)).map (fun e => (e.1, e.2.finish))
        busG := s.cald.busG.map (fun e => (e.1, e.2.finish))
        lims := s.cald.lims.map (fun e => (e.1, { e.2 with g := limOne, req := [], xs := [], old := [], k := 0 })) } }
      let fits := s1.routesFit (s1.route.resetSinks s1.sinkDomain (s1.changedSinks s))
      (fits = true → ∃ t, exec (.mixShape .apply [w32 sh]) s = .next t ∧ t.cald = s1.cald ∧ keeps t) ∧
      (fits = false → exec (.mixShape .apply [w32 sh]) s = .next s)) ∧
    (∃ t, exec (.mixShape .apply [w32 s.cald.shape]) s = .next t ∧ (s.cald.shape < 4 → t.cald = s.cald ∧ t.route = s.route ∧ keeps t)) ∧
    (∀ (bus inp : Nat) (ws : List W32) (n : Nat), s.cald.shape ≠ 0 → c.lockEnd = none → 0 < n → n ≤ 2038 → bus < 256 → inp + n ≤ shapeInputs s.cald.shape →
      ws.length = (n + 1) / 2 → (n % 2 = 1 → fld (ws.getLastD 0) 15 0 = 0) →
      let coef (i : Nat) : Nat := if i % 2 = 0 then fld (ws.getD (i / 2) 0) 31 16 else fld (ws.getD (i / 2) 0) 15 0
      ∃ t, exec (.xpointWrite .apply (pack [(inp, 8), (bus, 0)] :: w32 n :: ws)) s = .next t ∧
        (∀ b i, i < 2048 → kgetD t.cald.shadow (xpKey b i) 0 =
          if b = bus ∧ inp ≤ i ∧ i < inp + n then coef (i - inp) else kgetD c.shadow (xpKey b i) 0) ∧
        t.cald.active = s.cald.active ∧ t.cald.version = s.cald.version ∧ keeps t) ∧
    (∀ (a : Nat) (g : W16) (inv : Bool) (ms : Nat), s.cald.shape ≠ 0 → addrOk a = true → a < 65536 → addrClass a = 5 ∨ addrClass a = 6 → ms ≤ 100 →
      (g = 0x8000 ∨ (-14400 ≤ g.toInt ∧ g.toInt ≤ 2400)) →
      let lins := if addrClass a = 6 then s.cald.busG else s.cald.inG
      let old := kgetD lins (addrIndex a) GainSt.init
      let tg := gainTarget g.toNat inv
      ∃ t, exec (.gainSet .apply [w32 1, pack [(a, 16), (g.toNat, 0)], pack [(b2n inv, 31), (ms, 0)]]) s = .next t ∧ keeps t ∧
        let x := kgetD (if addrClass a = 6 then t.cald.busG else t.cald.inG) (addrIndex a) GainSt.init
        x.code = g.toNat ∧ x.inv = inv ∧
        (if addrClass a = 5 ∧ shapeInputs s.cald.shape ≤ addrIndex a then x.lin = tg ∧ x.change = none
         else x.lin = old.lin ∧ x.change = if tg = old.lin then none
           else some ⟨tg, (if ms = 0 then 10 else ms) * domainRate s.route.family44 d / 1000, 0, none⟩) ∧
        (∀ i, i ≠ addrIndex a → kget t.cald.busG i = kget s.cald.busG i ∧ kget t.cald.inG i = kget s.cald.inG i)) ∧
    (∀ r, s.cald.shape ≠ 0 → s.cald.shape < 4 → c.lockEnd = none → r = 0 ∨ 4 ≤ r ∧ r ≤ 1024 →
      let len := if r = 0 then 128 else r
      ∃ t, exec (.bankSwap .apply [w32 r]) s = .next t ∧ t.cald.active = c.shadow ∧ t.cald.shadow = c.active ∧
        t.cald.ramp = some ⟨c.active, len, 0⟩ ∧ t.cald.version = s.cald.version + 1 ∧ keeps t ∧
        (s.route.family44 = false → t.cald.lockEnd = some (s.time.tick + ceilDiv len (2 * 2 ^ d) + 1))) ∧
    (∀ p, c.lockEnd.isSome = true → exec (.bankSwap .apply p) s = .next s ∧ exec (.xpointWrite .apply p) s = .next s) ∧
    (∀ (first last look th rel : Nat) (en : Bool), s.cald.shape ≠ 0 → first ≤ last → last < 256 → look ≤ 32 → th ≤ 400 → 0 < rel → rel ≤ 2000 →
      ∃ t, exec (.limiterSet .apply [pack [(first, 8), (last, 0)], pack [(b2n en, 31), (look, 24), (th, 12), (rel, 0)]]) s = .next t ∧ keeps t ∧
        ∀ b, let o := kgetD s.cald.lims b Lim.init
          let x := kgetD t.cald.lims b Lim.init
          if first ≤ b ∧ b ≤ last ∧ ¬(o.enable = en ∧ o.look = look ∧ o.thresh = th ∧ o.release = rel) then
            (x.enable, x.look, x.thresh, x.release, x.g, x.req, x.xs) = (en, look, th, rel, limOne, [], o.xs)
          else x = o) ∧
    (∀ (first n rms hold alarm per : Nat) (tp en : Bool), 0 < n → first + n ≤ 4096 → 0 < rms → rms ≤ 3000 → hold ≤ 600 → alarm ≤ 1440 → per ≤ 240 →
      ∃ t, exec (.meterConfig .apply [pack [(first, 16), (n, 0)], pack [(rms, 20), (hold, 10), (b2n tp, 9), (b2n en, 8)], w32 alarm, w32 per]) s = .next t ∧
        keeps t ∧ t.meter.period = (if per = 0 then s.meter.period else per) ∧
        (∀ k, first ≤ k → k < first + n → let x := kgetD t.meter.taps k Tap.init
          (x.rmsMs, x.hold, x.holdTp, x.alarmEn, x.alarm) = (rms, hold, tp, en, alarm)) ∧
        (∀ k, ¬(first ≤ k ∧ k < first + n) → kget t.meter.taps k = kget s.meter.taps k)) ∧
    (∀ first n : Nat, 0 < n →
      (first + n ≤ 4096 → ∃ t, exec (.peakReset .apply [pack [(first, 16), (n, 0)]]) s = .next t ∧ keeps t ∧ t.cald = s.cald ∧
        ∀ k, let o := kgetD s.meter.taps k Tap.init
          let x := kgetD t.meter.taps k Tap.init
          if first ≤ k ∧ k < first + n then (x.holdLevel, x.holdTick, x.armed, x.peak) = (0, 0, true, o.peak) else x = o) ∧
      (first + n ≤ 256 → ∃ t, exec (.peakReset .apply [pack [(1, 31), (first, 16), (n, 0)]]) s = .next t ∧ keeps t ∧ t.meter = s.meter ∧
        ∀ b, (b ∈ t.cald.sat ↔ b ∈ s.cald.sat ∧ ¬(first ≤ b ∧ b < first + n)) ∧ (b ∈ t.cald.clip ↔ b ∈ s.cald.clip ∧ ¬(first ≤ b ∧ b < first + n))))

/-- Boundaries, the cut-off, the buses of a tick, gain ramps, the end of the bank lock and publications (R11, R13, R14,
R99, R105, R107, R112, R114, R119, R120, R123). -/
def Obligations.CalderaAndTickRows : Prop :=
  (∀ s : State, s.sys.phase ≠ .reset → ∃ t, exec .tickBoundary s = .next t ∧ t.time.tick = s.time.tick + 1 ∧ t.time.sub = 0 ∧
      t.aud.dataTick = s.time.tick ∧ t.aud.cut = false ∧ t.cald.done = false ∧ t.pending = s.pending) ∧
    (∀ s : State, s.sys.phase ≠ .reset → s.aud.cut = false → ∃ t, exec .inputCutoff s = .next t ∧ t.aud.cut = true ∧
      t.aud.running = true ∧ t.time.tick = s.time.tick ∧ t.aud.dataTick = s.aud.dataTick ∧
      (∀ n, n < 64 → ∀ w ∈ (t.core n).params, s.aud.dataTick < w.tick)) ∧
    (∀ s : State, (s.sys.phase = .reset → exec .tickBoundary s = .next s) ∧ (s.sys.phase = .reset ∨ s.aud.cut = true → exec .inputCutoff s = .next s)) ∧
    (∀ (n : Nat) (s : State), s.back = none →
      (s.cald.shape ≠ 0 → s.islandOn 8 = true → s.cald.done = false → (s.goto n).caldReady = true →
        ∃ t, exec (.calderaComplete n) s = .next t ∧ t.cald.done = true ∧ t.mem = s.mem ∧ t.vent = s.vent ∧
          (∀ b ∈ s.cald.busyBuses, ∃ xs, kget t.aud.src (0x6000 + b) = some xs ∧ ∀ x ∈ xs, -(2 ^ 31) ≤ x ∧ x < 2 ^ 31)) ∧
      (s.cald.shape = 0 ∨ s.islandOn 8 = false ∨ s.cald.done = true → exec (.calderaComplete n) s = .next (s.goto n))) ∧
    (∀ (n idx : Nat) (s : State) (g : GainSt) (c : GainChange), s.back = none → kget s.cald.inG idx = some g → g.change = some c → c.ramp = none →
      (c.wait ≤ c.waited → ∃ t, exec (.gainTimeout n false idx) s = .next t ∧ kget t.cald.inG idx = some { g with change := some { c with ramp := some (g.lin, 0) } } ∧
        (∀ i, i ≠ idx → kget t.cald.inG i = kget s.cald.inG i) ∧ t.cald.busG = s.cald.busG ∧ t.route = s.route) ∧
      (c.waited < c.wait → ∃ t, exec (.gainTimeout n false idx) s = .next t ∧ kget t.cald.inG idx = some g)) ∧
    (∀ (n idx : Nat) (s : State) (g : GainSt) (c : GainChange), s.back = none → kget s.cald.busG idx = some g → g.change = some c → c.ramp = none → c.wait ≤ c.waited →
      ∃ t, exec (.gainTimeout n true idx) s = .next t ∧ kget t.cald.busG idx = some { g with change := some { c with ramp := some (g.lin, 0) } } ∧
        (∀ i, i ≠ idx → kget t.cald.busG i = kget s.cald.busG i) ∧ t.cald.inG = s.cald.inG) ∧
    (∀ (e : Nat) (s : State), s.cald.lockEnd = some e →
      (e ≤ s.time.tick → ∃ t, exec .bankLockEnd s = .next t ∧ t.cald = { s.cald with shadow := s.cald.active, lockEnd := none } ∧ t.mem = s.mem ∧ t.route = s.route) ∧
      (s.time.tick < e → ∃ t, exec .bankLockEnd s = .next t ∧ t.cald = s.cald ∧ t.mem = s.mem ∧ t.route = s.route)) ∧
    (∀ (n : Nat) (x : Pub) (s : State), s.meter.due = some x →
      (s.islandOn 8 = true → ∃ t, exec (.meterPublication n) s = .next t ∧ t.meter.pubTaps = x.taps ∧ t.meter.pubBus = x.bus ∧
        t.meter.pubTick = x.tick ∧ t.meter.gen = s.meter.gen + 2 ∧ t.meter.published = true ∧ t.meter.due = none ∧ t.mem = s.mem ∧ t.cald = s.cald) ∧
      (s.islandOn 8 = false → exec (.meterPublication n) s = .next (s.goto n))) ∧
    (∀ (g : GainSt) (c : GainChange) (x : Int), g.change = some c →
      (c.ramp = none → c.waited < c.wait → zeroCross x g.last = true → g.step x = (c.target, { g with lin := c.target, last := x, change := none })) ∧
      (c.ramp = none → c.waited < c.wait → zeroCross x g.last = false → g.step x = (g.lin, { g with last := x, change := some { c with waited := c.waited + 1 } })) ∧
      (∀ a k, c.ramp = some (a, k) → (g.step x).1 = a + roundDiv ((c.target - a) * (k + 1)) 64 ∧
        (k = 63 → (g.step x).1 = c.target ∧ (g.step x).2.change = none))) ∧
    (∀ sgn e m : Nat, sgn < 2 → e < 16 → m < 2048 → coefValue (sgn * 32768 + e * 2048 + m) =
      (if sgn = 1 then -1 else 1) * (if e = 0 then (m : Int) else ((2048 + m : Nat) : Int) * 2 ^ (e - 1)))

/-- DEC_CONFIG, DEC_SYNC, DETECT_CONFIG and DCBLOCK_CONFIG, and what happens to contexts and sense lanes (R189, R190,
R192, R193, R194, R195, R196, R197, R198, R201, R202). -/
def Obligations.DecimatorCommandsAndSenseLanes : Prop :=
  ∀ s : State, s.islandOn 13 = true → s.dec.ctxs.length = 560 → s.dec.lanes.length = 24 →
    let keeps (t : State) : Prop := t.mem = s.mem ∧ t.vent = s.vent ∧ t.cald = s.cald ∧ t.tdm = s.tdm
    let restarted (o x : DecCtx) (b : Nat) : Prop := x.settle = some (b + settleTicks x.preset) ∧ x.settling = true ∧ x.fade = none ∧ x.block = [] ∧ x.m = o.m ∧ x.fast = o.fast
    (∀ (first last : Nat) (w : W32), first ≤ last → last < 512 → fld w 30 29 ≠ 3 → fld w 26 25 ≠ 3 → fld w 24 18 = 0 →
      (if fld w 28 27 = 3 then 8000 ≤ fld w 17 0 ∧ fld w 17 0 ≤ 200000 else fld w 17 0 = 0) →
      ((s.mapCtxs (span first last) (fun c => c.configure s.time.tick w)).reassign s).status = 0 →
      ∃ t, exec (.decConfig .apply [pack [(first, 9), (last, 0)], w]) s = .next t ∧ keeps t ∧ ∀ i, let o := s.dctx i
        let x := t.dctx i
        if first ≤ i ∧ i ≤ last then
          (x.enable, x.preset, x.domain, x.scale, x.rate) = (bit w 31, fld w 30 29, fld w 28 27, fld w 26 25, fld w 17 0) ∧
          (bit w 31 = true → (o.enable = false ∨ o.preset ≠ fld w 30 29 ∨ o.domain ≠ fld w 28 27 ∨ o.rate ≠ fld w 17 0) → restarted o x s.time.tick) ∧
          (bit w 31 = true → o.enable = true → o.preset = fld w 30 29 → o.domain = fld w 28 27 → o.rate = fld w 17 0 → x = { o with scale := fld w 26 25 })
        else x = o) ∧
    (∀ (clk : List Nat) (en : Bool), clk.length = 4 → (∀ k ∈ clk, k < 3) →
      ∃ t, exec (.decConfig .apply [pack [(1, 30), (b2n en, 8), (clk.getD 3 0, 6), (clk.getD 2 0, 4), (clk.getD 1 0, 2), (clk.getD 0 0, 0)]]) s = .next t ∧ keeps t ∧
        t.dec.clk = clk ∧ t.dec.syncInEn = en ∧ ∀ i, i < 512 →
          if i < 128 ∧ (s.dctx i).enable = true ∧ clk.getD (i / 32) 0 ≠ s.dec.clk.getD (i / 32) 0 then restarted (s.dctx i) (t.dctx i) s.time.tick else t.dctx i = s.dctx i) ∧
    (∀ m, m < 2 ^ 24 → ∃ t, exec (.decConfig .apply [pack [(2, 30), (m, 0)]]) s = .next t ∧ t.mem = s.mem ∧ t.vent = s.vent ∧ ∀ l, l < 24 →
      (m.testBit l = false → (t.lane l).st = .off ∧ ((s.lane l).st ≠ .off → (t.lane l).psOk = false)) ∧
      (m.testBit l = true → (s.lane l).st = .off → (t.lane l).st = .hunt) ∧ (m.testBit l = true → (s.lane l).st ≠ .off → t.lane l = s.lane l)) ∧
    (∀ out : Bool, ∃ t, exec (.decSync .apply [w32 (b2n out)]) s = .next t ∧ keeps t ∧
      (∀ i, if i < 128 ∧ (s.dctx i).enable = true then restarted (s.dctx i) (t.dctx i) s.time.tick else t.dctx i = s.dctx i) ∧
      t.out = if out = true ∧ s.pair.owner = true then
        s.out ++ [.pulse .decSyncOut (s.time.tick - 1) (boundaryNs s.time.tick - boundaryNs (s.time.tick - 1) - 10000) 1302] else s.out) ∧
    (∀ (first last blk f pr cl : Nat) (en rep ce se : Bool), first ≤ last → last < 512 → 0 < blk → blk ≤ 240 → 10 ≤ f → f < 2 ^ 18 → pr ≤ 1440 → cl ≤ 1440 →
      (∀ i, first ≤ i → i ≤ last → 100 * f ≤ 45 * (s.dctx i).preRate) →
      ∃ t, exec (.detectConfig .apply [pack [(first, 9), (last, 0)], pack [(b2n en, 31), (b2n rep, 30), (blk, 22), (f, 0)], w32 pr,
          pack [(b2n ce, 31), (b2n se, 30), (cl, 0)]]) s = .next t ∧ keeps t ∧ ∀ i, let o := s.dctx i
        let x := t.dctx i
        if first ≤ i ∧ i ≤ last then (x.det, x.detReport, x.detBlock, x.detFreq, x.detPresent, x.clipEn, x.stuckEn, x.clipLevel) = (en, rep, blk, f, pr, ce, se, cl) ∧
          (o.det = false → en = true → x.skipBlock = true) ∧ x.m = o.m ∧ x.settle = o.settle
        else x = o) ∧
    (∀ (first last corner : Nat) (en fr : Bool), first ≤ last → last < 512 → 10 ≤ corner → corner ≤ 1000 →
      ∃ t, exec (.dcblockConfig .apply [pack [(first, 9), (last, 0)], pack [(b2n en, 31), (b2n fr, 30), (corner, 0)]]) s = .next t ∧ keeps t ∧ ∀ i, let o := s.dctx i
        t.dctx i = if first ≤ i ∧ i ≤ last then { o with dc := en, dcFreeze := fr, dcCorner := corner, m := if o.dc = true ∧ en = true then o.m else 0 } else o) ∧
    (∀ t, let b := firstTick (s.goto t).now 2000
      (s.dec.syncInEn = true → s.follows = false → ∃ u, exec (.decSyncInEdge t) s = .next u ∧ b ∈ u.dec.syncs ∧ u.dec.ctxs = s.dec.ctxs ∧ (∀ x ∈ s.dec.syncs, x ∈ u.dec.syncs)) ∧
      (s.dec.syncInEn = false → exec (.decSyncInEdge t) s = .next (s.goto t))) ∧
    (∀ b, s.dec.syncs = [b] → (b ≤ s.time.tick → ∃ u, exec .decimatorSync s = .next u ∧ u.dec.syncs = [] ∧
        ∀ i, if i < 128 ∧ (s.dctx i).enable = true then restarted (s.dctx i) (u.dctx i) b else u.dctx i = s.dctx i) ∧
      (s.time.tick < b → exec .decimatorSync s = .next s)) ∧
    (∀ i e, i < 512 → (s.dctx i).settle = some e → (s.dctx i).settling = true → (s.dctx i).fade = none →
      (e ≤ s.time.tick → exec (.decSettleEnd i) s = .next (s.setCtx i { s.dctx i with settling := false, fade := some 0 })) ∧
      (s.time.tick < e → exec (.decSettleEnd i) s = .next s)) ∧
    (∀ t i, i < 512 → let c := s.dctx i
      c.enable = true → c.det = true → s.time.tick % c.detBlock = 0 → s.time.tick ≠ 0 → c.block ≠ [] →
      (c.skipBlock = true → exec (.detectorBlockEnd t i) s = .next ((s.goto t).setCtx i { c with block := [], skipBlock := false })) ∧
      (c.skipBlock = false → let q := detSums c.detFreq c.preRate c.block
        ∃ u, exec (.detectorBlockEnd t i) s = .next u ∧ (u.dctx i).block = [] ∧
          ((u.dctx i).present = true ↔ ∃ v, powerLevel ((4 * (q.1 * q.1 + q.2 * q.2)).toNat / (c.block.length * c.block.length)) 190 = some v ∧
            (-(10 * (c.detPresent : Int)) ≤ v ∨ (c.present = true ∧ -(10 * (c.detPresent : Int)) - 300 < v))) ∧
          (∀ j, j ≠ i → u.dctx j = s.dctx j) ∧ u.mem = s.mem)) ∧
    (∀ t i v, i < 128 → (s.dctx i).stuckEn = true → s.decClocked i = true → (s.dctx i).stuck ≠ some v →
      ∃ u, exec (.stuckDetect t i v) s = .next u ∧ u.dctx i = { s.dctx i with stuck := some v } ∧
        (∃ x ∈ u.flt.journal, x.msgH = pack [(0xEA, 8)] ∧ x.msgL = pack [(4, 28), (i, 0)]) ∧ exec (.stuckDetect t i v) u = .next (u.goto t)) ∧
    (∀ t i bits, i < 128 → s.decClocked i = true → let r := if s.dec.clk.getD (i / 32) 0 = 2 then 32 else 16
      let hist := (bits.reverse ++ (s.dctx i).bits).take (3 * r)
      ∃ u, exec (.fastPathValue t i bits) s = .next u ∧ (u.dctx i).bits = hist ∧ (u.dctx i).fast = fastValue r (s.dctx i).scale hist ∧
        (∀ j, j ≠ i → u.dctx j = s.dctx j) ∧ u.mem = s.mem) ∧
    (∀ (t l : Nat) (w : W32) (den : Nat), l < 24 → let x := s.lane l
      (x.st = .off → exec (.senseStatusWord t l w den) s = .next (s.goto t)) ∧
      (x.st = .hunt → statusValid w = false → exec (.senseStatusWord t l w den) s = .next ((s.goto t).setLane l { x with valid := 0 })) ∧
      (x.st = .hunt → statusValid w = true → x.valid < 3 → exec (.senseStatusWord t l w den) s = .next ((s.goto t).setLane l { x with valid := x.valid + 1 })) ∧
      (x.st = .hunt → statusValid w = true → x.valid = 3 → ∃ u, exec (.senseStatusWord t l w den) s = .next u ∧ (u.lane l).st = .locked ∧
        (u.lane l).psOk = bit w 25 ∧ (u.lane l).otWarn = bit w 24 ∧ (u.lane l).chFlt = fld w 22 15 ∧ u.mem = s.mem ∧
        ∀ i, 128 + 16 * l ≤ i → i < 144 + 16 * l → (s.dctx i).enable = true → restarted (s.dctx i) (u.dctx i) (s.time.tick + 1)) ∧
      (x.st = .locked → statusValid w = false → x.bad < 3 → exec (.senseStatusWord t l w den) s = .next ((s.goto t).setLane l { x with bad := x.bad + 1, invalid := x.invalid + 1 })) ∧
      (x.st = .locked → statusValid w = false → x.bad = 3 → s.classNow 0x0B 0x10 < 4 → ∃ u, exec (.senseStatusWord t l w den) s = .next u ∧ (u.lane l).st = .hunt ∧ (u.lane l).psOk = false ∧
        ∃ y ∈ u.flt.journal, fld y.msgH 31 24 = 0x0B ∧ fld y.msgH 23 16 = l ∧ fld y.msgH 15 8 = 0x10 ∧ y.msgL = 1))

/-- The seven state-changing commands of the Geyser at their apply tick (R216, R218, R220, R223, R227, R232, R233,
08_geyser_outputs Table 8-12). -/
def Obligations.GeyserCommands : Prop :=
  ∀ s : State, s.islandOn 12 = true → s.gey.groups.length = 24 → s.gey.chans.length = 192 →
    let keeps (t : State) : Prop := t.mem = s.mem ∧ t.vent = s.vent ∧ t.cald = s.cald ∧ t.tdm = s.tdm ∧ t.dec = s.dec
    (∀ (m : Nat) (w4 w5 w6 : W32), m < 2 ^ 24 →
      ((∃ g, m.testBit g = true ∧ (s.ggroup g).st.live = true) → exec (.modConfig .apply [w32 m, w4, w5, w6]) s = .next s) ∧
      ((∀ g, m.testBit g = true → (s.ggroup g).st.live = false) → fld w4 31 30 ≠ 3 → fld w4 29 28 ≠ 3 → 500 ≤ fld w4 19 10 → fld w4 19 10 ≤ 1000 → fld w4 9 0 = 0 →
        0 < fld w5 31 16 → fld w5 15 0 = 0 → 200 ≤ fld w6 31 20 → fld w6 31 20 ≤ 1000 → 50 ≤ fld w6 19 12 → fld w6 19 12 ≤ 200 → fld w6 11 0 = 0 →
        let f (x : GGroup) : GGroup := { x with domain := fld w4 31 30, carrier := fld w4 29 28, lc := bit w4 27, stagger := bit w4 26, minPulse := fld w4 25 20, maxMod := fld w4 19 10, vref := fld w5 31 16, lcFc := fld w6 31 20, lcQ := fld w6 19 12 }
        ((s.setGroups (groupMask (w32 m)) f).reassign s).status = 0 →
        ∃ t, exec (.modConfig .apply [w32 m, w4, w5, w6]) s = .next t ∧ keeps t ∧ t.gey.chans = s.gey.chans ∧
          ∀ g, t.ggroup g = if m.testBit g then f (s.ggroup g) else s.ggroup g)) ∧
    (∀ (m ms : Nat) (dg : Bool), m < 2 ^ 24 → ms = 0 ∨ 10 ≤ ms ∧ ms ≤ 500 →
      (s.islandOn 13 = true → (∀ g, m.testBit g = true → (s.ggroup g).st.live = false ∧ (s.lane g).st ≠ .off) →
        ∃ t, exec (.modArm .apply [w32 m, pack [(ms, 1), (b2n dg, 0)]]) s = .next t ∧ keeps t ∧
          (∀ g, m.testBit g = false → t.ggroup g = s.ggroup g) ∧
          (∀ g, m.testBit g = true → (t.ggroup g).st = .stage ∧ (t.ggroup g).since = s.time.tick ∧ (t.ggroup g).rampMs = (if ms = 0 then 100 else ms) ∧
            (t.ggroup g).withDiag = dg ∧ (t.ggroup g).diagRun = [] ∧
            ∀ n ∈ chansOf g, (t.gch n).st = .off ∧ (t.gch n).fails = (s.gch n).fails ∧ (t.gch n).result = if dg then (s.gch n).result else 0)) ∧
      ((∃ g, m.testBit g = true ∧ ((s.ggroup g).st.live = true ∨ (s.lane g).st = .off)) →
        exec (.modArm .apply [w32 m, pack [(ms, 1), (b2n dg, 0)]]) s = .next s)) ∧
    (∀ (g : Nat) (fast : Bool), g < 24 → let x := s.ggroup g
      ∃ t, exec (.modDisarm .apply [w32 (2 ^ g), w32 (b2n fast)]) s = .next t ∧ keeps t ∧ (∀ k, k ≠ g → t.ggroup k = s.ggroup k) ∧
        (fast = true ∨ x.st = .stage ∨ x.st = .diag ∨ x.st = .fault → (t.ggroup g).st = .disarmed ∧ ∀ n ∈ chansOf g, (t.gch n).st = .off) ∧
        (fast = false → x.st = .armed → (t.ggroup g).st = .rampDown ∧ (t.ggroup g).fading = true ∧ (t.ggroup g).rampTicks = x.rampMs * 24 ∧
          ∀ n ∈ chansOf g, (t.gch n).st = if (s.gch n).st = .retry then .off else (s.gch n).st) ∧
        (fast = false → x.st = .rampUp → (t.ggroup g).st = .rampDown ∧ (t.ggroup g).fading = false ∧ (t.ggroup g).rampTicks = s.time.tick - x.since) ∧
        (fast = false → x.st = .disarmed ∨ x.st = .rampDown → t.ggroup g = x ∧ t.gey.chans = s.gey.chans)) ∧
    (∀ n, n < 192 → let ws := (List.range 6).map (fun k => if k = n / 32 then w32 (2 ^ (n % 32)) else 0)
      let x := s.ggroup (n / 8)
      (x.st = .disarmed → ∃ t, exec (.loadDiagRun .apply ws) s = .next t ∧ keeps t ∧ (t.ggroup (n / 8)).st = .stage ∧ (t.ggroup (n / 8)).withDiag = true ∧
        (t.ggroup (n / 8)).diagRun = [n] ∧ t.gey.chans = s.gey.chans) ∧
      (x.st = .armed → (s.gch n).st = .off ∨ (s.gch n).st = .latched → ∃ t, exec (.loadDiagRun .apply ws) s = .next t ∧ keeps t ∧ (t.gch n).st = .retry ∧
        (t.gch n).runDiag = true ∧ (t.gch n).diag = some (DiagSt.start s.time.tick) ∧ t.gey.groups = s.gey.groups ∧ ∀ k, k ≠ n → t.gch k = s.gch k) ∧
      (x.st ≠ .disarmed → ¬(x.st = .armed ∧ ((s.gch n).st = .off ∨ (s.gch n).st = .latched)) → exec (.loadDiagRun .apply ws) s = .next s)) ∧
    (∀ (m : Nat) (w4 w5 w6 w7 w8 : W32), m < 2 ^ 24 → 0 < fld w6 31 24 → 0 < fld w6 23 20 → fld w6 18 0 = 0 → fld w8 15 8 ≤ 100 → fld w8 7 0 ≤ 200 →
      ∃ t, exec (.protectConfig .apply [w32 m, w4, w5, w6, w7, w8]) s = .next t ∧ keeps t ∧ t.gey.chans = s.gey.chans ∧ ∀ g, let x := t.ggroup g
        if m.testBit g then (x.iFs, x.iTrip, x.vFs, x.railFs, x.retryMs, x.retries, x.openPlay) =
            (fld w4 31 16, fld w4 15 0, fld w5 31 16, fld w5 15 0, fld w6 31 24, fld w6 23 20, bit w6 19) ∧
          (x.zOpen, x.zShort, x.iLeak, x.zTol, x.tLimit) = (fld w7 31 16, fld w7 15 0, fld w8 31 16, fld w8 15 8, fld w8 7 0) ∧ x.st = (s.ggroup g).st
        else x = s.ggroup g) ∧
    (∀ (m : Nat) (w4 w5 w6 w7 : W32), m < 2 ^ 24 → fld w4 30 24 ≤ 64 → fld w4 21 12 ≤ 120 → bit w4 11 = false → 0 < fld w4 10 0 → fld w4 10 0 ≤ 2000 →
      fld w5 31 16 ≤ fld w5 15 0 → 0 < fld w6 31 16 → 0 < fld w6 15 0 →
      ∃ t, exec (.boostConfig .apply [w32 m, w4, w5, w6, w7]) s = .next t ∧ keeps t ∧ ∀ g, let x := t.ggroup g
        if m.testBit g then (x.bst, x.look, x.bstDiv, x.headroom, x.release) = (bit w4 31, fld w4 30 24, fld w4 23 22, fld w4 21 12, fld w4 10 0) ∧
          (x.railMin, x.railMax, x.slewUp, x.slewDn, x.vin, x.kp, x.ki) = (fld w5 31 16, fld w5 15 0, fld w6 31 16, fld w6 15 0, fld w7 31 16, fld w7 15 8, fld w7 7 0) ∧
          x.st = (s.ggroup g).st ∧ ∀ n ∈ chansOf g, (t.gch n).dly.look = (if bit w4 31 then fld w4 30 24 else 0) ∧ (t.gch n).st = (s.gch n).st
        else x = s.ggroup g ∧ ∀ n ∈ chansOf g, t.gch n = s.gch n) ∧
    (∀ (ms es : List W32) (dg : Bool), ms.length = 6 → es.length = 6 →
      ∃ t, exec (.modChannelEnable .apply (ms ++ es ++ [w32 (b2n dg)])) s = .next t ∧ keeps t ∧ t.gey.groups = s.gey.groups ∧ ∀ n, n < 192 →
        let o := s.gch n
        let x := t.gch n
        let armed := (s.ggroup (n / 8)).st = .armed
        let v := bit (es.getD (n / 32) 0) (n % 32)
        if bit (ms.getD (n / 32) 0) (n % 32) then x.enabled = v ∧
          (armed → v = true → dg = false → o.st = .off → x.st = .enter ∧ x.fails = 0) ∧
          (armed → v = true → dg = true → o.st = .off ∨ o.st = .latched → x.st = .retry ∧ x.fromMod = true ∧ x.fails = 0) ∧
          (armed → v = false → o.st = .play ∨ o.st = .enter ∨ o.st = .paused → x.st = .leave) ∧
          (armed → v = false → o.st ≠ .play → o.st ≠ .enter → o.st ≠ .paused → x.st = o.st) ∧ (¬armed → x.st = o.st)
        else x = o)

/-- Arming, diagnosis, trips, pauses, retries and rail faults of groups and channels (R217, R218, R219, R220, R221,
R222, R228, R229, R230, R231, R233). -/
def Obligations.GeyserHappenings : Prop :=
  ∀ s : State, s.gey.groups.length = 24 → s.gey.chans.length = 192 → s.follows = false →
    let faulted (u : State) (g : Nat) : Prop := (u.ggroup g).st = .fault ∧ (∀ n ∈ chansOf g, (u.gch n).st = if (s.gch n).st = .latched then .latched else .off) ∧
      (∀ k, k ≠ g → u.ggroup k = s.ggroup k) ∧ u.mem = s.mem
    (∀ g, g < 24 → let x := s.ggroup g
      (x.st = .stage → x.since < s.time.tick → (s.lane g).st = .locked → (s.lane g).psOk = true → x.psFlt = false →
        ∃ u, exec (.stageReady g) s = .next u ∧ (u.ggroup g).st = (if x.withDiag then .diag else .rampUp) ∧ (u.ggroup g).since = s.time.tick ∧
          (x.withDiag = true → ∀ n ∈ (if x.diagRun.isEmpty then chansOf g else x.diagRun), n < 192 → (u.gch n).diag = some (DiagSt.start s.time.tick))) ∧
      (x.st ≠ .stage ∨ (s.lane g).psOk = false ∨ x.psFlt = true → exec (.stageReady g) s = .next s) ∧
      (∀ t, x.st = .stage → x.since + 1200 ≤ s.time.tick → ∃ u, exec (.stageTimeout t g) s = .next u ∧ faulted u g) ∧
      (∀ t, x.st = .stage → s.time.tick < x.since + 1200 → exec (.stageTimeout t g) s = .next (s.goto t)) ∧
      (∀ (n : Nat) (a b : Int) (d : DiagSt), n < 192 → n / 8 = g → (s.gch n).diag = some d → d.trip = none → d.since + 192 ≤ s.time.tick →
        ∃ u e, exec (.diagStepEnd g [(n, a, b)]) s = .next u ∧ (u.gch n).diag = some e ∧ e.step = d.step + 1 ∧
          (d.step = 1 → e.highA = a ∧ e.lowA = b) ∧ (d.step = 2 → e.highB = a ∧ e.lowB = b) ∧ (d.step = 3 → 0 < b → e.z = some (min 0xFFFFFF (roundDiv (a * 1000) b.toNat).toNat))) ∧
      (∀ t, x.st = .diag → x.since + 576 ≤ s.time.tick → x.diagRun = [] → (∃ n ∈ chansOf g, (s.gch n).diag.isSome = true) →
        ∃ u, exec (.diagComplete t g) s = .next u ∧ (u.ggroup g).st = .rampUp ∧ ∀ n ∈ chansOf g, ∀ d, (s.gch n).diag = some d →
          let r := x.resultOf (s.gch n).baseline d
          (u.gch n).result = r ∧ (u.gch n).diag = none ∧ (u.gch n).st = if x.latches r then .latched else (s.gch n).st) ∧
      (x.st = .rampUp → x.since + x.rampTicks ≤ s.time.tick → ∃ u, exec (.rampUpComplete g) s = .next u ∧ (u.ggroup g).st = .armed ∧
        ∀ n ∈ chansOf g, (u.gch n).st = if (s.gch n).st = .off ∧ (s.gch n).enabled = true then .play else (s.gch n).st) ∧
      (x.st = .rampUp → s.time.tick < x.since + x.rampTicks → exec (.rampUpComplete g) s = .next s) ∧
      (x.st = .rampDown → x.fading = true → x.since + s.groupFade g ≤ s.time.tick →
        exec (.disarmFadeComplete g) s = .next (s.setG g { x with fading := false, since := s.time.tick })) ∧
      (x.st = .rampDown → x.fading = false → x.since + x.rampTicks ≤ s.time.tick → ∃ u, exec (.rampDownComplete g) s = .next u ∧ (u.ggroup g).st = .disarmed ∧
        (∀ n ∈ chansOf g, (u.gch n).st = .off) ∧ u.mem = s.mem) ∧
      (x.st = .rampDown → x.fading = true → exec (.rampDownComplete g) s = .next s) ∧
      (∀ t, ∃ u, exec (.psFltAssert t g) s = .next u ∧ (u.ggroup g).psFlt = true ∧ (u.ggroup g).st = x.st ∧ ∀ n ∈ chansOf g,
        if (s.gch n).st = .play ∨ (s.gch n).st = .enter ∨ (s.gch n).st = .leave ∨ (s.gch n).st = .retry then (u.gch n).st = .paused ∧ (u.gch n).origin = (s.gch n).st
        else u.gch n = s.gch n) ∧
      (∀ t, ∃ u, exec (.psFltRelease t g) s = .next u ∧ (u.ggroup g).psFlt = false ∧ u.gey.chans = s.gey.chans ∧
        ((s.lane g).st = .locked → (u.ggroup g).released = some (s.time.tick + 1) ∧ (u.ggroup g).psSince = none)) ∧
      (∀ t b, x.psSince = some b → x.st.live = true → b + 2400 ≤ s.time.tick → ∃ u, exec (.psFaultTimeout t g) s = .next u ∧ faulted u g) ∧
      (∀ t, x.psSince = none → exec (.psFaultTimeout t g) s = .next (s.goto t)) ∧
      (∀ t, (x.st.live = true → (s.lane g).st = .locked → ∃ u, exec (.boostOvervoltage t g) s = .next u ∧ faulted u g) ∧
        (x.st.fromDiag = true → (s.lane g).st = .locked → ∃ u, exec (.boostUndervoltage t g) s = .next u ∧ faulted u g) ∧
        ((s.lane g).st ≠ .locked → exec (.boostOvervoltage t g) s = .next (s.goto t) ∧ exec (.boostUndervoltage t g) s = .next (s.goto t)))) ∧
    (∀ n, n < 192 → let c := s.gch n
      let x := s.ggroup (n / 8)
      (∀ t high, c.st = .play → c.diag = none → x.st.live = true → ∃ u, exec (.overcurrentTrip t n high) s = .next u ∧ (u.gch n).fails = min 15 (c.fails + 1) ∧
        (u.gch n).cause = 1 ∧ (u.gch n).st = (if x.retries ≤ min 15 (c.fails + 1) then .latched else .tripped) ∧ (∀ k, k ≠ n → u.gch k = s.gch k) ∧ u.gey.groups = s.gey.groups) ∧
      (∀ t high, x.st.live = false → exec (.overcurrentTrip t n high) s = .next (s.goto t)) ∧
      (c.st = .tripped → x.st = .armed → c.failTick + x.retryMs * 240 ≤ s.time.tick → x.psFlt = false → (s.lane (n / 8)).st = .locked →
        ∃ u, exec (.channelRetryStart n) s = .next u ∧ (u.gch n).st = .retry ∧ (u.gch n).diag = some (DiagSt.start s.time.tick) ∧ ∀ k, k ≠ n → u.gch k = s.gch k) ∧
      (c.st = .tripped → s.time.tick < c.failTick + x.retryMs * 240 → exec (.channelRetryStart n) s = .next s) ∧
      (c.st = .play → c.playSince + 240000 ≤ s.time.tick → exec (.failureCountReset n) s = .next (s.setCh n { c with fails := 0 })) ∧
      (c.st ≠ .play ∨ s.time.tick < c.playSince + 240000 → exec (.failureCountReset n) s = .next s) ∧
      (c.st = .enter → c.since + 240 + fadeTicks s.route.family44 x.domain (c.since + 240) ≤ s.time.tick →
        exec (.channelEnterComplete n) s = .next (s.setCh n { c with st := .play, since := s.time.tick, playSince := s.time.tick })) ∧
      (c.st = .leave → c.since + fadeTicks s.route.family44 x.domain c.since + 240 ≤ s.time.tick →
        exec (.channelLeaveComplete n) s = .next (s.setCh n { c with st := .off, since := s.time.tick, fade := none })) ∧
      (c.st ≠ .enter → exec (.channelEnterComplete n) s = .next s) ∧ (c.st ≠ .leave → exec (.channelLeaveComplete n) s = .next s))

/-- TDM_CONFIG, TDM_SLOTMASK and TDM_RESTART, frame starts, and groups that qualify or are lost (R242, R243, R245, R249,
R250, R252, R253, R256, R259). -/
def Obligations.TdmCommandsAndFrames : Prop :=
  ∀ s : State, s.islandOn 14 = true → s.tdm.groups.length = 8 → s.tdm.ports.length = 32 →
    let keeps (t : State) : Prop := t.mem = s.mem ∧ t.vent = s.vent ∧ t.cald = s.cald ∧ t.gey = s.gey ∧ t.dec = s.dec
    let restarted (x : TPort) : Prop := x.inFifo = [] ∧ x.outFifo = [] ∧ x.inFill = 32000000000 ∧ x.outFill = 32000000000 ∧ x.slip = false ∧
      x.muteFrom = none ∧ x.inRot = 0 ∧ x.outRot = 0 ∧ x.restart = true ∧ x.muteTo = s.time.tick + 2
    (∀ (g : Nat) (w : W32), g < 8 → let o := s.tgroup g
      let n : TGroup := { o with enable := bit w 31, sync := fld w 30 29, domain := fld w 28 27, format := fld w 26 25, delay := bit w 24, bclkInv := bit w 23, fsInv := bit w 22, mclk := fld w 21 20, frameBits := fld w 10 0 }
      n.sync ≠ 3 → n.domain ≠ 3 → n.format ≠ 3 → fld w 19 11 = 0 → 32 ≤ n.frameBits → n.frameBits ≤ 1024 → masterClash n = false →
      (∀ p ∈ s.groupPorts g, portClash n (s.tport p) = false) → (applyTdmConfig [w32 g, w] s).status = 0 →
      ∃ t, exec (.tdmConfig .apply [w32 g, w]) s = .next t ∧ keeps t ∧ (∀ k, k ≠ g → t.tgroup k = s.tgroup k) ∧ let x := t.tgroup g
        (x.enable, x.sync, x.domain, x.format, x.delay, x.bclkInv, x.fsInv, x.mclk, x.frameBits) =
          (n.enable, n.sync, n.domain, n.format, n.delay, n.bclkInv, n.fsInv, n.mclk, n.frameBits) ∧
        x.st = if n.enable = false then .off else if n.sync = 0 then .run else if o.st = .off ∨ o.sync = 0 then .search else o.st) ∧
    (∀ (k : Nat) (w : W32), k < 32 → let n : TPort := { s.tport k with inEn := bit w 31, outEn := bit w 30, group := fld w 29 27, slots := fld w 26 21, width := fld w 20 19, data := fld w 18 17, pack3 := bit w 16 }
      0 < n.slots → n.slots ≤ 32 → n.width ≠ 3 → n.data ≠ 3 → fld w 15 0 = 0 → tdmBits n.data ≤ tdmBits n.width → portClash (s.tgroup n.group) n = false →
      (applyTdmConfig [pack [(1, 30), (k, 0)], w] s).status = 0 →
      ∃ t, exec (.tdmConfig .apply [pack [(1, 30), (k, 0)], w]) s = .next t ∧ keeps t ∧ t.tdm.groups = s.tdm.groups ∧ (∀ j, j ≠ k → t.tport j = s.tport j) ∧ let x := t.tport k
        (x.inEn, x.outEn, x.group, x.slots, x.width, x.data, x.pack3) = (n.inEn, n.outEn, n.group, n.slots, n.width, n.data, n.pack3) ∧
        (n ≠ s.tport k → (s.tgroup n.group).st = .run → restarted x)) ∧
    (∀ (k : Nat) (i o : W32), k < 32 → ∃ t, exec (.tdmSlotmask .apply [w32 1, w32 k, i, o]) s = .next t ∧ keeps t ∧
      t.tdm = { s.tdm with ports := s.tdm.ports.set k { s.tport k with inPend := i, outPend := o, inPendAt := some s.time.tick, outPendAt := some s.time.tick } }) ∧
    (∀ m : W32, ∃ t, exec (.tdmRestart .apply [m]) s = .next t ∧ keeps t ∧ t.tdm.groups = s.tdm.groups ∧ ∀ p, p < 32 →
      if bit m p = true ∧ (s.tgroup (s.tport p).group).st = .run then restarted (t.tport p) ∧ (t.tport p).slips = (s.tport p).slips ∧ (t.tport p).inMask = (s.tport p).inMask
      else t.tport p = s.tport p) ∧
    (∀ (t g n rate : Nat) (din : List (Nat × List W32)), g < 8 → let x := s.tgroup g
      (x.st = .off → exec (.tdmFrameStart t g n rate din) s = .next (s.goto t)) ∧
      (x.st = .search → x.sync ≠ 0 → let good := n = x.frameBits ∧ (x.sync = 1 → rateNear (domainRate s.route.family44 x.domain) rate = true)
        ∃ u, exec (.tdmFrameStart t g n rate din) s = .next u ∧ (u.tgroup g).st = .search ∧ u.tdm.ports = s.tdm.ports ∧ u.mem = s.mem ∧
          (good → (u.tgroup g).goodFrames = x.goodFrames + 1 ∧ (u.tgroup g).qualified = decide (8 ≤ x.goodFrames + 1)) ∧
          (¬good → (u.tgroup g).goodFrames = 0 ∧ (u.tgroup g).qualified = false)) ∧
      (x.st = .run → x.sync = 0 → ∃ u, exec (.tdmFrameStart t g n rate din) s = .next u ∧ u.mem = s.mem ∧ ∀ p, p < 32 → (s.tport p).group = g →
        let y := s.tport p
        y.inEn = true → y.restart = false → y.inPendAt = none → (u.tport p).inFifo = y.inFifo ++ (List.range y.slots).map (fun i =>
          if bit y.inMask i then slotSample y.data ((kgetD din p []).getD i 0) else 0)) ∧
      (x.st = .search → x.qualified = true → s.follows = false → ∃ u, exec (.tdmGroupQualify g) s = .next u ∧ (u.tgroup g).st = .run ∧
        (∀ p, p < 32 → (s.tport p).group = g → restarted (u.tport p)) ∧ (∃ r ∈ u.flt.journal, r.msgH = pack [(0xE8, 8)] ∧ r.msgL = pack [(2, 28), (1, 24), (g, 0)])) ∧
      (x.qualified = false ∨ x.st ≠ .search → exec (.tdmGroupQualify g) s = .next s) ∧
      (∀ cause, x.st = .run → x.sync ≠ 0 → s.follows = false → cause = 2 ∨ cause = 3 ∨ (cause = 4 ∧ 2 ≤ x.badRun) ∨ (cause = 5 ∧ x.sync = 1) → s.classNow 0x0A 0x0D < 4 →
        ∃ u, exec (.tdmGroupLoss t g cause) s = .next u ∧ (u.tgroup g).st = .search ∧ (u.tgroup g).goodFrames = 0 ∧ (u.tgroup g).qualified = false ∧ u.tdm.ports = s.tdm.ports ∧
          ∃ r ∈ u.flt.journal, fld r.msgH 31 24 = 0x0A ∧ fld r.msgH 23 16 = 32 + g ∧ fld r.msgH 15 8 = 0x0D ∧ fld r.msgL 31 24 = cause) ∧
      (∀ cause, x.st ≠ .run ∨ x.sync = 0 → exec (.tdmGroupLoss t g cause) s = .next (s.goto t))) ∧
    (∀ (w : W32) (x : Sample), -(2 ^ 31) ≤ x → x < 2 ^ 31 → slotSample 2 w = w.toInt ∧ wireSample 2 x = x ∧ slotSample 1 w = w.toInt - w.toNat % 256 ∧ slotSample 0 w = w.toInt - w.toNat % 65536 ∧
      wireSample 1 x = min (2 ^ 31 - 256) (256 * ((x + 128) / 256)) ∧ wireSample 0 x = min (2 ^ 31 - 65536) (65536 * ((x + 32768) / 65536)))

/-- PORT_CONFIG, GATE_LIST_LOAD, FLOW_CONFIG and ADDRESS_CONFIG, and frames, pauses, gates and links at a port (R265,
R267, R268, R271, R272, R273, R274, R276, R277, R279, R280, R495). -/
def Obligations.NetworkCommandsAndFrames : Prop :=
  ∀ s : State, s.net.ports.length = 3 → ∀ i, i < 3 → let o := s.port i
    o.rxq.length = 8 → o.txq.length = 8 → o.counters.length = 48 →
    (∀ w4 w5 w6 : W32, let n : Port := { o with enable := bit w4 31, speed := fld w4 30 30, fec := fld w4 29 28, an := bit w4 27, loopback := fld w4 26 25, promisc := bit w4 24, mtu := fld w4 13 0, rxMap := w5, txPcp := w6 }
      n.fec ≠ 3 → (n.fec = 2 → n.speed = 1 → i = 2) → (i = 2 → n.fec = 0) → (n.an = true → i = 2 ∧ n.speed = 0) → n.loopback ≠ 3 → fld w4 23 14 = 0 →
      1500 ≤ n.mtu → n.mtu ≤ 9000 → fld w5 31 24 = 0 → fld w6 31 24 = 0 →
      let changed := n.enable ≠ o.enable ∨ n.speed ≠ o.speed ∨ n.fec ≠ o.fec ∨ n.an ≠ o.an ∨ n.loopback ≠ o.loopback
      (n.speed ≠ o.speed → s.portFits i n = false → exec (.portConfig .apply [w32 i, w4, w5, w6]) s = .next s) ∧
      (n.speed = o.speed ∨ s.portFits i n = true → ∃ t, exec (.portConfig .apply [w32 i, w4, w5, w6]) s = .next t ∧ let x := t.port i
        (x.enable, x.speed, x.fec, x.an, x.loopback, x.promisc, x.mtu, x.rxMap, x.txPcp) = (n.enable, n.speed, n.fec, n.an, n.loopback, n.promisc, n.mtu, n.rxMap, n.txPcp) ∧
        (changed → x.linkUp = false ∧ x.lock = false) ∧ (¬changed → x.linkUp = o.linkUp ∧ x.rxq = o.rxq ∧ x.txq = o.txq) ∧ t.mem = s.mem ∧ t.vent = s.vent)) ∧
    (∀ (cyc : Nat) (es : List W32), 0 < cyc → cyc ≤ 24 → es ≠ [] → es.length ≤ 256 → (∀ w ∈ es, fld w 23 19 = 0 ∧ 64 ≤ fld w 18 0 ∧ fld w 18 0 ≤ 393216) →
      (es.map (fun w => fld w 18 0)).sum = cyc * 16384 → let g : GateList := ⟨cyc, es.map (fun w => (fld w 31 24, fld w 18 0))⟩
      let p := pack [(es.length, 16), (cyc, 8), (i, 0)] :: es
      (s.portFits i { o with gatesNext := some g } = false → exec (.gateListLoad .apply p) s = .next s) ∧
      (s.portFits i { o with gatesNext := some g } = true → ∃ t, exec (.gateListLoad .apply p) s = .next t ∧
        (t.port i).gates = (if s.time.tick % o.gates.cycle = 0 then g else o.gates) ∧
        (t.port i).gatesNext = (if s.time.tick % o.gates.cycle = 0 then none else some g) ∧ t.mem = s.mem ∧ t.strm = s.strm)) ∧
    (∀ (mode q wd : Nat) (rx tx : List W32), mode < 3 → 0 < q → q < 65536 → 0 < wd → wd ≤ 1000 → rx.length = 8 → tx.length = 8 →
      (∀ w ∈ rx, fld w 31 24 = 0 ∧ 0 < fld w 23 16 ∧ fld w 23 16 ≤ 100 ∧ fld w 15 8 < fld w 23 16) → (∀ w ∈ tx, fld w 31 8 = 0) →
      (rx.map (fun w => fld w 7 0)).sum + (tx.map (fun w => fld w 7 0)).sum = (if i = 2 then 64 else 256) →
      let same := (∀ k, k < 8 → fld (rx.getD k 0) 7 0 = (o.rxq.getD k (Queue.init 0 75 50)).size ∧ fld (tx.getD k 0) 7 0 = (o.txq.getD k (Queue.init 0 75 50)).size)
      let p := pack [(mode, 2), (i, 0)] :: pack [(q, 16), (wd, 0)] :: (rx ++ tx)
      (o.enable = true → ¬same → exec (.flowConfig .apply p) s = .next s) ∧
      (o.enable = false ∨ same → ∃ t, exec (.flowConfig .apply p) s = .next t ∧ ((t.port i).mode, (t.port i).quanta, (t.port i).wdLimit) = (mode, q, wd) ∧ t.mem = s.mem ∧
        ∀ k, k < 8 → ((t.port i).rxq.getD k (Queue.init 0 75 50)).pkts = (o.rxq.getD k (Queue.init 0 75 50)).pkts ∧
          ((t.port i).rxq.getD k (Queue.init 0 75 50)).high = fld (rx.getD k 0) 23 16 ∧ ((t.port i).rxq.getD k (Queue.init 0 75 50)).size = fld (rx.getD k 0) 7 0)) ∧
    (∀ mh ml ip pl gw : W32, fld ml 15 0 = 0 → pl.toNat ≤ 32 → ∃ t, exec (.addressConfig .apply [w32 i, mh, ml, ip, pl, gw, 0, 0, 0]) s = .next t ∧
      t.port i = { o with mac := mh.toNat * 65536 + fld ml 31 16, ip := ip.toNat, plen := pl.toNat, gateway := gw.toNat, streamMac := 0, streamIp := 0 } ∧ t.mem = s.mem) ∧
    (∀ (ip src : W32) (pt mtu pl : Nat), 576 ≤ mtu → mtu ≤ 9000 → pt < 65536 → pl ≤ 32 → ∃ t, exec (.addressConfig .apply [pack [(1, 30), (1, 0)], ip, pack [(pt, 16), (mtu, 0)], src, w32 pl]) s = .next t ∧
      t.host.evtIp = ip.toNat ∧ t.host.evtPort = pt ∧ t.host.cmdMtu = mtu ∧ t.host.allow = [(src.toNat, pl)] ∧ t.net = s.net) ∧
    (∀ (k : Nat) (h l : W32), s.net.mcast.length = 64 → k < 64 → fld l 14 0 = 0 → ∃ t, exec (.addressConfig .apply [pack [(2, 30), (k, 8), (1, 0)], h, l]) s = .next t ∧
      t.net.mcast = s.net.mcast.set k (h.toNat * 65536 + fld l 31 16, bit l 15) ∧ t.net.ports = s.net.ports) ∧
    (∀ (t : Nat) (f : Frame), let z := s.goto t
      let good := f.fcsOk = true ∧ f.cut = false
      (o.enable = false ∨ o.linkUp = false → exec (.frameReceive t i f) s = .next z) ∧
      (o.enable = true → o.linkUp = true → f.cut = false → f.len < 64 → exec (.frameReceive t i f) s = .next (z.countPort i (if f.fcsOk then 14 else 15) 1)) ∧
      (o.enable = true → o.linkUp = true → f.cut = false → 64 ≤ f.len → o.mtu + 22 < f.len → exec (.frameReceive t i f) s = .next (z.countPort i (if f.fcsOk then 16 else 17) 1)) ∧
      (o.enable = true → o.linkUp = true → f.cut = false → f.fcsOk = false → 64 ≤ f.len → f.len ≤ o.mtu + 22 → exec (.frameReceive t i f) s = .next (z.countPort i 18 1)) ∧
      (o.enable = true → o.linkUp = true → good → 64 ≤ f.len → f.len ≤ o.mtu + 22 → s.addrPasses i f = false →
        ∃ u, exec (.frameReceive t i f) s = .next u ∧ (u.port i).rxq = o.rxq ∧ (u.port i).counters.getD 20 0 = min 0xFFFFFFFF (o.counters.getD 20 0 + 1) ∧ u.mem = s.mem) ∧
      (o.enable = true → o.linkUp = true → good → 64 ≤ f.len → f.len ≤ o.mtu + 22 → f.dst = 0x0180C2000001 → f.etype = 0x8808 → byteAt f.payload 0 2 = 1 → o.mode = 1 →
        0 < byteAt f.payload 2 2 → (∀ x ∈ o.pauses, x.unit ≠ 8) → ∃ u, exec (.frameReceive t i f) s = .next u ∧
          (⟨8, z.time.mono + ceilDiv (byteAt f.payload 2 2 * 64 * o.byteTime i) perNs, z.time.mono, none⟩ : PauseUnit) ∈ (u.port i).pauses ∧ (u.port i).rxq = o.rxq) ∧
      (o.enable = true → o.linkUp = true → good → 64 ≤ f.len → f.len ≤ o.mtu + 22 → s.addrPasses i f = true → f.etype ≠ 0x8808 → f.etype ≠ 0x88F7 → f.etype ≠ 0x0806 → parseUdp f = none →
        let pr := (f.tag.map (·.1)).getD 0
        let q := fld o.rxMap (3 * pr + 2) (3 * pr)
        let y := o.rxq.getD q (Queue.init 0 75 50)
        (y.level + f.rxWords.length ≤ y.words → ∃ u, exec (.frameReceive t i f) s = .next u ∧
          ((u.port i).rxq.getD q (Queue.init 0 75 50)).pkts = y.pkts ++ [⟨f.rxWords, [], false⟩] ∧ (∀ k, k ≠ q → (u.port i).rxq.getD k (Queue.init 0 75 50) = o.rxq.getD k (Queue.init 0 75 50)) ∧ u.mem = s.mem) ∧
        (y.words < y.level + f.rxWords.length → q < 6 → ∃ u, exec (.frameReceive t i f) s = .next u ∧ (u.port i).rxq = o.rxq ∧
          (u.port i).counters.getD 21 0 = min 0xFFFFFFFF (o.counters.getD 21 0 + 1)))) ∧
    (∀ (t k : Nat), k ≤ 8 → let now := (s.goto t).time.mono
      (∃ u, exec (.pauseTimerExpire t i k) s = .next u ∧ (∀ x, x ∈ (u.port i).pauses ↔ x ∈ o.pauses ∧ ¬(x.unit = k ∧ x.ignoring = none ∧ x.stop ≤ now))) ∧
      (k ∈ o.pausing → o.linkUp = true → ∃ u, exec (.pauseRepeat t i k) s = .next u ∧ u.out = s.out ++ [.pauseFrame i [k] o.quanta (decide (k ≠ 8))] ∧ (u.port i).pausing = o.pausing) ∧
      (k ∉ o.pausing → exec (.pauseRepeat t i k) s = .next (s.goto t)) ∧
      ((∃ x ∈ o.pauses, x.unit = k ∧ x.ignoring = none ∧ x.since + o.wdLimit * 100000 ≤ now) → ∃ u, exec (.pauseWatchdog t i k) s = .next u ∧
        (∀ x ∈ (u.port i).pauses, x.unit = k → x.ignoring = some now) ∧ ∃ r ∈ u.flt.journal, r.msgH = pack [(0xE8, 8)] ∧ r.msgL = pack [(4, 28), (k, 24), (i, 0)]) ∧
      ((∀ x ∈ o.pauses, x.unit = k → x.ignoring = none → now < x.since + o.wdLimit * 100000) → exec (.pauseWatchdog t i k) s = .next (s.goto t)) ∧
      (∃ u, exec (.pauseIgnoreEnd t i k) s = .next u ∧ (∀ x, x ∈ (u.port i).pauses ↔ x ∈ o.pauses ∧ ¬(x.unit = k ∧ ∃ a, x.ignoring = some a ∧ a + o.wdLimit * 100000 ≤ now)))) ∧
    (∀ (t q : Nat) (x : Pkt) (f : Frame) (fs : List Frame), q < 8 → o.enable = true → o.linkUp = true → o.wire = none → o.pauses = [] → o.gates = ⟨1, [(0xFF, 16384)]⟩ → o.gatesNext = none →
      (o.txq.getD q (Queue.init 0 75 50)).pkts.head? = some x → x.frames = f :: fs → (∀ k, q < k → k < 8 → (o.txq.getD k (Queue.init 0 75 50)).pkts = []) →
      (f.len + 20) * o.byteTime i ≤ perTick →
      ∃ u, exec (.frameTransmit t i) s = .next u ∧ u.out = s.out ++ [.frame i f] ∧
        (u.port i).wire = some (q, (s.goto t).time.mono + ceilDiv ((f.len + 20) * o.byteTime i) perNs, f) ∧ (u.port i).rxq = o.rxq ∧ u.mem = s.mem) ∧
    (∀ t, (o.enable = false ∨ o.linkUp = false) → o.wire = none → exec (.frameTransmit t i) s = .next (s.goto t)) ∧
    (∀ t, exec (.gateEntryBoundary t i) s = .next ((s.goto t).setPort i { o with gateEntry := o.gates.entryAt (s.goto t).time.tick (s.goto t).time.sub })) ∧
    (∀ t rate, (o.enable = true → o.linkUp = false → ∃ u, exec (.linkUp t i rate) s = .next u ∧ (u.port i).linkUp = true ∧ (u.port i).lock = true ∧ u.mem = s.mem) ∧
      (o.enable = false ∨ o.linkUp = true → exec (.linkUp t i rate) s = .next (s.goto t))) ∧
    (∀ t, o.linkUp = true → ∃ u, exec (.linkDown t i) s = .next u ∧ (u.port i).linkUp = false ∧ (u.port i).wire = none ∧ (u.port i).pauses = [] ∧ (u.port i).rxq = o.rxq ∧ u.mem = s.mem)

/-- The ports of the network queues, Conduit requests with their arbitration, locks and errors, WINDOW_CONFIG and
ARB_CONFIG (R403, R406, R408, R409, R410, R413, R414, R415, R417, R426, R427, 15_conduit_dma_queues Table 15-4). -/
def Obligations.QueuesAndConduit : Prop :=
  ∀ s : State, s.net.ports.length = 3 → (∀ p ∈ s.net.ports, p.rxq.length = 8 ∧ p.txq.length = 8) →
    (∀ t m q, m < 13 → q < 48 → let y := s.queue q
      (s.queueOpen m q false = true → qIsTx q = false → y.truncated = false → y.pkts = [] →
        ∃ u, exec (.queueDataRead t m q) s = .next u ∧ u.out.getLast? = some (.queueData m q false 0) ∧ u.queue q = y ∧ u.mem = s.mem) ∧
      (∀ (p : Pkt) (ps : List Pkt) (w : W32), s.queueOpen m q false = true → qIsTx q = false → y.truncated = false → y.pkts = p :: ps → p.words[y.read]? = some w →
        ∃ u, exec (.queueDataRead t m q) s = .next u ∧ u.out.getLast? = some (.queueData m q true w) ∧
          (u.queue q).pkts = (if y.read + 1 = p.words.length then ps else y.pkts) ∧ (u.queue q).read = (if y.read + 1 = p.words.length then 0 else y.read + 1) ∧ u.mem = s.mem) ∧
      (∀ w, s.queueOpen m q true = true → qIsTx q = true → y.discard = false → y.level + 1 ≤ y.words →
        ∃ u, exec (.queueDataWrite t m q w) s = .next u ∧ (u.queue q).part = some (y.part.getD [] ++ [w]) ∧ (u.queue q).pkts = y.pkts ∧ u.mem = s.mem) ∧
      (∀ w, s.queueOpen m q true = true → qIsTx q = true → y.discard = false → y.words < y.level + 1 →
        ∃ u, exec (.queueDataWrite t m q w) s = .next u ∧ (u.queue q).part = none ∧ (u.queue q).discard = true ∧ (u.queue q).pkts = y.pkts) ∧
      (∀ w, s.queueOpen m q true = true → qIsTx q = true → y.discard = true →
        (∃ u, exec (.queueDataWrite t m q w) s = .next u ∧ u.queue q = y) ∧ ∃ u, exec (.queueCommit t m q w) s = .next u ∧ u.queue q = { y with discard := false }) ∧
      (∀ w, s.queueOpen m q true = true → qIsTx q = true → y.discard = false → y.level + 1 ≤ y.words →
        let ws := y.part.getD [] ++ [w]
        let h := txHead (ws.getD 0 0) (ws.getD 1 0)
        let bs := (ws.drop 2).flatMap wordBytes
        h.bad bs (s.port (q / 16)).mtu = false → ∃ u, exec (.queueCommit t m q w) s = .next u ∧ (u.queue q).pkts = y.pkts ++ [⟨ws, txFrames h bs, false⟩] ∧ (u.queue q).part = none ∧ u.mem = s.mem) ∧
      (s.queueOpen m q true = true → ∃ u, exec (.queueRewind t m q) s = .next u ∧
        (qIsTx q = true → (u.queue q).part = none ∧ (u.queue q).discard = false ∧ (u.queue q).pkts = y.pkts) ∧ (qIsTx q = false → (u.queue q).pkts = y.pkts.drop 1 ∧ (u.queue q).read = 0)) ∧
      (s.queueOpen m q false = false → ∃ u, exec (.queueDataRead t m q) s = .next u ∧ u.out.getLast? = some (.bus m (0x78000000 + 0x1000 * q) false []) ∧ u.queue q = y)) ∧
    (∀ t m a op lock release holder, m < 13 → (∀ i, masterIsland m = some i → s.islandOn i = true) → holder ∉ s.cond.broken →
      let wr := match op with
        | .wr _ => true
        | .rd _ => false
      (s.permits m a wr = true → ∃ u, exec (.conduitRequest t m a op lock release holder) s = .next u ∧ u.mem = s.mem ∧ u.out = s.out ∧ u.cond.reqs.length = s.cond.reqs.length + 1 ∧
        ∃ r ∈ u.cond.reqs, (r.target, r.master, r.addr, r.op, r.stamp, r.lock, r.release, r.holder) = (s.target a, m, a, op, (s.goto t).time.mono, lock, release, holder)) ∧
      (s.permits m a wr = false → ∃ u, exec (.conduitRequest t m a op lock release holder) s = .next u ∧ u.mem = s.mem ∧ u.cond = s.cond ∧ u.out.getLast? = some (.bus m a false []))) ∧
    (∀ t k (r : BusReq), k < 13 → s.grantedAt k = some r → isQueueBlock r.addr = false → r.release = false →
      (∀ n, r.op = .rd n → ∃ u, exec (.transactionComplete t k true) s = .next u ∧ u.mem = s.mem ∧ (∃ z, u.out = s.out ++ [.bus r.master r.addr true z] ∧ z.length = n ∧
        ∀ j, j < n → 0x20000000 ≤ r.addr → r.addr + n ≤ 0x21600000 → z.getD j 0 = memRead s.mem (r.addr + j)) ∧ u.cond.reqs.length + 1 = s.cond.reqs.length) ∧
      (∀ d, r.op = .wr d → 0x20000000 ≤ r.addr → r.addr + d.length ≤ 0x21600000 → ∃ u, exec (.transactionComplete t k true) s = .next u ∧ u.mem = memWrites s.mem r.addr d ∧
        u.out = s.out ++ [.bus r.master r.addr true []] ∧ u.cond.reqs.length + 1 = s.cond.reqs.length) ∧
      (∃ u, exec (.transactionComplete t k false) s = .next u ∧ u.mem = s.mem ∧ u.out = s.out ++ [.bus r.master r.addr false []] ∧
        (r.lock = true → (∀ l ∈ s.cond.locks, l.target ≠ r.target) → ⟨r.target, r.holder, r.master, (s.goto t).time.mono⟩ ∈ u.cond.locks))) ∧
    (∀ t k (r : BusReq), k < 13 → s.grantedAt k = some r →
      (r.granted.getD 0 + 16384 ≤ (s.goto t).time.mono → ∃ u, exec (.busTimeout t k) s = .next u ∧ u.out.getLast? = some (.bus r.master r.addr false []) ∧
        u.cond.reqs.length + 1 = s.cond.reqs.length ∧ u.mem = s.mem) ∧
      ((s.goto t).time.mono < r.granted.getD 0 + 16384 → exec (.busTimeout t k) s = .next (s.goto t))) ∧
    (∀ t k m (r : BusReq), k < 13 → m < 13 → s.cond.reqs = [r] → r.target = k → r.master = m → r.granted = none → r.starved = false → s.cond.starve ≠ 0 →
      (s.cond.starve < (s.goto t).time.mono - r.stamp → ∃ u, exec (.starvation t k m) s = .next u ∧ u.cond.reqs = [{ r with starved := true }] ∧
        (∃ x ∈ u.flt.journal, x.msgH = pack [(0xE9, 8)] ∧ x.msgL = pack [(k, 28), (m, 24)]) ∧ exec (.starvation t k m) u = .next (u.goto t)) ∧
      ((s.goto t).time.mono - r.stamp ≤ s.cond.starve → exec (.starvation t k m) s = .next (s.goto t))) ∧
    (∀ t k (l : BusLock), k < 13 → s.cond.locks = [l] → l.target = k →
      (l.since + s.cond.lockWd ≤ (s.goto t).time.mono → ∃ u, exec (.lockTimeout t k) s = .next u ∧ u.cond.locks = [] ∧ ((∀ r ∈ s.cond.reqs, r.holder = l.holder → r.release = false) → l.holder ∈ u.cond.broken) ∧ (∀ r ∈ u.cond.reqs, r.holder ≠ l.holder) ∧ u.mem = s.mem) ∧
      ((s.goto t).time.mono < l.since + s.cond.lockWd → exec (.lockTimeout t k) s = .next (s.goto t))) ∧
    (∀ (k size base : Nat) (en rd wr m0 : Bool) (hi : Nat), k < 16 → 12 ≤ size → size ≤ 40 → base < 2 ^ 28 → base % 2 ^ (size - 12) = 0 → hi < 64 →
      let w : Window := ⟨en, rd, wr, (if m0 then 1 else 0) ||| (hi <<< 2), size, base * 4096, 0⟩
      w.badFor s = false → ∃ t, exec (.windowConfig .apply [pack [(b2n en, 31), (b2n rd, 30), (b2n wr, 29), (hi, 23), (b2n m0, 21), (size, 15), (k, 0)], w32 base, 0, 0]) s = .next t ∧
        t.cond = { s.cond with wins := s.cond.wins.set k w } ∧ t.mem = s.mem) ∧
    (∀ (k : Nat) (w : W32), k < 13 → fld w 31 26 = 0 → ∃ t, exec (.arbConfig .apply [w32 k, w]) s = .next t ∧
      t.cond.classes = s.cond.classes.set k ((List.range 13).map (fun m => fld w (2 * m + 1) (2 * m))) ∧ t.cond.wins = s.cond.wins ∧ t.mem = s.mem) ∧
    (∀ st wd, st = 0 ∨ 64 ≤ st → st < 65536 → 1024 ≤ wd → wd < 2 ^ 24 → ∃ t, exec (.arbConfig .apply [pack [(1, 31)], w32 st, w32 wd]) s = .next t ∧
      t.cond = { s.cond with starve := st, lockWd := wd } ∧ t.mem = s.mem)

/-- DMA_CHANNEL_CONFIG and DMA_START, the end of a descriptor, and error responses (R418, R419, R421, R422, R423, log 34
(DESIGN CHOICE)). -/
def Obligations.DmaChannels : Prop :=
  ∀ s : State, s.dma.length = 32 →
    (∀ (i buf out : Nat) (en : Bool), i < 32 → 0 < buf → buf ≤ 64 → 0 < out → out ≤ 64 → let c := s.chanD i
      let w := pack [(b2n en, 31), (buf, 16), (out, 8), (i, 0)]
      let sum := ((List.range 32).map (fun k => if k = i then (if en then buf else 0) else if (s.chanD k).enable then (s.chanD k).buf else 0)).sum
      (c.st ≠ .idle → buf ≠ c.buf ∨ out ≠ c.outstanding → exec (.dmaChannelConfig .apply [w]) s = .next s) ∧
      (c.st = .idle → 64 < sum → exec (.dmaChannelConfig .apply [w]) s = .next s) ∧
      (c.st = .idle ∨ (buf = c.buf ∧ out = c.outstanding) → sum ≤ 64 → ∃ t, exec (.dmaChannelConfig .apply [w]) s = .next t ∧ t.mem = s.mem ∧
        t.dma = s.dma.set i { c with enable := en, buf := buf, outstanding := out, st := if en = false ∧ c.st = .run then .stopping else c.st })) ∧
    (∀ (i : Nat) (lo hi : W32), i < 32 → fld hi 31 8 = 0 → let c := s.chanD i
      let a := fld hi 7 0 * 2 ^ 32 + lo.toNat
      a % 32 = 0 → (c.st = .run ∨ c.st = .stopping ∨ c.enable = false → exec (.dmaStart .apply [w32 i, lo, hi]) s = .next s) ∧
        (c.enable = true → c.st = .idle ∨ c.st = .halted → ∃ t, exec (.dmaStart .apply [w32 i, lo, hi]) s = .next t ∧ (t.chanD i).st = .run ∧ (t.chanD i).descAddr = a ∧
          (t.chanD i).errAddr = 0 ∧ (∀ k, k ≠ i → t.chanD k = s.chanD k) ∧ t.mem = s.mem)) ∧
    (∀ t i, i < 32 → let c := s.chanD i
      let z := s.goto t
      let w := z.descWords c.descAddr
      let d := descOf w
      (c.st = .run → s.memOk = true → s.permits 2 c.descAddr false = true → descBad w = false → d.qmode = 0 → d.swap = 0 → d.notify = false → d.last = true →
        0x20000000 ≤ d.src → d.src + d.length ≤ 0x21600000 → 0x20000000 ≤ d.dst → d.dst + d.length ≤ 0x21600000 →
        z.firstRefused 2 d.src d.length false = none → z.firstRefused 3 d.dst d.length true = none →
        ∃ u, exec (.dmaDescriptorComplete t i) s = .next u ∧ (u.chanD i).st = .idle ∧ (u.chanD i).result = 1 ∧ (u.chanD i).remaining = 0 ∧ (∀ k, k ≠ i → u.chanD k = s.chanD k) ∧
          ∀ a, memRead u.mem a = if d.dst ≤ a ∧ a < d.dst + d.length then memRead s.mem (d.src + (a - d.dst)) else memRead s.mem a) ∧
      (c.st = .run → s.permits 2 c.descAddr false = false → ∃ u, exec (.dmaDescriptorComplete t i) s = .next u ∧ (u.chanD i).st = .halted ∧ (u.chanD i).result = 4 ∧
        (u.chanD i).errAddr = c.descAddr ∧ u.mem = s.mem) ∧
      (c.st = .idle ∨ c.st = .halted → exec (.dmaDescriptorComplete t i) s = .next z) ∧
      (∀ moved notify, c.st = .run → s.classNow 0x06 0x07 < 4 → ∃ u, exec (.dmaXferErr t i moved true notify) s = .next u ∧ (u.chanD i).st = .halted ∧ (u.chanD i).result = 4 ∧ (u.chanD i).errAddr = c.descAddr ∧
        u.mem = s.mem ∧ ∃ x ∈ u.flt.journal, fld x.msgH 31 24 = 0x06 ∧ fld x.msgH 23 16 = i ∧ fld x.msgH 15 8 = 0x07 ∧ x.msgL = w32 c.descAddr) ∧
      (∀ moved fetch notify, c.st = .idle ∨ c.st = .halted → exec (.dmaXferErr t i moved fetch notify) s = .next z))

/-- STREAM_RX/TX_OPEN and CLOSE, packet copies, path and stream loss, concealment, and a trunk packet read back (R295,
R296, R300, R301, R302, R303, R304, R305, R307, R308, R310, R312). -/
def Obligations.StreamCommandsAndPackets : Prop :=
  ∀ s : State, s.strm.rx.length = 256 → s.strm.tx.length = 256 → s.net.ports.length = 3 → (∀ p ∈ s.net.ports, p.rxq.length = 8) →
    let ev (t : State) (dir cause i : Nat) : Prop := ∃ r ∈ t.flt.journal, r.msgH = pack [(0xE7, 8)] ∧ r.msgL = pack [(dir, 31), (cause, 24), (i, 0)]
    let fits (z : State) : Bool := z.routesFit (z.route.resetSinks z.sinkDomain (z.changedSinks s))
    let clash (c : StreamCfg) (l : List StreamCfg) : Prop := 4096 < c.base + c.chans ∨ (∃ o ∈ l, o.base < c.base + c.chans ∧ c.base < o.base + o.chans) ∨
      8192 < ((c :: l).map (fun o => o.chans * (2 * 2 ^ o.domain))).sum ∨ (s.route.family44 = true ∧ c.trunk = false ∧ 64 < s.route.asrc.length + c.chans)
    (∀ (tx a b con fo any tag : Bool) (dom i ch base off depth ip port ttl dscp pcp vid mac : Nat) (id src : W32), a = true ∨ b = true → dom < 3 → ch = 64 ∨ ch = 128 ∨ ch = 256 →
      i < 256 → base < 4096 → ip < 2 ^ 32 → port < 65536 → ttl < 256 → dscp < 64 → pcp < 8 → vid < 4096 → mac < 2 ^ 48 →
      (tx = true → con = false ∧ fo = false ∧ off ≤ 64 ∧ depth = 0 ∧ src = 0 ∧ 0 < ttl ∧ (isGroupIp ip = true → mac = 0)) → (tx = false → off = 0 ∧ 0 < depth ∧ depth ≤ 64 ∧ mac = 0) →
      let p := [pack [(1, 31), (b2n a, 30), (b2n b, 29), (dom, 27), (b2n con, 26), (b2n fo, 25), (i, 16), (ch, 0)], pack [(base, 20), (off, 13), (depth, 6)], w32 ip,
        pack [(port, 16), (ttl, 8), (dscp, 2), (b2n any, 1)], id, src, pack [(pcp, 29), (b2n tag, 28), (vid, 16)], w32 (mac / 65536), pack [(mac % 65536, 16)]]
      streamBad p tx = false ∧ fld (pw p 3) 23 16 = i ∧ streamCfg p tx = ⟨true, a, b, dom, con, fo, false, ch, base, (if tx = true ∧ off = 0 then 2 else off), depth, ip, port, ttl, dscp, any, id, src, pcp, tag, vid, 0, mac, 0⟩) ∧
    (∀ (tx a b con fo l24 any tag : Bool) (dom i ch base off depth ip port ttl dscp pcp vid pt mac sq : Nat) (id src : W32), a = true ∨ b = true → dom < 2 → 0 < ch → ch ≤ 64 →
      i < 256 → base < 4096 → ip < 2 ^ 32 → port < 65536 → ttl < 256 → dscp < 64 → pcp < 8 → vid < 4096 → mac < 2 ^ 48 → 96 ≤ pt → pt < 128 → sq < 65536 →
      (tx = true → con = false ∧ fo = false ∧ off = 0 ∧ 3 ≤ depth ∧ depth ≤ 96 ∧ 0 < ttl ∧ (isGroupIp ip = true → mac = 0)) → (tx = false → off ≤ 64 ∧ 0 < depth ∧ depth ≤ 64 ∧ mac = 0) →
      let p := [pack [(b2n a, 30), (b2n b, 29), (dom, 27), (b2n con, 26), (b2n fo, 25), (b2n l24, 24), (i, 16), (ch, 0)], pack [(base, 20), (off, 13), (depth, 6)], w32 ip,
        pack [(port, 16), (ttl, 8), (dscp, 2), (b2n any, 1)], id, src, pack [(pcp, 29), (b2n tag, 28), (vid, 16), (pt, 0)], w32 (mac / 65536), pack [(mac % 65536, 16), (sq, 0)]]
      streamBad p tx = false ∧ fld (pw p 3) 23 16 = i ∧ streamCfg p tx = ⟨false, a, b, dom, con, fo, l24, ch, base, (if tx = false ∧ off = 0 then 2 else off), depth, ip, port, ttl, dscp, any, id, src, pcp, tag, vid, pt, mac, sq⟩) ∧
    (∀ p : List W32, p.length = 9 → streamBad p false = false → let c := streamCfg p false
      let i := fld (pw p 3) 23 16
      let x : RxSlot := { RxSlot.init with st := .wait, cfg := c, openTick := s.time.tick, last := List.replicate c.chans (List.replicate 8 0), g := if c.conceal then 0 else 64, lastOn := s.time.tick }
      let full := (s.rxSlot i).st ≠ .closed ∨ clash c ((s.strm.rx.filter (fun x => x.st != .closed)).map (·.cfg))
      (full ∨ fits (s.setRx i x) = false → exec (.streamRxOpen .apply p) s = .next s) ∧
      (¬full → fits (s.setRx i x) = true → ∃ t, exec (.streamRxOpen .apply p) s = .next t ∧ t.strm = { s.strm with rx := s.strm.rx.set i x } ∧ ev t 0 1 i ∧ t.mem = s.mem ∧ t.vent = s.vent ∧ t.time = s.time)) ∧
    (∀ i, i < 256 → let x := s.rxSlot i
      let z : State := { s with strm := { s.strm with rx := s.strm.rx.set i RxSlot.init, oldRx := s.strm.oldRx ++ [(i, x)] } }
      (x.st = .closed → ∃ t, exec (.streamRxClose .apply [w32 i]) s = .next t ∧ t.strm = s.strm ∧ t.route = s.route ∧ t.flt = s.flt) ∧
      (x.st ≠ .closed → fits z = true → ∃ t, exec (.streamRxClose .apply [w32 i]) s = .next t ∧ t.strm = z.strm ∧ ev t 0 2 i ∧ t.mem = s.mem ∧ t.vent = s.vent) ∧
      (x.st ≠ .closed → fits z = false → exec (.streamRxClose .apply [w32 i]) s = .next s)) ∧
    (∀ p : List W32, p.length = 9 → streamBad p true = false → let c := streamCfg p true
      let i := fld (pw p 3) 23 16
      let x : TxSlot := { TxSlot.init with st := if s.pair.owner then .send else .silent, cfg := c, openTick := s.time.tick, seq := c.seq0 }
      let tooBig (k : Nat) : Prop := (s.port k).mtu < if c.trunk = true then 64 + 4 * c.chans * (2 * 2 ^ c.domain) else c.chans * (c.depth * (2 * 2 ^ c.domain)) * (if c.l24 then 3 else 2) + 40
      let unfit := ∃ k, k < 2 ∧ (if k = 0 then c.useA else c.useB) = true ∧ (tooBig k ∨ (s.setTx i x).portFits k (s.port k) = false)
      let full := (s.txSlot i).st ≠ .closed ∨ clash c ((s.strm.tx.filter (fun x => x.st != .closed)).map (·.cfg)) ∨ unfit
      (full ∨ fits (s.setTx i x) = false → exec (.streamTxOpen .apply p) s = .next s) ∧
      (¬full → fits (s.setTx i x) = true → ∃ t, exec (.streamTxOpen .apply p) s = .next t ∧ t.strm = { s.strm with tx := s.strm.tx.set i x } ∧ ev t 1 1 i ∧ t.mem = s.mem ∧ t.vent = s.vent ∧ t.time = s.time)) ∧
    (∀ i, i < 256 → let x := s.txSlot i
      (x.st = .closed → ∃ t, exec (.streamTxClose .apply [w32 i]) s = .next t ∧ t.strm = s.strm ∧ t.route = s.route ∧ t.flt = s.flt) ∧
      (x.st ≠ .closed → fits (s.setTx i TxSlot.init) = true → ∃ t, exec (.streamTxClose .apply [w32 i]) s = .next t ∧ ev t 1 2 i ∧
        t.strm = { s.strm with tx := s.strm.tx.set i TxSlot.init, oldTx := s.strm.oldTx ++ [{ x with closeTick := some s.time.tick }] } ∧ t.mem = s.mem ∧ t.vent = s.vent) ∧
      (x.st ≠ .closed → fits (s.setTx i TxSlot.init) = false → exec (.streamTxClose .apply [w32 i]) s = .next s)) ∧
    (∀ t port, port < 2 → let z := s.goto t
      let q := 16 * port + 7
      ((s.queue q).pkts = [] → exec (.streamPacketCommit t port) s = .next z) ∧
      ∀ (k : Pkt) (rest : List Pkt), (s.queue q).pkts = k :: rest →
        (s.rxMatch port (rxFrame k.words) = none → ∃ u, exec (.streamPacketCommit t port) s = .next u ∧ (u.queue q).pkts = rest ∧ u.strm = s.strm ∧ u.out = s.out) ∧
        ∀ slot d, s.rxMatch port (rxFrame k.words) = some (slot, d) → let x := s.rxSlot slot
          let c := x.cfg
          (c.trunk = true → c.trunkPacket s.route.family44 s.time.tick d.data = none → ∃ u, exec (.streamPacketCommit t port) s = .next u ∧ (u.queue q).pkts = rest ∧
            u.strm = { s.strm with rx := s.strm.rx.set slot { x with badPkt := min 65535 (x.badPkt + 1) } }) ∧
          ∀ g, (if c.trunk then c.trunkPacket s.route.family44 s.time.tick d.data else c.aesPacket z.now x.lastSeq d.data) = some g → c.foreign = false →
            let early := s.time.tick + c.depth < (g.ticks.headD (0, 0, [])).1
            let missed := ∃ e ∈ g.ticks, copyDeadline e.1 < z.now
            ∃ u, exec (.streamPacketCommit t port) s = .next u ∧ (u.queue q).pkts = rest ∧ u.strm.tx = s.strm.tx ∧ (∀ k, k ≠ slot → u.rxSlot k = s.rxSlot k) ∧ let y := u.rxSlot slot
              (if port = 0 then y.pathA = true ∧ y.lastA = z.now else y.pathB = true ∧ y.lastB = z.now) ∧ (y.st, y.cfg, y.g, y.last) = (x.st, x.cfg, x.g, x.last) ∧
              (early → (y.buf, y.seen, y.dup, y.late, y.early) = (x.buf, x.seen, x.dup, x.late, min 65535 (x.early + 1))) ∧
              (¬early → x.seen.contains g.seq = true → (y.buf, y.seen, y.dup) = (x.buf, x.seen, x.dup + 1)) ∧
              (¬early → x.seen.contains g.seq = false → y.seen = (g.seq :: x.seen).take 65536 ∧ y.dup = x.dup ∧ y.packetTicks = g.span ∧
                y.buf = (g.ticks.filter (fun e => decide (z.now ≤ copyDeadline e.1))).map (fun e => ⟨e.1, g.seq, e.2.1, (copyDeadline e.1 - z.now) / 1000, e.2.2⟩) ++ x.buf) ∧
              (¬early → missed → y.late = x.late + 1) ∧ (¬early → ¬missed → y.late = x.late)) ∧
    (∀ t slot port, slot < 256 → port < 2 → let x := s.rxSlot slot
      let dry := x.st ≠ .closed ∧ (if port = 0 then x.pathA else x.pathB) = true ∧ 3 * (if port = 0 then x.lastA else x.lastB) + 125000 * max 24 (2 * x.packetTicks) ≤ 3 * (s.goto t).now
      (dry → ∃ u, exec (.streamPathDown t slot port) s = .next u ∧ u.rxSlot slot = (if port = 0 then { x with pathA := false } else { x with pathB := false }) ∧
        ev u 0 (if port = 0 then 6 else 8) slot ∧ u.flt.active = s.flt.active ∧ u.mem = s.mem) ∧
      (¬dry → exec (.streamPathDown t slot port) s = .next (s.goto t))) ∧
    (∀ t slot, slot < 256 → let x := s.rxSlot slot
      let dry := x.st = .run ∧ x.lastOn + max 24 (2 * x.packetTicks) ≤ s.aud.dataTick
      (dry → ∃ u, exec (.streamLost t slot) s = .next u ∧ u.strm = { s.strm with rx := s.strm.rx.set slot { x with st := .lost, consec := 0 } } ∧ ev u 0 4 slot ∧ u.mem = s.mem ∧
        ∃ r ∈ u.flt.journal, r.msgH = pack [(0x09, 24), (slot, 16), (0x0C, 8), (s.classNow 9 0x0C, 6)] ∧ r.msgL = w32 (s.time.tick % 65536)) ∧
      (¬dry → exec (.streamLost t slot) s = .next (s.goto t))) ∧
    (∀ (x : RxSlot) (n c j : Nat) (ys : List (List Sample)), n ≤ 8 → x.g ≤ 64 → c < x.cfg.chans → j < n → (ys.headD []).length = n →
      let a := x.play n []
      let b := x.play n [(0, ys)]
      a.2.1 = true ∧ b.2.1 = false ∧
      (x.cfg.conceal = true → (a.1.getD c []).getD j 0 = roundDiv ((x.last.getD c []).getD j 0 * ((x.g - j : Nat) : Int)) 64 ∧ a.2.2.g = x.g - n ∧
        (b.1.getD c []).getD j 0 = roundDiv ((ys.getD c []).getD j 0 * ((min (x.g + j + 1) 64 : Nat) : Int)) 64 ∧ b.2.2.g = min (x.g + n) 64) ∧
      (x.cfg.conceal = false → (a.1.getD c []).getD j 0 = 0 ∧ a.2.2.g = 64 ∧ (b.1.getD c []).getD j 0 = (ys.getD c []).getD j 0 ∧ b.2.2.g = 64)) ∧
    (∀ (x : RxSlot) (d n : Nat) (l : List (Nat × Nat × List (List Sample) × Option Nat)), let r := x.present d n l
      (x.st = .wait → l = [] → r.2.1.st = .wait ∧ r.2.2 = none ∧ r.1 = List.replicate x.cfg.chans (List.replicate n 0)) ∧ (x.st = .wait → l ≠ [] → r.2.1.st = .run ∧ r.2.2 = some 3) ∧
      (x.st = .lost → l ≠ [] → 2 ≤ (x.use d (l.map (·.1))).consec → r.2.1.st = .run ∧ r.2.2 = some 5) ∧ (x.st = .lost → (x.use d (l.map (·.1))).consec < 2 → r.2.1.st = .lost ∧ r.2.2 = none) ∧
      (x.st = .run → r.2.1.st = .run ∧ r.2.2 = none ∧ (l = [] → 0 < n → r.2.1.missing = x.missing + 1)) ∧ (∀ e ∈ r.2.1.buf, d < e.ptick)) ∧
    (∀ (x : TxSlot) (c : StreamCfg) (d tick : Nat) (ys : List (List Sample)), x.cfg.chans = 64 ∨ x.cfg.chans = 128 ∨ x.cfg.chans = 256 → x.cfg.domain < 3 → x.cfg.offset ≤ 64 →
      let n := tickSamples s.route.family44 x.cfg.domain (d + 3)
      let p := d + 3 + x.cfg.offset
      n ≤ 8 → c.chans = x.cfg.chans → c.domain = x.cfg.domain → tick ≤ p + 2 ^ 30 → p ≤ tick + 2 ^ 30 → ys.length = x.cfg.chans → (∀ l ∈ ys, l.length = n ∧ ∀ v ∈ l, -2 ^ 31 ≤ v ∧ v < 2 ^ 31) →
      (s.trunkBytes x d ys).length = 36 + 4 * x.cfg.chans * n ∧ byteAt (s.trunkBytes x d ys) 4 4 = x.cfg.id.toNat ∧
      ∃ g, c.trunkPacket s.route.family44 tick (s.trunkBytes x d ys) = some g ∧ g.seq = x.seq % 2 ^ 32 ∧ g.ticks = [(p, 0, ys)])

/-- REF_CONFIG, REF_SELECT, HOLDOVER_CONFIG, and the qualification, measurement, locking, switching and holdover of
references (R9, R316, R317, R318, R320, R324, R325, R329, R330, R333, R334, R335). -/
def Obligations.ReferencesAndDplls : Prop :=
  ∀ s : State, s.ref.refs.length = 9 → s.ref.dplls.length = 2 → s.time.bases.length = 8 →
    let fault (t : State) (inst kind : Nat) (ctx : W32) : Prop := ∃ r ∈ t.flt.journal, r.msgH = pack [(0x0E, 24), (inst, 16), (kind, 8), (s.classNow 0x0E kind, 6)] ∧ r.msgL = ctx
    (∀ (i rank bw par lim rq : Nat) (el : Bool), i < 8 → rank < 8 → bw < 4 → 10 ≤ lim → lim ≤ 1000 → 0 < rq → rq < 8192 → (i = 2 → par < 6) → (i = 7 → par < 8) → (i ≠ 2 → i ≠ 7 → par = 0) →
      let o := s.rfc i
      ∃ t, exec (.refConfig .apply [w32 i, pack [(b2n el, 31), (rank, 28), (bw, 26), (par, 23), (lim, 13), (rq, 0)]]) s = .next t ∧ let x := t.rfc i
        (x.eligible, x.rank, x.bw, x.param, x.freqLim, x.requal) = (el, rank, bw, par, lim, rq) ∧ (∀ k, k < 7 → k ≠ i → t.rfc k = s.rfc k) ∧
        (i < 7 → o.q ≠ .blocked → x.q = if par = o.param then o.q else .absent) ∧
        (i = 7 → x.q = if (s.tdm.groups.getD par TGroup.init).sync = 0 then .blocked else if o.q = .blocked then .qualifying else if par = o.param then o.q else .absent) ∧
        (t.ref.window, t.ref.mclk0, t.ref.mclk1, t.ref.limit) = (s.ref.window, s.ref.mclk0, s.ref.mclk1, s.ref.limit) ∧ t.mem = s.mem ∧ t.vent = s.vent ∧ t.time = s.time) ∧
    (∀ (bw lim rq : Nat) (el : Bool) (rank : Nat), rank < 8 → bw < 4 → 10 ≤ lim → lim ≤ 1000 → 0 < rq → rq < 8192 →
      ∃ t, exec (.refConfig .apply [8, pack [(b2n el, 31), (rank, 28), (bw, 26), (lim, 13), (rq, 0)]]) s = .next t ∧ t.ref = { s.ref with refs := s.ref.refs.set 8 { s.rfc 8 with bw := bw } } ∧ t.time = s.time) ∧
    (∀ w m1 m0, 0 < w → w ≤ 10000 → m1 < 4 → m0 < 4 → ∃ t, exec (.refConfig .apply [pack [(1, 30)], w32 w, pack [(m1, 2), (m0, 0)]]) s = .next t ∧
      t.ref = { s.ref with window := w, mclk1 := m1, mclk0 := m0 } ∧ t.time = s.time ∧ t.mem = s.mem) ∧
    (∀ i sel, i < 2 → sel ≤ 8 ∨ sel = 14 ∨ sel = 15 → let d := s.dpll i
      let p := [pack [(i, 31), (sel, 0)]]
      (sel = d.select → ∃ t, exec (.refSelect .apply p) s = .next t ∧ t.ref = s.ref ∧ t.time = s.time) ∧
      (sel ≠ d.select → ∃ t, exec (.refSelect .apply p) s = .next t ∧ (t.dpll i).select = sel ∧ t.ref.refs = s.ref.refs ∧ (t.dpll (1 - i)).select = (s.dpll (1 - i)).select ∧ t.time = s.time ∧ t.mem = s.mem ∧
        (s.solo = true → d.st = .locked → d.source ≠ none → sel = 15 → (t.dpll i).st = .holdover ∧ (t.dpll i).source = none ∧ (t.dpll i).entered = s.time.mono ∧ (t.dpll i).freq = d.freq) ∧
        (s.solo = true → d.st = .locked → sel ≤ 8 → d.source ≠ some sel → (s.rfc sel).q = .qualified → (t.dpll i).st = .switch ∧ (t.dpll i).source = some sel ∧ (t.dpll i).entered = s.time.mono) ∧
        (∀ r, d.st = .switch → d.source = some r → (s.rfc r).q = .qualified → t.dpll i = { d with select := sel }))) ∧
    (∀ (cls ut ag lim avg : Nat) (reset : Bool), cls < 3 → ut < 65536 → ag < 65536 → 0 < lim → lim < 65536 → 0 < avg → avg ≤ 300 →
      let r := { s.ref with cls := cls, uTemp := ut, ageing := ag, limit := lim, hoAvg := avg }
      ∃ t, exec (.holdoverConfig .apply [pack [(cls, 30), (b2n reset, 29)], pack [(ut, 16), (ag, 0)], pack [(lim, 16), (avg, 0)]]) s = .next t ∧
        t.ref = (if reset then { r with rate := 0, resid := 0, hours := 0 } else r) ∧ t.time = s.time ∧ t.mem = s.mem) ∧
    (∀ t i cause, i < 9 → let z := s.goto t
      let x := s.rfc i
      (monitored i cause = false → exec (.refDisqualify t i cause) s = .next z) ∧
      (monitored i cause = true → x.q = .blocked → ∃ u, exec (.refDisqualify t i cause) s = .next u ∧ u.ref.refs = s.ref.refs) ∧
      (monitored i cause = true → x.q ≠ .blocked → ∃ u, exec (.refDisqualify t i cause) s = .next u ∧ u.mem = s.mem ∧
        u.ref.refs = s.ref.refs.set i { x with q := .absent, cause := cause, hist := x.hist ||| 1 <<< (cause - 1) } ∧
        (x.q = .qualified → fault u i 0x13 (pack [(cause, 24), (s.time.tick % 65536, 0)])) ∧
        (∀ k, k < 2 → s.solo = true → (s.dpll k).st = .locked → (s.dpll k).source = some i → (u.dpll k).st = .switch ∨ (u.dpll k).st = .holdover)) ∧
      (x.q = .absent → s.sourceUp i = true → s.blockedRef i = false → ∃ u, exec (.refQualifying t i) s = .next u ∧
        u.ref.refs = s.ref.refs.set i { x with q := .qualifying, since := z.time.mono } ∧ u.mem = s.mem) ∧
      (x.q ≠ .absent ∨ s.sourceUp i = false ∨ s.blockedRef i = true → exec (.refQualifying t i) s = .next z) ∧
      (x.q = .qualifying → x.since + x.requal * 100000000 ≤ z.time.mono → ∃ u, exec (.refQualified t i) s = .next u ∧
        u.ref.refs = s.ref.refs.set i { x with q := .qualified, hist := x.hist ||| 64 } ∧ u.mem = s.mem) ∧
      (x.q ≠ .qualifying ∨ z.time.mono < x.since + x.requal * 100000000 → exec (.refQualified t i) s = .next z)) ∧
    (∀ (t : Nat) (rf df dp : List Int), rf.length = 9 → df.length = 2 → dp.length = 2 → ∃ u, exec (.refFrequencyMeasure t rf df dp) s = .next u ∧ u.mem = s.mem ∧ u.vent = s.vent ∧
      (∀ i, i < 9 → let x := s.rfc i
        (u.rfc i).rfreq = rf.getD i 0 ∧ (u.rfc i).q = if (x.q = .qualifying ∨ x.q = .qualified) ∧ x.freqLim * 100 < (rf.getD i 0).natAbs then .absent else x.q) ∧
      (∀ i, i < 2 → let d := s.dpll i
        let f := df.getD i 0
        (d.st = .acquire ∨ d.st = .locked → (u.dpll i).freq = max (-200000000) (min 200000000 f) ∧ (f < -200000000 ∨ 200000000 < f → (u.dpll i).hist.testBit 2 = true)) ∧
        (d.st = .locked → (u.dpll i).phase = dp.getD i 0) ∧ (d.st = .switch ∨ d.st = .holdover → (u.dpll i).freq = d.freq)) ∧
      (∀ a b, a < 8 → b < 8 → (u.rfc a).q = .qualified → (u.rfc b).q = .qualified → (s.rfc a).rank = (s.rfc b).rank → (s.rfc a).rank < 8 → s.ref.window < (rf.getD a 0 - rf.getD b 0).natAbs →
        ∃ m, ((s.rfc a).rank, m) ∈ u.ref.disagree)) ∧
    (∀ t i refTime, i < 2 → refTime < 2 ^ 64 → let z := s.goto t
      let d := s.dpll i
      (d.st ≠ .acquire ∨ d.source = none → exec (.dpllLock t i refTime) s = .next z) ∧
      (∀ r, d.st = .acquire → d.source = some r → (s.rfc r).q ≠ .qualified → exec (.dpllLock t i refTime) s = .next z) ∧
      (∀ r, d.st = .acquire → d.source = some r → r ≤ 8 → (s.rfc r).q = .qualified → s.solo = true → d.select = r → ∃ u, exec (.dpllLock t i refTime) s = .next u ∧
        (u.dpll i).st = .locked ∧ (u.dpll i).source = some r ∧ (u.dpll i).expired = false ∧ u.mem = s.mem ∧
        (carriesTime r = true → (s.base i).stepped = false → (u.base i).stepped = true ∧ (u.base i).err = 0 ∧
          (i = 0 ∨ 0 ≤ (z.base i).val → u.baseNs i = if r = 4 then (z.baseNs i / 1000000000 * 1000000000 + refTime % 1000000000) % 2 ^ 64 else refTime) ∧ (i = 0 → u.time.mute = some (u.time.tick + 49))) ∧
        (carriesTime r = false ∨ (s.base i).stepped = true → u.time = z.time))) ∧
    (∀ t i refTime r offset, i < 2 → let z := s.goto t
      let d := s.dpll i
      let b := z.base i
      let total := b.err + offset
      (d.st ≠ .switch → exec (.dpllSwitchComplete t i offset refTime) s = .next z) ∧
      (d.st = .switch → d.source = some r → (s.rfc r).q ≠ .qualified → exec (.dpllSwitchComplete t i offset refTime) s = .next z) ∧
      (d.st = .switch → d.source = some r → r ≤ 8 → (s.rfc r).q = .qualified → s.solo = true → d.select = r → (b.stepped = true ∨ (r ≠ 0 ∧ r ≠ 1 ∧ r ≠ 8)) →
        ∃ u, exec (.dpllSwitchComplete t i offset refTime) s = .next u ∧ (u.dpll i).st = .locked ∧ (u.dpll i).source = some r ∧ kget (u.dpll i).bias r = some offset ∧
          (u.dpll i).freq = d.freq ∧ (u.time.tick, u.time.sub, u.time.mono) = (z.time.tick, z.time.sub, z.time.mono) ∧ u.mem = s.mem ∧
          (carriesTime r = false → u.base i = b) ∧
          (carriesTime r = true → total.natAbs ≤ 10000 → (u.base i).err = 0 ∧ (u.base i).steering = false) ∧
          (carriesTime r = true → 10000 < total.natAbs → (u.base i).err = total ∧ (u.base i).steering = true))) ∧
    (∀ t i, i < 2 → let z := s.goto t
      let d := s.dpll i
      let n := z.time.mono - d.entered
      let due := (d.st = .switch ∨ d.st = .holdover) ∧ d.expired = false ∧
        s.ref.limit * 10 * (1728 * 10 ^ 23) < d.e0 * (1728 * 10 ^ 22) + (d.u0 + s.ref.uT) * n * (1728 * 10 ^ 11) + s.ref.ageA * n * n
      (due → ∃ u, exec (.holdoverExpired t i) s = .next u ∧ u.dpll i = { d with expired := true, hist := d.hist ||| 32 } ∧ u.ref.refs = s.ref.refs ∧
        fault u i 0x15 (w32 (min 0xFFFFFFFF (n / 1000000))) ∧ exec (.holdoverExpired t i) u = .next (u.goto t)) ∧
      (¬due → exec (.holdoverExpired t i) s = .next z)) ∧
    (∀ (t : Nat) (rate resid hours : W32), let d := s.dpll 0
      let slow := ∃ r, d.source = some r ∧ (s.rfc r).bw ≤ 1
      (d.st = .locked → slow → ∃ u, exec (.ageingLearn t rate resid hours) s = .next u ∧ u.ref = { s.ref with rate := rate, resid := if resid.toNat < 10 then 10 else resid, hours := hours } ∧
        u.mem = s.mem ∧ u.store.ops.length = s.store.ops.length + 1) ∧
      (d.st ≠ .locked ∨ ¬slow → exec (.ageingLearn t rate resid hours) s = .next (s.goto t))) ∧
    (∀ t k, k < 16 → ((s.sys.islands.getD k ⟨.off, 0, none⟩).pwr = .off → exec (.islandClockFail t k) s = .next (s.goto t)) ∧
      ((s.sys.islands.getD k ⟨.off, 0, none⟩).pwr ≠ .off → ∃ u, exec (.islandClockFail t k) s = .next u ∧ fault u k 0x24 0 ∧ u.ref = s.ref ∧ u.mem = s.mem))

/-- TIMEBASE_CONFIG and TIMEBASE_ADJUST, the end of steering, a step's mute and the time epoch (R343, R344, R345, R346,
R358, 13_time_ptp_triggers Table 13-2, log 24 (DESIGN CHOICE)). -/
def Obligations.TimeBasesAndSteps : Prop :=
  ∀ s : State, s.time.bases.length = 8 →
    (∀ i rate, i < 2 → 0 < rate → rate ≤ 200 → ∃ t, exec (.timebaseConfig .apply [pack [(rate, 18), (i, 0)], 0, 0]) s = .next t ∧
      t.time = { s.time with bases := s.time.bases.set i { s.base i with slew := rate } } ∧ t.mem = s.mem) ∧
    (∀ (i src rate : Nat) (en : Bool) (hi lo : W32), 2 ≤ i → i < 8 → src < 5 → 0 < rate → rate ≤ 1000 → let b := s.base i
      let n := { b with enable := en, source := src, slew := rate, offset := signed64 hi lo }
      ∃ t, exec (.timebaseConfig .apply [pack [(b2n en, 31), (src, 28), (rate, 18), (i, 0)], hi, lo]) s = .next t ∧ t.mem = s.mem ∧ t.out = s.out ∧
        (en = false → t.time = { s.time with bases := s.time.bases.set i { n with val := 0, steering := false } }) ∧
        (en = true → b.enable = true → t.time = { s.time with bases := s.time.bases.set i n }) ∧
        (∀ v, en = true → b.enable = false → s.baseTarget n = some v → t.time = { s.time with bases := s.time.bases.set i { n with val := v } }) ∧
        (src = 0 → s.baseTarget n = some (((s.now : Int) + signed64 hi lo) * 1000000))) ∧
    (∀ (i : Nat) (hi lo : W32), i < 2 → let d := signed64 hi lo
      let total := (s.base i).err + d * 10
      ∃ t, exec (.timebaseAdjust .apply [w32 i, hi, lo]) s = .next t ∧ t.mem = s.mem ∧ (t.time.tick, t.time.sub, t.time.mono, t.time.mute) = (s.time.tick, s.time.sub, s.time.mono, s.time.mute) ∧ t.strm = s.strm ∧
        (total.natAbs ≤ 10000 → (t.base i).err = 0 ∧ (t.base i).steering = false) ∧ (10000 < total.natAbs → t.base i = { s.base i with err := total, steering := true })) ∧
    (∀ (i : Nat) (hi lo : W32), 2 ≤ i → i < 8 → exec (.timebaseAdjust .apply [pack [(1, 31), (i, 0)], hi, lo]) s = .next s ∧
      ∃ t, exec (.timebaseAdjust .apply [w32 i, hi, lo]) s = .next t ∧ t.mem = s.mem ∧
        t.time = { s.time with bases := s.time.bases.set i { s.base i with offset := signed 64 (code 64 ((s.base i).offset + signed64 hi lo)) } }) ∧
    (∀ hi lo : W32, 0 ≤ (s.base 1).val → ∃ t, exec (.timebaseAdjust .apply [pack [(1, 31), (1, 0)], hi, lo]) s = .next t ∧
      (t.baseNs 1 : Int) = ((s.baseNs 1 : Int) + signed64 hi lo) % 2 ^ 64 ∧ t.now = s.now ∧ t.time.mute = s.time.mute ∧ t.strm = s.strm ∧ t.mem = s.mem) ∧
    (∀ hi lo : W32, let d := signed64 hi lo
      ∃ t, exec (.timebaseAdjust .apply [pack [(1, 31)], hi, lo]) s = .next t ∧ let m := t.time.tick
        (t.now : Int) = ((s.now : Int) + d) % 2 ^ 64 ∧ m = tickOf t.now ∧ t.time.mute = some (m + 49) ∧ t.time.stepTick = some (m + 1) ∧ t.time.mono = s.time.mono ∧ t.mem = s.mem ∧ t.aud.sinks = [] ∧
        (∀ i, (t.rxSlot i).st = (if (s.rxSlot i).st = .closed then .closed else .wait) ∧ ((s.rxSlot i).st ≠ .closed → (t.rxSlot i).buf = [])) ∧ (∀ i, (t.txSlot i).seq = (s.txSlot i).seq ∧ (t.txSlot i).st = (s.txSlot i).st) ∧
        t.host.cmds = s.host.cmds.map (fun c => if c.target ≤ m then { c with target := m + 1, late := true } else c) ∧
        t.gey.groups.map (·.st) = s.gey.groups.map (·.st) ∧ t.time.epoch = t.now / 2 ^ 32 ∧ (∀ x ∈ t.route.slots, x.samples = [])) ∧
    (∀ t i, i < 2 → let z := s.goto t
      let b := z.base i
      (b.steering = true → b.err.natAbs ≤ 10000 → (∀ r, (s.dpll i).source = some r → r ≤ 8) → ∃ u, exec (.timeSteerEnd t i) s = .next u ∧ (u.base i).err = 0 ∧ (u.base i).steering = false ∧ u.now = z.now ∧ u.mem = s.mem ∧
        ∃ r ∈ u.flt.journal, r.msgH = pack [(0xE1, 8)] ∧ fld r.msgL 31 24 = 0x82 ∧ fld r.msgL 19 16 = i) ∧
      (b.steering = false ∨ 10000 < b.err.natAbs → exec (.timeSteerEnd t i) s = .next z)) ∧
    (∀ m, s.time.mute = some m → (m ≤ s.time.tick → exec .stepMuteEnd s = .next { s with time := { s.time with mute := none }, aud := { s.aud with fadeIn := m } }) ∧ (s.time.tick < m → exec .stepMuteEnd s = .next s)) ∧
    (s.time.mute = none → exec .stepMuteEnd s = .next s) ∧
    (∀ t, let z := s.goto t
      let hi := z.now / 2 ^ 32
      (hi = s.time.epoch → exec (.eventTimeEpoch t) s = .next z) ∧
      (hi ≠ s.time.epoch → ∃ u, exec (.eventTimeEpoch t) s = .next u ∧ u.time = { z.time with epoch := hi } ∧ u.host.intStatus.getLsbD 7 = true ∧ u.mem = s.mem ∧
        ∃ r ∈ u.flt.journal, r.msgH = pack [(0xE3, 8)] ∧ r.msgL = w32 hi ∧ r.stamp = w32 (hi * 2 ^ 32)))

/-- PTP_CONFIG, PTP_DOMAIN_SELECT, PTP messages in and out, calibration and losses (R348, R349, R350, R351, R353, R354,
13_time_ptp_triggers Table 13-5, log 25 (DESIGN CHOICE)). -/
def Obligations.PtpInstances : Prop :=
  ∀ s : State, s.time.insts.length = 2 → s.time.cals.length = 3 → s.ref.refs.length = 9 → s.net.ports.length = 3 → (∀ p ∈ s.net.ports, p.rxq.length = 8) →
    ∀ i, i < 2 → let x := s.inst i
    let dropped (u : State) : Prop := (s.rfc i).q ≠ .blocked → (u.rfc i).q = .absent ∧ (u.rfc i).cause = 4
    let lost (u : State) (cause : Nat) : Prop := ∃ r ∈ u.flt.journal, r.msgH = pack [(0x0F, 24), (i, 16), (0x16, 8), (s.classNow 0x0F 0x16, 6)] ∧ r.msgL = pack [(cause, 24), (s.time.tick % 65536, 0)]
    (∀ (en eth one so : Bool) (prof ports dom p1 p2 ls la ld an ds : Nat), prof < 4 → ports < 8 → dom < 256 → (prof = 3 → eth = true ∧ dom = 0) → p1 < 256 → p2 < 256 → ds < 64 → 2 ≤ an → an ≤ 10 →
      ls ≤ 1 ∨ 9 ≤ ls ∧ ls < 16 → la ≤ 4 ∨ 13 ≤ la ∧ la < 16 → ld ≤ 5 ∨ 9 ≤ ld ∧ ld < 16 →
      let n := { x with enable := en, profile := prof, ports := ports, ethernet := eth, oneStep := one, slaveOnly := so, domain := dom, prio1 := p1, prio2 := p2, logSync := signed 4 ls, logAnn := signed 4 la, logDelay := signed 4 ld, annTo := an, dscp := ds }
      let restart := en ≠ x.enable ∨ prof ≠ x.profile ∨ dom ≠ x.domain ∨ ports ≠ x.ports ∨ eth ≠ x.ethernet
      ∃ t, exec (.ptpConfig .apply [pack [(i, 29), (b2n en, 28), (prof, 26), (ports, 23), (b2n eth, 22), (b2n one, 21), (b2n so, 20), (dom, 0)], pack [(p1, 24), (p2, 16), (ls, 12), (la, 8), (ld, 4), (an, 0)], pack [(ds, 26)]]) s = .next t ∧ t.mem = s.mem ∧
        t.inst (1 - i) = s.inst (1 - i) ∧
        (¬restart → so = false ∨ x.st ≠ .master → t.inst i = n ∧ t.ref = s.ref) ∧ (¬restart → so = true → x.st = .master → t.inst i = { n with st := .listening }) ∧
        (restart → t.inst i = { n.restart none with masters := [], st := if en then .listening else .disabled, lastAnn := s.time.mono } ∧ (x.st = .slave → dropped t))) ∧
    (∀ (port a b : Nat) (c : W16), port < 3 → a < 65536 → b < 65536 → ∃ t, exec (.ptpConfig .apply [pack [(1, 30), (port, 0)], pack [(a, 16), (b, 0)], w32 c.toNat]) s = .next t ∧
      t.time = { s.time with cals := s.time.cals.set port ⟨a, b, c.toInt⟩ } ∧ t.ref = s.ref ∧ t.mem = s.mem) ∧
    (∀ dom, dom < 256 → ∃ t, exec (.ptpDomainSelect .apply [pack [(i, 31), (dom, 0)]]) s = .next t ∧ t.mem = s.mem ∧ dropped t ∧
      t.inst i = { ({ x with domain := dom } : PtpInst).restart none with masters := [], st := if x.enable then .listening else .disabled, lastAnn := s.time.mono }) ∧
    (∀ t port, port < 3 → let z := s.goto t
      let q := 16 * port + 6
      let c := s.cal port
      let takes (u : State) : Prop := (u.queue q).pkts = (s.queue q).pkts.drop 1 ∧ u.mem = s.mem ∧ u.ref.window = s.ref.window
      (∀ m, x.st = .disabled ∨ x.ports.testBit port = false → ∃ u, exec (.ptpMessageReceive t i port m) s = .next u ∧ takes u ∧ u.time = z.time ∧ u.out = s.out) ∧
      (x.st ≠ .disabled → x.ports.testBit port = true →
        (∀ seq origin corr rx, let r := rx - (c.ingress : Int)
          let y := { x with offsets := kset x.offsets port (origin + corr + kgetD x.pathDelay port 0 + c.asym - r), syncAt := some (origin + corr + c.asym, r), pendSync := none }
          (∃ u, exec (.ptpMessageReceive t i port (.sync seq true origin corr rx)) s = .next u ∧ takes u ∧ u.inst i = { x with pendSync := some (seq, rx) }) ∧
          (∃ u, exec (.ptpMessageReceive t i port (.sync seq false origin corr rx)) s = .next u ∧ takes u ∧ u.inst i = { y with lastSync := if (x.gm.map (·.port)) = some port then z.time.mono else x.lastSync }) ∧
          (x.pendSync = some (seq, rx) → ∃ u, exec (.ptpMessageReceive t i port (.followUp seq origin corr)) s = .next u ∧ takes u ∧
            u.inst i = { y with lastSync := if (x.gm.map (·.port)) = some port then z.time.mono else x.lastSync }) ∧
          ((∀ rx', x.pendSync ≠ some (seq, rx')) → ∃ u, exec (.ptpMessageReceive t i port (.followUp seq origin corr)) s = .next u ∧ takes u ∧ u.time = z.time)) ∧
        (∀ seq who rx, (x.st = .master → ∃ u, exec (.ptpMessageReceive t i port (.delayReq seq who rx)) s = .next u ∧ takes u ∧ u.out = s.out ++ [.ptpReply i port seq (rx - (c.ingress : Int))] ∧ u.time = z.time) ∧
          (x.st ≠ .master → ∃ u, exec (.ptpMessageReceive t i port (.delayReq seq who rx)) s = .next u ∧ takes u ∧ u.out = s.out ∧ u.time = z.time) ∧
          ∃ u, exec (.ptpMessageReceive t i port (.pdelayReq seq who rx)) s = .next u ∧ takes u ∧ u.out = s.out ++ [.ptpReply i port seq (rx - (c.ingress : Int))] ∧ u.time = z.time) ∧
        (∀ seq tx t1 t2 rx corr, x.reqTx = some (seq, tx) → x.syncAt = some (t1, t2) → ∃ u, exec (.ptpMessageReceive t i port (.delayResp seq rx corr)) s = .next u ∧ takes u ∧
          u.inst i = { x with pathDelay := kset x.pathDelay port (roundDiv ((t2 - t1) + (rx - corr - tx)) 2), reqTx := none, pendPdelay := none }) ∧
        (∀ seq tx req corr rx, x.reqTx = some (seq, tx) → let t4 := rx - (c.ingress : Int)
          (req ≠ 0 → ∃ u, exec (.ptpMessageReceive t i port (.pdelayResp seq req corr rx)) s = .next u ∧ takes u ∧ u.inst i = { x with pendPdelay := some (seq, req + corr, t4) }) ∧
          (∃ u, exec (.ptpMessageReceive t i port (.pdelayResp seq 0 corr rx)) s = .next u ∧ takes u ∧
            u.inst i = { x with pathDelay := kset x.pathDelay port (roundDiv (t4 - tx - corr) 2), reqTx := none, pendPdelay := none }) ∧
          (∀ t2 t4 t3, x.pendPdelay = some (seq, t2, t4) → ∃ u, exec (.ptpMessageReceive t i port (.pdelayRespFollowUp seq t3 corr)) s = .next u ∧ takes u ∧
            u.inst i = { x with pathDelay := kset x.pathDelay port (roundDiv ((t4 - tx) - (t3 + corr - t2)) 2), reqTx := none, pendPdelay := none })) ∧
        (∀ m : PtpMaster, m.port = port → x.slaveOnly = true →
          (x.st = .listening → x.masters = [] → ∃ u, exec (.ptpMessageReceive t i port (.announce m)) s = .next u ∧ takes u ∧ (u.inst i).st = .uncalibrated ∧ (u.inst i).gm = some m ∧ (u.inst i).masters = [m]) ∧
          (∀ g : PtpMaster, x.st = .slave → x.gm = some g → x.masters = [g] → g.port = port → g.sender = m.sender →
            (g.gmId ≠ m.gmId → ∃ u, exec (.ptpMessageReceive t i port (.announce m)) s = .next u ∧ takes u ∧ (u.inst i).st = .uncalibrated ∧ (u.inst i).gm = some m ∧ lost u 3 ∧ dropped u) ∧
            (g.gmId = m.gmId → ∃ u, exec (.ptpMessageReceive t i port (.announce m)) s = .next u ∧ takes u ∧ u.inst i = { x with masters := [m], gm := some m, lastAnn := z.time.mono } ∧ u.flt = s.flt))))) ∧
    (∀ t err pred fr, (x.st = .uncalibrated → ∃ u, exec (.ptpSample t i err pred fr) s = .next u ∧ u.inst i = { x with err := err, freq := fr, good := if (err - pred).natAbs ≤ 10000 then x.good + 1 else 0 } ∧ u.mem = s.mem) ∧
      (x.st = .slave → ∃ u, exec (.ptpSample t i err pred fr) s = .next u ∧ u.inst i = { x with err := err, freq := fr } ∧ u.mem = s.mem) ∧
      (x.st ≠ .uncalibrated → x.st ≠ .slave → exec (.ptpSample t i err pred fr) s = .next (s.goto t)) ∧
      (x.st = .uncalibrated → 16 ≤ x.good → ∃ u, exec (.ptpCalibrated t i) s = .next u ∧ u.inst i = { x with st := .slave } ∧ u.ref = s.ref ∧ u.mem = s.mem) ∧
      (x.st ≠ .uncalibrated ∨ x.good < 16 → exec (.ptpCalibrated t i) s = .next (s.goto t))) ∧
    (∀ t cause, let z := s.goto t
      let due := cause = 1 ∧ x.lastAnn + x.annTo * logNs x.logAnn ≤ z.time.mono ∨ cause = 2 ∧ x.lastSync + 3 * logNs x.logSync ≤ z.time.mono
      (x.st ≠ .uncalibrated ∧ x.st ≠ .slave → x.st = .disabled ∨ x.st = .master ∨ x.slaveOnly = true ∨ s.isStandby = true ∨ cause ≠ 1 → exec (.ptpDomainLost t i cause) s = .next z) ∧
      (x.st = .listening ∨ x.st = .passive → x.slaveOnly = false → s.isStandby = false → cause = 1 → due → ∃ u, exec (.ptpDomainLost t i 1) s = .next u ∧ u.inst i = { x with gm := none, masters := [], st := .master } ∧ u.ref = s.ref ∧ u.mem = s.mem) ∧
      (cause ≠ 4 → ¬due → exec (.ptpDomainLost t i cause) s = .next z) ∧
      (∀ g : PtpMaster, x.st = .slave → x.gm = some g → due → x.masters = [g] → ∃ u, exec (.ptpDomainLost t i cause) s = .next u ∧ (u.inst i).st = .listening ∧ (u.inst i).gm = none ∧ lost u cause ∧ dropped u ∧ u.mem = s.mem) ∧
      (∀ (g b : PtpMaster) (v w : Int), x.st = .slave → x.gm = some g → due → x.masters = [g, b] → b.port ≠ g.port → b.gmId = g.gmId → kget x.offsets g.port = some v → kget x.offsets b.port = some w → (v - w).natAbs ≤ 10000 →
        ∃ u, exec (.ptpDomainLost t i cause) s = .next u ∧ u.inst i = { x with masters := [b], gm := some b, lastAnn := z.time.mono, lastSync := z.time.mono } ∧ u.flt = s.flt ∧ u.ref = s.ref) ∧
      (x.st = .slave → (∀ p, p < 3 → x.ports.testBit p = true → (s.port p).linkUp = false) → ∃ u, exec (.ptpDomainLost t i 4) s = .next u ∧ (u.inst i).st = .listening ∧ lost u 4 ∧ dropped u ∧ u.mem = s.mem)) ∧
    (∀ t port (k : PtpTx), port < 3 → let z := s.goto t
      let peer := x.profile = 1 ∨ x.profile = 3
      let may := match k with
        | .sync | .announce => x.st = .master
        | .delayReq => ¬peer ∧ (x.st = .uncalibrated ∨ x.st = .slave)
        | .pdelayReq => peer ∧ x.st ≠ .disabled
      let up := x.ports.testBit port = true ∧ (s.port port).linkUp = true
      (may → up → ∃ u, exec (.ptpMessageTransmit t i port k) s = .next u ∧ u.out = s.out ++ [.ptp i port k x.seqNo ((z.now : Int) * 10 + (s.cal port).egress)] ∧ (u.inst i).seqNo = (x.seqNo + 1) % 65536 ∧
        (u.inst i).st = x.st ∧ u.mem = s.mem ∧ (k = .delayReq ∨ k = .pdelayReq → (u.inst i).reqTx = some (x.seqNo, (z.now : Int) * 10 + (s.cal port).egress))) ∧
      (¬may ∨ ¬up → exec (.ptpMessageTransmit t i port k) s = .next z))

/-- TRIGGER_SET, edges of TRIG_IN, and the firing of triggers (R145, R355, R356, R357, R361, 13_time_ptp_triggers Table
13-9). -/
def Obligations.TriggersFireAndAct : Prop :=
  ∀ s : State, s.time.trigs.length = 16 → s.vent.cores.length = 64 →
    (∀ (i tb act st th tl : Nat) (period target : W32) (en : Bool), i < 16 → tb < 8 → act < 7 → st < 5 → targetBad act target = false → th < 2 ^ 32 → tl < 2 ^ 32 →
      let time := th * 2 ^ 32 + tl
      let now := s.baseNs tb
      ∃ t, exec (.triggerSet .apply [pack [(b2n en, 31), (tb, 28), (act, 24), (st, 21), (i, 0)], w32 th, w32 tl, period, target]) s = .next t ∧ t.mem = s.mem ∧ t.vent = s.vent ∧ t.out = s.out ∧
        t.time.bases = s.time.bases ∧ (∀ k, k ≠ i → t.trig k = s.trig k) ∧ let x := t.trig i
        (x.armed, x.tb, x.action, x.start, x.time, x.period, x.target, x.bound, x.loadTick) = (en, tb, act, st, time, period.toNat, target, none, s.time.tick) ∧
        (en = false ∨ st ≠ 0 → x.due = none ∧ x.lateDue = false) ∧
        (en = true → st = 0 → period = 0 → x.due = some time ∧ x.lateDue = decide (time < now)) ∧
        (en = true → st = 0 → period ≠ 0 → x.lateDue = false ∧ ∃ d, x.due = some d ∧ now ≤ d ∧ time ≤ d ∧ (d - time) % period.toNat = 0 ∧ (d = time ∨ d < now + period.toNat))) ∧
    (∀ t pin, pin < 4 → s.time.trigIn.length = 4 → let z := s.goto t
      ∃ u, exec (.trigInEdge t pin) s = .next u ∧ u.time.trigIn = s.time.trigIn.set pin z.now ∧ u.mem = s.mem ∧ u.vent = s.vent ∧ u.out = s.out ∧
        ∀ k, k < 16 → let x := s.trig k
          u.trig k = if x.armed = true ∧ x.start = pin + 1 then { x with due := some (z.baseNs x.tb + x.time), lateDue := false, bound := none } else x) ∧
    (∀ t i, i < 16 → let z := s.goto t
      let x := s.trig i
      (x.due = none ∨ x.armed = false → exec (.triggerFire t i) s = .next z) ∧
      ∀ d, x.due = some d → (z.baseNs x.tb < d → exec (.triggerFire t i) s = .next z) ∧
        (x.armed = true → d ≤ z.baseNs x.tb →
          let y := { x with
            armed := x.period != 0 || x.start != 0
            due := if x.period = 0 then none else some (nextDue d x.period (max (d + 1) (z.baseNs x.tb)))
            late := x.lateDue
            lateDue := false }
          (x.action = 0 → exec (.triggerFire t i) s = .next (z.setTrig i y)) ∧
          (x.action = 5 ∨ x.action = 6 → ∃ u, exec (.triggerFire t i) s = .next u ∧ u.trig i = y ∧ u.mem = s.mem ∧
            u.out = if s.pair.owner then s.out ++ [.pulse (if x.action = 5 then .ppsOut else .trigOut (fld x.target 31 30)) z.time.tick z.time.sub (fld x.target 23 0)] else s.out) ∧
          (1 ≤ x.action → x.action ≤ 4 → z.time.sub ≠ 0 → ∃ u, exec (.triggerFire t i) s = .next u ∧ u.trig i = { y with bound := some (max (z.time.tick + 1) (x.loadTick + 2)) } ∧ u.mem = s.mem ∧
            u.cald = s.cald ∧ u.vent = s.vent ∧ (s.leads = false → x.action ≠ 1 → u.out = s.out)) ∧
          (x.period ≠ 0 → d < nextDue d x.period (max (d + 1) (z.baseNs x.tb))))) ∧
    (∀ i first last, i < 16 → first ≤ last → last < 64 → let x := s.trig i
      s.time.sub = 0 → s.follows = false → x.armed = true → x.action = 3 → x.target = pack [(first, 8), (last, 0)] → x.loadTick + 2 ≤ s.time.tick → (∀ d, x.due = some d → d ≤ s.baseNs x.tb) → x.due ≠ none →
      (∀ k, k < 16 → k ≠ i → (s.trig k).bound = none) → ∃ u, exec (.triggerFire 0 i) s = .next u ∧ u.mem = s.mem ∧ (u.trig i).bound = none ∧
        ∀ n, n < 64 → (u.core n).trig = if first ≤ n ∧ n ≤ last then (s.core n).trig ++ [s.time.tick] else (s.core n).trig)

/-- Ownership, link, heartbeats, takeover, digests, resynchronisation, handover and revert of a pair, and its commands
(R365, R366, R369, R370, R371, R374, R377, R380, R386, R387, R389, R392). -/
def Obligations.PairOperation : Prop :=
  ∀ s : State, (∀ k ∈ [0x17, 0x18, 0x19, 0x1A], s.classNow 0x10 k < 3) → s.classNow 0x0E 0x13 < 3 →
    let p := s.pair
    let fault (u : State) (kind : Nat) (ctx : W32) : Prop := ∃ r ∈ u.flt.journal, r.msgH = pack [(0x10, 24), (0, 16), (kind, 8), (s.classNow 0x10 kind, 6)] ∧ r.msgL = ctx
    let ev (u : State) (cause phase : Nat) : Prop := ∃ r ∈ u.flt.journal, r.msgH = pack [(0xE2, 8)] ∧ r.msgL = pack [(cause, 24), (u.pair.st.code, 20), (p.st.code, 16), (phase, 12)]
    (∀ n, n ≤ 655350 → ∃ t, exec (.pairConfig .apply [w32 n]) s = .next t ∧ t.time = s.time ∧ t.mem = s.mem ∧
      t.pair = { p with holdOff := if n = 0 then 20 else n, holdFrom := p.holdFrom.map (fun _ => s.time.mono), cfgVer := p.cfgVer + 1 }) ∧
    (∀ (en : Bool) (port dscp udp : Nat) (ip : W32), port < 3 → dscp < 64 → udp < 65536 → ∃ t, exec (.heartbeatConfig .apply [pack [(b2n en, 31), (port, 29), (dscp, 16), (udp, 0)], ip]) s = .next t ∧ t.time = s.time ∧ t.mem = s.mem ∧
      t.pair = { p with nhEnable := en, nhPort := port, nhDscp := dscp, nhUdp := udp, nhIp := ip.toNat, cfgVer := p.cfgVer + 1 }) ∧
    (let ok := s.solo = false ∧ p.linkUp = true ∧ p.st ≠ .alone ∧ p.st ≠ .start ∧ p.hand = none ∧ s.inStep = true ∧ p.phase = 0 ∧ p.calibrated = true ∧
        p.owner = true ∧ (p.partner.map (·.follows)) = some true;
      (ok → ∃ t, exec (.pairHandover .apply []) s = .next t ∧ t.pair.hand = some ⟨s.time.tick, false⟩ ∧ t.pair.holdFrom = none ∧ t.pair.owner = p.owner ∧ t.pair.st = p.st ∧ ev t 14 0 ∧ t.mem = s.mem ∧
        Out.cell (p.cseqOut.getD 1 0) (.handover s.time.tick false) ∈ t.out) ∧
      (¬ok → exec (.pairHandover .apply []) s = .next s)) ∧
    (let no := s.solo = true ∨ p.linkUp = false ∨ p.st = .alone ∨ p.st = .start;
      (no → exec (.pairResync .apply []) s = .next s) ∧
      (¬no → p.st = .active → ∃ t, exec (.pairResync .apply []) s = .next t ∧ t.pair = { p with phase := 1, progress := 0, cfgVer := p.cfgVer + 1 }) ∧
      (¬no → p.st = .standby ∨ p.st = .cold → ∃ t, exec (.pairResync .apply []) s = .next t ∧ t.pair.st = .cold ∧ t.pair.phase = 1 ∧ t.pair.matched = 0 ∧ t.pair.owner = p.owner ∧ t.mem = s.mem)) ∧
    (∀ t k, k < 32 → let z := s.goto t
      (p.hb = true → p.linkUp = true → ∃ u, exec (.heartbeatSend t k) s = .next u ∧ u.pair.hbSeq = (p.hbSeq + 1) % 65536 ∧ u.mem = s.mem ∧ u.out = s.out ++ [.cell (p.cseqOut.getD 0 0)
        (.heartbeat p.st.code (if s.solo then 0 else s.sys.pairRole) p.owner false k (p.hbSeq % 65536) (w32 s.time.tick) (w32 (ceilDiv (3 * 32 * boundaryNs s.time.tick + k * 125000) 96)) p.cfgVer)]) ∧
      (p.hb = false ∨ p.linkUp = false → exec (.heartbeatSend t k) s = .next z) ∧
      (s.solo = true → exec (.heartbeatCheck t k) s = .next z) ∧
      (s.solo = false → p.owner = true → p.linkUp = true → p.slotSeen = some k ∨ p.missing < 2 → ∃ u, exec (.heartbeatCheck t k) s = .next u ∧ u.out = s.out ∧
        u.pair = { p with slotSeen := none, missing := if p.slotSeen = some k then 0 else p.missing + 1 }) ∧
      (s.solo = false → p.linkUp = true → p.slotSeen ≠ some k → 2 ≤ p.missing → p.kaLost = false → ∃ u, exec (.heartbeatCheck t k) s = .next u ∧ u.pair.linkUp = false ∧ u.pair.owner = p.owner ∧
        u.pair.st = (if p.st = .active then .alone else if p.st = .standby then .cold else p.st) ∧ fault u 0x17 (pack [(1, 24), (s.time.tick % 65536, 0)]) ∧ ev u 3 0 ∧ u.mem = s.mem) ∧
      (s.solo = false → p.owner = false → s.sys.phase ≠ .halted → p.st = .standby ∨ (p.st = .cold ∧ p.phase1Done = true) → p.kaLost = true →
        (p.linkUp = true → (p.slotSeen ≠ some k ∧ 2 ≤ p.missing) ∨ p.fatalSinceKa = true) → ∃ u, exec (.heartbeatCheck t k) s = .next u ∧
          u.pair.st = .alone ∧ u.pair.owner = true ∧ u.pair.ka = true ∧ u.pair.takeovers = min 65535 (p.takeovers + 1) ∧ u.pair.lastTakeover = w32 s.time.tick ∧ u.pair.cold = (p.cold || p.st == .cold) ∧ u.pair.fwd = [] ∧ u.mem = s.mem ∧
          (∀ g, g < 24 → (u.ggroup g).redo = ((s.ggroup g).st == .stage || (s.ggroup g).st == .diag) ∧ (u.ggroup g).st = (s.ggroup g).st) ∧
          fault u 0x1A (pack [(b2n (p.st == .cold), 31), (b2n p.mismatching, 30), ((if p.linkUp = false ∨ (p.slotSeen ≠ some k ∧ 2 ≤ p.missing) then 1 else 2), 24), (s.time.tick % 65536, 0)]))) ∧
    (∀ t, let z := s.goto t
      (s.solo = true → exec (.kaInEdge t) s = .next z ∧ exec (.kaLost t) s = .next z ∧ exec (.dweuneLinkUp t) s = .next z) ∧
      (s.solo = false → ∃ u, exec (.kaInEdge t) s = .next u ∧ u.pair.kaSeen = true ∧ u.pair.kaLost = false ∧ u.pair.fatalSinceKa = false ∧ u.pair.lastKa = some z.time.mono ∧ u.pair.owner = p.owner ∧ u.mem = s.mem ∧
        u.pair.st = (if p.kaLost = true ∧ p.linkUp = false ∧ p.st = .standby then .cold else p.st) ∧ (p.kaLost = true → ev u 7 0)) ∧
      (s.solo = false → z.time.mono < p.lastKa.getD p.startSince + 2000 → exec (.kaLost t) s = .next z) ∧
      (s.solo = false → p.lastKa.getD p.startSince + 2000 ≤ z.time.mono → ∃ u, exec (.kaLost t) s = .next u ∧ u.pair.kaSeen = false ∧ u.pair.kaLost = (!p.owner) ∧ u.pair.owner = p.owner ∧ u.pair.st = p.st ∧ u.mem = s.mem ∧
        (p.owner = false → p.kaLost = false → fault u 0x18 (w32 (s.time.tick % 65536)) ∧ ev u 6 0)) ∧
      (∀ x, p.kaStopped = some x → x + 1000 ≤ z.time.mono → exec (.guardRelease t) s = .next (z.setPair { p with owner := false, kaStopped := none })) ∧
      ((∀ x, p.kaStopped = some x → z.time.mono < x + 1000) → exec (.guardRelease t) s = .next z) ∧
      (let go := s.solo = false ∧ s.starting = true ∧ p.linkUp = false ∧ p.startSince + (if s.sys.pairRole = 1 then 200000000 else 400000000) ≤ z.time.mono;
        (go → ∃ u, exec (.startupWaitExpire t) s = .next u ∧ u.pair.st = .alone ∧ u.pair.owner = true ∧ u.pair.ka = true ∧ u.mem = s.mem) ∧ (¬go → exec (.startupWaitExpire t) s = .next z)) ∧
      (s.solo = false → p.linkUp = false → ∃ u, exec (.dweuneLinkUp t) s = .next u ∧ u.pair.linkUp = true ∧ u.pair.missing = 0 ∧ u.pair.st = p.st ∧ u.pair.owner = p.owner ∧ (p.st = .cold → u.pair.phase = 1) ∧ ev u 2 0 ∧ u.mem = s.mem) ∧
      (p.linkUp = true → exec (.dweuneLinkUp t) s = .next z) ∧ (p.linkUp = false → exec (.dweuneLinkDown t) s = .next z) ∧
      (p.linkUp = true → ∃ u, exec (.dweuneLinkDown t) s = .next u ∧ u.pair.linkUp = false ∧ u.pair.calibrated = false ∧ u.pair.owner = p.owner ∧ u.pair.hand = none ∧ u.pair.fwd = [] ∧ u.mem = s.mem ∧
        u.pair.st = (if p.st = .active then .alone else if p.st = .standby ∧ p.kaLost = false then .cold else p.st) ∧ fault u 0x17 (pack [(2, 24), (s.time.tick % 65536, 0)]) ∧ ev u 3 0) ∧
      (∀ x, p.failedAt = some x → p.st = .cold → p.linkUp = true → x + 60000000000 ≤ z.time.mono → ∃ u, exec (.resyncRetry t) s = .next u ∧ u.pair.phase = 1 ∧ u.pair.failedAt = none ∧ u.pair.st = .cold ∧ u.out = s.out) ∧
      ((∀ x, p.failedAt = some x → p.st = .cold → p.linkUp = true → z.time.mono < x + 60000000000) → exec (.resyncRetry t) s = .next z) ∧
      (∀ f, p.holdFrom = some f → p.st = .active → s.sys.pairRole = 2 → p.hand = none → f + p.holdOff * 100000000 ≤ z.time.mono → ∃ u, exec (.holdOffExpire t) s = .next u ∧
        u.pair.hand = some ⟨firstTick z.now 30000, true⟩ ∧ u.pair.holdFrom = none ∧ u.pair.owner = p.owner ∧ ev u 16 0 ∧ u.mem = s.mem) ∧
      ((∀ f, p.holdFrom = some f → p.st = .active → s.sys.pairRole = 2 → p.hand = none → z.time.mono < f + p.holdOff * 100000000) → exec (.holdOffExpire t) s = .next z) ∧
      (∀ h, p.hand = some h → handoverNs h.tick ≤ z.now → ∃ u, exec (.handoverInstant t) s = .next u ∧ u.pair.owner = (!p.owner) ∧ u.pair.ka = (!p.owner) ∧ u.pair.st = (if p.owner then .standby else .active) ∧
        u.pair.hand = none ∧ u.pair.handovers = min 65535 (p.handovers + 1) ∧ ev u 15 0 ∧ u.mem = s.mem) ∧
      ((∀ h, p.hand = some h → z.now < handoverNs h.tick) → exec (.handoverInstant t) s = .next z) ∧
      (p.nhEnable = false ∨ z.now % 100000 ≠ 0 → exec (.networkHeartbeatSend t) s = .next z) ∧
      (p.nhEnable = true → z.now % 100000 = 0 → ∃ u, exec (.networkHeartbeatSend t) s = .next u ∧ u.pair = { p with nhSeq := p.nhSeq + 1 } ∧ u.mem = s.mem ∧ u.time = z.time) ∧
      (let good := s.solo = false ∧ p.owner = false ∧ p.calibrated = true ∧ (s.rfc 8).q = .qualified ∧ ∀ i, i < 2 → (s.dpll i).st = .locked ∧ (s.dpll i).source = some 8 ∧ (s.dpll i).phase.natAbs ≤ 10;
        (good → ∃ u, exec (.standbyAligned t) s = .next u ∧ u.pair = { p with aligned := true, matched := 0, runLength := 0 }) ∧ (¬good → exec (.standbyAligned t) s = .next z))) ∧
    (∀ (t n : Nat) (c : Cell), s.solo = true ∨ p.linkUp = false → exec (.dweuneCellReceive t n true c) s = .next (s.goto t) ∧ exec (.dweuneCellReceive t n false c) s = .next (s.goto t)) ∧
    (∀ (t n : Nat), s.solo = false → p.linkUp = true → let z := s.goto t
      let got (c : Cell) (u : State) : Prop := exec (.dweuneCellReceive t n true c) s = .next u ∧ u.mem = s.mem
      (∀ c, exec (.dweuneCellReceive t n false c) s = .next z) ∧
      (∀ st role slot sq tk sp cv, p.st = .start → p.owner = false → ∃ u, got (.heartbeat st role true false slot sq tk sp cv) u ∧ u.pair.st = .cold ∧ u.pair.phase = 1 ∧ u.pair.owner = false ∧ u.pair.slotSeen = some slot) ∧
      (∀ st role slot sq tk sp cv, p.st = .start → p.owner = false → ∃ u, got (.heartbeat st role false false slot sq tk sp cv) u ∧ u.pair.st = (if s.sys.pairRole = 1 then .active else .cold) ∧ u.pair.owner = decide (s.sys.pairRole = 1)) ∧
      (∀ st role slot sq tk sp cv, p.st = .alone → p.owner = true → s.sys.pairRole = 2 → ∃ u, got (.heartbeat st role true false slot sq tk sp cv) u ∧ u.pair.st = .cold ∧ u.pair.owner = false ∧ u.pair.ka = false) ∧
      (∀ st role slot sq tk sp cv, p.st = .alone → p.owner = true → ∃ u, got (.heartbeat st role false false slot sq tk sp cv) u ∧ u.pair.st = .active ∧ u.pair.owner = true) ∧
      (∀ op target par, ∃ u, got (.command op target par) u ∧ u.host.cmds = s.host.cmds ++ [⟨op, par, target, z.now, .mirror, 0, false, false, false⟩]) ∧
      (∀ i b, ∃ u, got (.trigger i b) u ∧ u.pair.trigBounds = kset p.trigBounds i b) ∧ (∀ x, ∃ u, got (.notice x) u ∧ u.pair.notices = p.notices ++ [x]) ∧ (∀ k l, ∃ u, got (.bitmap k l) u ∧ u.pair.bitmaps = kset p.bitmaps k l) ∧
      (∀ k v, ∃ u, got (.digest k v) u ∧ u.pair.theirs = kset p.theirs k v ∧ (∀ e, p.cseqIn.getD 5 none = some e → modSub 16 n e = 1 → u.out = s.out ++ [.cell (p.cseqOut.getD 1 0) (.retransmit 5 (e % 65536))])) ∧
      (∀ x f l, ∃ u, got (.patch x f l) u ∧ u.pair.patches = p.patches ++ [(x, f, l)]) ∧ (p.owner = false → ∀ k b, ∃ u, got (.handover k b) u ∧ u.pair.hand = some ⟨k, b⟩ ∧ u.pair.holdFrom = none ∧ u.pair.cfgVer = (if b then p.cfgVer else p.cfgVer + 1)) ∧
      (∀ b, ∃ u, got (.following b) u ∧ u.pair.partner = p.partner.map (fun x => { x with follows := b })) ∧
      (∀ d : Int, let l := (d :: p.cal).take 16
        (p.calibrated = false → ∃ u, exec (.linkCalibration t d) s = .next u ∧ u.pair.cal = l ∧ u.pair.linkDelay = min 65535 d.toNat ∧
          (u.pair.calibrated = true ↔ l.length = 16 ∧ ∀ x ∈ l, ∀ y ∈ l, x - y ≤ 20) ∧ (u.pair.calibrated = true → ev u 4 0)) ∧
        (p.calibrated = true → 20 * (p.cal.length : Int) < (d * p.cal.length - p.cal.sum).natAbs → ∃ u, exec (.linkCalibration t d) s = .next u ∧ u.pair.calibrated = false ∧ u.pair.cal = [d] ∧ ev u 5 0) ∧
        (p.calibrated = true → (d * p.cal.length - p.cal.sum).natAbs ≤ 20 * (p.cal.length : Int) → ∃ u, exec (.linkCalibration t d) s = .next u ∧ u.pair.calibrated = true ∧ u.pair.cal = l)) ∧
      (∀ c : CopyId, p.notices.contains c = true → exec (.patchSend t c) s = .next z) ∧
      (∀ (c : CopyId) (j : JitTick), p.notices.contains c = false → (s.rxSlot c.slot).buf.find? (fun j => j.ptick == c.ptick && j.seq == c.seq) = some j → ∃ u, exec (.patchSend t c) s = .next u ∧
        u.out = s.out ++ [.cell (p.cseqOut.getD 4 0) (.patch c j.first j.samples)] ∧ u.mem = s.mem) ∧
      (∀ k, let due := boundaryNs (k + 1) + 1600 ≤ z.now ∧ (kget p.frozen k).isSome = false
        (due → ∃ u, exec (.haveSetFreeze t k) s = .next u ∧ u.pair.frozen = kset p.frozen k (s.haveSet k) ∧ u.out = s.out ++ [.cell (p.cseqOut.getD 3 0) (.bitmap k (s.haveSet k))]) ∧
        (¬due → exec (.haveSetFreeze t k) s = .next z)) ∧
      (∀ k, kget p.own k = none → exec (.digestCompare t k) s = .next z) ∧
      (∀ k v, kget p.own k = some v → kget p.theirs (k % 2 ^ 32) = some v → ∃ u, exec (.digestCompare t k) s = .next u ∧ u.pair.matched = p.matched + 1 ∧ u.pair.runLength = 0 ∧ u.pair.diverge = p.diverge ∧
        (p.st = .cold → p.phase = 4 → s.isAligned = true → 23 ≤ p.matched → u.pair.st = .standby ∧ u.pair.phase = 0 ∧ u.pair.resyncs = min 65535 (p.resyncs + 1) ∧ ev u 11 0) ∧
        (p.st ≠ .cold ∨ p.phase ≠ 4 ∨ p.matched < 23 → u.pair.st = p.st)) ∧
      (∀ k v, kget p.own k = some v → kget p.theirs (k % 2 ^ 32) ≠ some v → ∃ u, exec (.digestCompare t k) s = .next u ∧ u.pair.diverge = p.diverge + 1 ∧ u.pair.lastMismatch = w32 k ∧ u.pair.owner = p.owner ∧ u.pair.mismatching = true ∧
        (s.inStep = true → p.mismatching = false → fault u 0x19 (w32 (k % 65536))) ∧ (p.st = .standby → 7 ≤ p.runLength → u.pair.st = .cold ∧ u.pair.phase = 1) ∧ (p.st = .active → u.pair.st = .active)) ∧
      (∀ x : PairCopy, p.st = .active → 0 < p.phase → p.phase < 4 → exec (.resyncPhaseComplete t (some x)) s = .next z ∧ ∃ u, exec (.resyncPhaseComplete t none) s = .next u ∧ u.pair.phase = p.phase + 1 ∧
        ev u 10 p.phase ∧ u.mem = s.mem ∧ (p.phase = 1 → u.pair.cfgVer = 0) ∧ u.cald = s.cald ∧ u.vent = s.vent) ∧
      (∀ x : PairCopy, p.st = .cold → 0 < p.phase → p.phase < 4 → exec (.resyncPhaseComplete t none) s = .next z ∧ ∃ u, exec (.resyncPhaseComplete t (some x)) s = .next u ∧ u.pair.phase = p.phase + 1 ∧ u.pair.owner = p.owner ∧ ev u 10 p.phase ∧
        (p.phase = 1 → u.pair.cfgVer = 0 ∧ u.pair.phase1Done = true ∧ u.cald.active = x.cald.active ∧ u.cald.shadow = x.cald.shadow ∧ u.vent.vmap = x.vent.vmap ∧ u.vent.cores = s.vent.cores ∧
          u.host.cmds = x.host.cmds.map (fun q => { q with org := .mirror, noReply := false })) ∧
        (p.phase = 2 → u.cald = x.cald ∧ u.meter = x.meter ∧ u.dec = x.dec ∧ u.tdm = x.tdm ∧ u.gey = x.gey ∧ u.vent.cores = x.vent.cores)))

/-- Fault messages, FAULT_CLEAR and FAULT_REACTION, store sessions and flash operations, scenes, MDIO and SEQ_QUERY
(R437, R438, R439, R443, R444, R446, R457, R458, R459, R462, R494, R46). -/
def Obligations.FaultsStoreAndImmediates : Prop :=
  ∀ s : State, s.store.regions.length = 4 → s.store.sess.length = 4 → s.vent.cores.length = 64 →
    let journalled (u : State) (h l : W32) : Prop := ∃ r ∈ u.flt.journal, r.msgH = h ∧ r.msgL = l
    (∀ w : W32, fld w 7 6 = 0 → let m (e : ActEntry) : Prop := (bit w 5 = true ∨ e.src = fld w 31 24) ∧ (bit w 4 = true ∨ e.kind = fld w 23 16) ∧ (bit w 3 = true ∨ e.inst = fld w 15 8)
      ((∀ e ∈ s.flt.active, m e → s.causePresent e = none) → ∃ t, exec (.faultClear .apply [w]) s = .next t ∧ (∀ e, e ∈ t.flt.active ↔ e ∈ s.flt.active ∧ ¬m e) ∧ t.mem = s.mem ∧ t.flt.fatal = s.flt.fatal ∧
        t.flt.first = (if bit w 2 then none else s.flt.first) ∧ t.flt.hist = (if bit w 0 then [] else s.flt.hist) ∧ t.flt.corrCount = (if bit w 1 then 0 else s.flt.corrCount) ∧
        (bit w 1 = true → t.flt.hasCorr = false ∧ t.flt.histLost = false ∧ t.flt.actLost = false ∧ t.flt.evtLost = false) ∧ journalled t (pack [(0x81, 8)]) w) ∧
      (∀ e c, s.flt.active = [e] → m e → s.causePresent e = some c → s.reactOf e.src e.kind = none → defaultClass e.src e.kind = 2 → ∃ t x, exec (.faultClear .apply [w]) s = .next t ∧ t.flt.active = [x] ∧
        (x.src, x.inst, x.kind, x.occur) = (e.src, e.inst, e.kind, 1) ∧ x.opening.msgL = c ∧ x.opening.stamp = w32 (boundaryNs s.time.tick) ∧ t.mem = s.mem)) ∧
    (∀ (src kind cls : Nat) (ev irq hist : Bool), (1 ≤ src ∧ src ≤ 0x15) ∨ src = 0xFF → 1 ≤ kind → kind ≤ 0x25 → cls < 4 →
      let w := pack [(src, 24), (kind, 16), (cls, 6), (b2n ev, 5), (b2n irq, 4), (b2n hist, 3)]
      let fixed := (cls = 1 ∨ cls = 2) ∧ (kind ∈ [0x1F, 0x20, 0x21, 0x23, 0x24] ∨ (kind = 2 ∧ src = 1))
      let rest := s.flt.reacts.filter (fun e => !(e.src == src && e.kind == kind))
      let l := if cls = 0 then rest else rest ++ [⟨src, kind, cls, ev, irq, hist⟩]
      (fixed ∨ 64 < (l.filter ReactEntry.differs).length → exec (.faultReaction .apply [w]) s = .next s) ∧
      (¬fixed → (l.filter ReactEntry.differs).length ≤ 64 → ∃ t, exec (.faultReaction .apply [w]) s = .next t ∧ t.flt.reacts = l ∧ t.flt.active = s.flt.active ∧ t.mem = s.mem ∧ journalled t (pack [(0x82, 8)]) w)) ∧
    (∀ (t : Nat) (m : FaultMsg), let z := s.goto t
      let c := defaultClass m.source m.kind
      let isOpen := ∃ e ∈ s.flt.active, e.src = m.source ∧ e.inst = m.inst ∧ e.kind = m.kind
      (m.sendable = false → exec (.faultMessageReceive t m) s = .next z) ∧
      (m.sendable = true → (m.source, m.kind) ∉ [(4, 1), (4, 2), (5, 2), (7, 1), (7, 2), (0x11, 2)] → s.reactOf m.source m.kind = none → ∃ u, exec (.faultMessageReceive t m) s = .next u ∧ u.mem = s.mem ∧ u.vent = s.vent ∧
        journalled u (pack [(m.source, 24), (m.inst, 16), (m.kind, 8), (c, 6)]) m.ctx ∧ u.flt.fatal = (s.flt.fatal || c == 3) ∧
        (s.flt.first = none → u.flt.firstOpen = true ∧ u.flt.firstAt = z.now ∧ u.flt.first.map (·.cls) = some c) ∧
        (c = 1 → u.flt.corrCount = min 65535 (s.flt.corrCount + 1) ∧ u.flt.active = s.flt.active ∧ u.host.intStatus.getLsbD 4 = true ∧ u.flt.hist = s.flt.hist ∧ u.sys = s.sys) ∧
        (c = 2 → ¬isOpen → s.flt.active.length < 256 → (∃ x, u.flt.active = s.flt.active ++ [x] ∧ (x.src, x.inst, x.kind, x.occur, x.opening.msgL) = (m.source, m.inst, m.kind, 1, m.ctx)) ∧ u.host.intStatus.getLsbD 3 = true ∧ u.sys = s.sys) ∧
        (c = 2 → ¬isOpen → 256 ≤ s.flt.active.length → u.flt.active = s.flt.active ∧ u.flt.actLost = true) ∧
        (c = 2 → isOpen → u.flt.active.length = s.flt.active.length ∧ u.host = s.host ∧ u.out = s.out) ∧
        (c = 3 → u.sys.phase = .halted ∧ u.sys.faultN = true ∧ u.pair.ka = false ∧ u.pair.hb = false ∧ u.pair.hand = none ∧ u.flt.active = s.flt.active ∧ u.host.intStatus.getLsbD 2 = true)) ∧
      (m.source = 4 → m.kind = 1 → m.inst < 64 → ∃ u, exec (.faultMessageReceive t m) s = .next u ∧ (u.core m.inst).eccCorr = min 65535 ((s.core m.inst).eccCorr + 1) ∧ ∀ n, n ≠ m.inst → u.core n = s.core n) ∧
      (s.flt.firstOpen = true → s.flt.firstAt + 200 ≤ z.now → exec (.firstFaultClose t) s = .next { z with flt := { s.flt with firstOpen := false } }) ∧
      (s.flt.firstOpen = false ∨ z.now < s.flt.firstAt + 200 → exec (.firstFaultClose t) s = .next z)) ∧
    (∀ (h : CmdHead) (w x : W32), s.admits h 0x02 [w, x] → fld w 31 1 = 0 → let a := s.arrived h
      let ch := a.chan h.chan
      let r := a.sendReply h.chan h.src 0x02 0 h.seq a.tick32 [(ch.expect.map (· - 1)).getD 0, ch.dev, ch.gaps, ((ch.evts.head?).map (·.getD 2 0)).getD (ch.dev + 1), w32 ch.evts.length] false
      exec (.seqQuery h [w, x]) s = .next (if bit w 0 then (ch.evts.filter (fun e => decide ((e.getD 2 0 - x).toNat < 2 ^ 31))).foldl (fun s e => s.deliverEvent h.chan e) r else r)) ∧
    (∀ (h : CmdHead) (w3 w4 : W32), s.takes h 0x20 [w3, w4] → bit w3 31 = true → fld w3 28 26 = 0 → (bit w3 29 = false → fld w3 15 0 = 0) → fld w4 31 16 = 0 → (bit w3 30 = false → fld w4 15 0 = 0) →
      ∃ t, exec (.mdioAccess h [w3, w4]) s = .next t ∧ t.mdio = s.mdio ++ [⟨.host h.chan h.src, h.seq, false, s.time.tick, w3, w4⟩] ∧ (s.mdio = [] → t.out = s.out ++ [.mdio w3 w4]) ∧ (s.mdio ≠ [] → t.out = s.out) ∧ t.mem = s.mem) ∧
    (∀ t data, (s.mdio = [] → exec (.mdioTransactionComplete t data) s = .next (s.goto t)) ∧ ∀ o rest, s.mdio = o :: rest → ∃ u, exec (.mdioTransactionComplete t data) s = .next u ∧ u.mdio = rest ∧ u.mem = s.mem ∧
      (rest = [] → u = ({ s.goto t with mdio := [] } : State).answer o.org 0x20 (if o.gap then 5 else 0) o.seq (w32 o.tick) [if bit o.w3 29 then w32 (fld o.w3 15 0) else data.zeroExtend 32] true)) ∧
    (∀ h p, s.takes h 0xA2 p → exec (.storeStatus h p) s = .next ((s.accepted h).sendReply h.chan h.src 0xA2 0 h.seq (s.accepted h).tick32 ((List.range 4).flatMap (s.accepted h).storeWords) true)) ∧
    (∀ (h : CmdHead) (r off : Nat) (fin : Bool) (ws : List W32), r < 4 → off < 2 ^ 32 → off % 4 = 0 → s.store.ops = [] → let p := pack [(r, 28), (b2n fin, 27)] :: w32 off :: ws
      let a := s.accepted h
      let wrong := r = 0 ∨ r = 3 ∨ (r = 2 ∧ (off ≠ 0 ∨ ws.length ≠ 192 ∨ fin = false)) ∨ (off ≠ 0 ∧ (s.sess r).map (·.next) ≠ some off)
      s.takes h 0xA0 p → (wrong → exec (.storeWrite h p) s = .next (a.sendReply h.chan h.src 0xA0 9 h.seq (w32 s.time.tick) [] true)) ∧
        (¬wrong → off = 0 → 4 * ws.length ≤ bankCap r → ∃ t, exec (.storeWrite h p) s = .next t ∧ let g := s.store.target r
          t.sess r = some ⟨g.1, g.2, 0, s.time.tick⟩ ∧ (t.store.region r).bank g.1 = Bank.erased ∧ (t.store.region r).bank (!g.1) = (s.store.region r).bank (!g.1) ∧
          t.store.ops = [⟨.chunk 0xA0 r 0 ws fin false, 0xA0, some (.host h.chan h.src), h.seq, false, s.time.tick, true⟩] ∧ t.mem = s.mem)) ∧
    (∀ (h : CmdHead) (fin adv : Bool) (ws : List W32), s.store.ops = [] → 4 * ws.length ≤ bankCap 0 → let p := pack [(b2n fin, 27), (b2n adv, 26)] :: 0 :: ws
      s.takes h 0xA4 p → ∃ t, exec (.fwUpdate h p) s = .next t ∧ t.sess 0 = some ⟨(s.store.target 0).1, (s.store.target 0).2, 0, s.time.tick⟩ ∧
        t.store.ops = [⟨.chunk 0xA4 0 0 ws fin (fin && adv), 0xA4, some (.host h.chan h.src), h.seq, false, s.time.tick, true⟩] ∧ t.sys.fuses = s.sys.fuses ∧ t.mem = s.mem) ∧
    (∀ (h : CmdHead) (r off n : Nat), r < 4 → off < 2 ^ 32 → off % 4 = 0 → 0 < n → n ≤ 1018 → let p := [pack [(r, 28)], w32 off, w32 n]
      s.takes h 0xA1 p → (s.store.ops = [] → ∃ t, exec (.storeRead h p) s = .next t ∧ t.store = { s.store with ops := [⟨.read r off n, 0xA1, some (.host h.chan h.src), h.seq, false, s.time.tick, true⟩] } ∧ t.mem = s.mem) ∧
        (∀ o rest, s.store.ops = o :: rest → o.started = true → ∃ t, exec (.storeRead h p) s = .next t ∧
          t.store = { s.store with ops := s.store.ops ++ [⟨.read r off n, 0xA1, some (.host h.chan h.src), h.seq, false, s.time.tick, false⟩] })) ∧
    (∀ r, r < 4 → let g := s.store.region r
      let d := (g.a.seq - g.b.seq).toNat
      (g.a.valid r = true → g.b.valid r = true → s.store.contentBank r = some (decide (2 ^ 31 < d)) ∧ (s.store.target r).1 = decide (d ≤ 2 ^ 31)) ∧
      (g.a.valid r = true → g.b.valid r = false → s.store.contentBank r = some false ∧ s.store.target r = (true, g.a.seq + 1)) ∧
      (g.a.valid r = false → g.b.valid r = true → s.store.contentBank r = some true ∧ s.store.target r = (false, g.b.seq + 1)) ∧
      (g.a.valid r = false → g.b.valid r = false → s.store.contentBank r = none ∧ s.store.target r = (false, 1))) ∧
    (∀ t b, (s.sys.ctrlAlive = false ∨ s.store.ops = [] → exec (.flashOperationComplete t b) s = .next (s.goto t) ∧ exec (.flashOperationTimeout t) s = .next (s.goto t)) ∧
      (∀ (r : Nat) (o : FlashOp) (off : Nat) (ws : List W32) (fin adv : Bool) (x : Session), 1 ≤ r → r < 4 → r ≠ 2 → s.classNow 0x12 0x22 < 3 → s.sys.ctrlAlive = true → s.store.ops = [o] → o.job = .chunk 0xA0 r off ws fin adv → s.sess r = some x →
        let old := (s.store.region r).bank x.toB
        let pl := old.payload.take (off / 4) ++ ws
        ∃ u, exec (.flashOperationComplete t b) s = .next u ∧ u.store.ops = [] ∧ (u.store.region r).bank (!x.toB) = (s.store.region r).bank (!x.toB) ∧ u.mem = s.mem ∧
          (fin = false → u.sess r = some { x with next := 4 * pl.length, lastTick := s.time.tick } ∧ (u.store.region r).bank x.toB = { old with payload := pl }) ∧
          (fin = true → b = true → u.sess r = none ∧ (u.store.region r).bank x.toB = ⟨bankMagic r, x.seq, w32 (4 * pl.length), headerCrc (bankMagic r) x.seq (w32 (4 * pl.length)) pl, pl⟩) ∧
          (fin = true → b = false → u.sess r = none ∧ ((u.store.region r).bank x.toB).valid r = false ∧ journalled u (pack [(0x12, 24), (r, 16), (0x22, 8), (s.classNow 0x12 0x22, 6)]) (pack [(b2n x.toB, 31), (3, 24)]))) ∧
      (∀ (r : Nat) (o : FlashOp) (off : Nat) (ws : List W32) (fin adv : Bool), s.sys.ctrlAlive = true → s.store.ops = [o] → o.job = .chunk 0xA0 r off ws fin adv → ∃ u, exec (.flashOperationTimeout t) s = .next u ∧
        u.store.ops = [] ∧ u.store.regions = s.store.regions ∧ u.mem = s.mem) ∧
      (∀ (o : FlashOp) (q : Pend) (n : Nat) (body : List W32), s.sys.ctrlAlive = true → s.store.ops = [o] → o.job = .scene q n → s.store.record 2 n = some (some body) → s.time.tick < q.target → ∃ u, exec (.flashOperationComplete t b) s = .next u ∧
        u.host.cmds = s.host.cmds ++ [{ q with par := [q.par.headD 0, 0] ++ body }] ∧ u.store.regions = s.store.regions ∧ u.store.ops = [])) ∧
    (∀ t r, r < 4 → (∀ x, s.sess r = some x → x.lastTick + 240000 ≤ s.time.tick → exec (.storeSessionTimeout t r) s = .next ((s.goto t).setSess r none)) ∧
      ((∀ x, s.sess r = some x → s.time.tick < x.lastTick + 240000) → exec (.storeSessionTimeout t r) s = .next (s.goto t))) ∧
    (∀ n, 0 < n → n < 64 → exec (.sceneLoad .apply [w32 n, 1]) s = .next s ∧ exec (.sceneLoad .apply [w32 n, 2]) s = .next s ∧ ∀ body : List W32, let l := splitPackets body.length body
      (∀ e, scenePackets 0 l s = .inl e → exec (.sceneLoad .apply (w32 n :: 0 :: body)) s = .next s) ∧
      (∀ u, scenePackets 0 l s = .inr u → ∃ t, exec (.sceneLoad .apply (w32 n :: 0 :: body)) s = .next t ∧ t.pair.cfgVer = s.pair.cfgVer + w32 l.length ∧ t.sys.phase ≠ .ready ∧
        t.mem = u.mem ∧ t.route = u.route ∧ t.cald = u.cald ∧ t.vent = u.vent ∧ t.gey = u.gey ∧ t.tdm = u.tdm ∧ t.net = u.net ∧ t.strm = u.strm))

/-- BLOCK_RESET, island power, cold and warm reset, release, boot, supply and thermal monitors, watchdog, IO supplies
and fuses (R432, R449, R466, R467, R471, R473, R475, R476, R478, R479, R480, R481). -/
def Obligations.ResetsBootPowerAndSensors : Prop :=
  ∀ s : State, s.sys.islands.length = 16 → s.sys.sensors.length = 8 → s.sys.fuses.length = 19 → s.vent.cores.length = 64 →
    let journalled (u : State) (h l : W32) : Prop := ∃ r ∈ u.flt.journal, r.msgH = h ∧ r.msgL = l
    (∀ b first last, b < 256 → first < 256 → last < 256 → let w := pack [(b, 24), (first, 8), (last, 0)]
      (last < first ∨ blockCount b ≤ last → exec (.blockReset .apply [w]) s = .next ((s.hostError .pcie).keepBack s 4 [w]).applied) ∧
      (first ≤ last → last < blockCount b → (∃ i ∈ blockIslands b first last, s.islandOn i = false) → exec (.blockReset .apply [w]) s = .next s) ∧
      (first ≤ last → last < blockCount b → (∀ i ∈ blockIslands b first last, s.islandOn i = true) → ∃ t, exec (.blockReset .apply [w]) s = .next t ∧ t.pair.cfgVer = (s.resetBlock b first last).pair.cfgVer + 1 ∧
        (b = 0 → t.sys.warmAt = some (s.time.mono - s.time.sub + 20000) ∧ t.mem = s.mem) ∧
        (b = 1 → ∀ n, n < 64 → (first ≤ n → n ≤ last → (t.core n).st = .stopped ∧ (t.core n).main = RegSet.init ∧ (t.core n).params = []) ∧ (n < first ∨ last < n → t.core n = s.core n)) ∧
        (b = 2 → t.cald.shape = s.cald.shape ∧ t.cald.version = s.cald.version + 1 ∧ t.meter = MeterBlk.init ∧ t.mem = s.mem) ∧
        (b = 10 → ∀ c ∈ t.dma, c.st = .idle ∧ c.result = 0) ∧
        (b = 11 → t.cond.locks = [] ∧ t.cond.broken = [] ∧ ∀ c ∈ t.dma, c.st = .idle))) ∧
    (∀ (i : Nat) (on : Bool), i < 16 → let w := pack [(b2n on, 31), (2 ^ i, 0)]
      let x := s.island i
      let armed := ∃ g ∈ s.gey.groups, g.st ≠ .disarmed ∧ g.st ≠ .fault
      let barred := s.switchable i = false ∨ (on = false ∧ (i = 12 ∨ i = 13) ∧ armed)
      (barred → exec (.powerDomain .apply [w]) s = .next s) ∧
      (¬barred → ∃ t, exec (.powerDomain .apply [w]) s = .next t ∧ t.mem = s.mem ∧ t.gey = s.gey ∧ t.vent = s.vent ∧ t.pair.cfgVer = s.pair.cfgVer + 1 ∧ t.sys.islands.length = 16 ∧ (∀ j, j ≠ i → t.island j = s.island j) ∧
        (x.pwr = .off → on = true → t.island i = ⟨.starting, s.time.tick, none⟩) ∧ (x.pwr = .on → on = false → t.island i = ⟨.draining, s.time.tick, none⟩) ∧
        ((x.pwr = .off ∧ on = false) ∨ (x.pwr = .on ∧ on = true) → t.island i = x) ∧
        (x.pwr = .starting → t.island i = { x with wait := if on then none else some false }) ∧
        (x.pwr = .draining → t.island i = { x with wait := if on then some true else none }))) ∧
    (∀ t i forced, i < 16 → let z := s.goto t
      let x := s.island i
      let n := max forced (s.cond.reqs.filter (fun r => r.ofIsland i)).length
      (x.pwr ≠ .draining ∨ (n ≠ 0 ∧ z.now < boundaryNs x.since + 100000) → exec (.islandDrainComplete t i forced) s = .next z) ∧
      (x.pwr = .draining → n = 0 ∨ boundaryNs x.since + 100000 ≤ z.now → ∃ u, exec (.islandDrainComplete t i forced) s = .next u ∧ u.island i = { x with pwr := .off, since := s.time.tick } ∧ (∀ j, j ≠ i → u.island j = s.island j) ∧
        (∀ r ∈ u.cond.reqs, r.ofIsland i = false) ∧ (∀ l ∈ u.cond.locks, l.ofIsland i = false) ∧ (i ≠ 15 → (i < 4 ∨ 7 < i) → u.mem = s.mem) ∧
        (n ≠ 0 → journalled u (pack [(0x14, 24), (i, 16), (4, 8), (s.classNow 0x14 4, 6)]) (w32 n)))) ∧
    (∀ i, i < 16 → let x := s.island i
      (x.pwr ≠ .starting → exec (.islandStartComplete i) s = .next s) ∧
      (x.pwr = .starting → ∃ u, exec (.islandStartComplete i) s = .next u ∧ u.island i = { x with pwr := .on, since := s.time.tick } ∧ (∀ j, j ≠ i → u.island j = s.island j) ∧
        (i = 13 → u.dec = DecBlk.init ∧ u.mem = s.mem) ∧ (i = 14 → u.tdm = TdmBlk.init ∧ u.mem = s.mem) ∧ (i = 8 → u.meter = MeterBlk.init ∧ u.cald.shape = s.cald.shape ∧ u.mem = s.mem) ∧
        (i = 12 → u.gey.groups = GeyBlk.init.groups ∧ u.mem = s.mem) ∧ (4 ≤ i → i ≤ 7 → ∀ n, n < 64 → u.core n = if 4 + n / 16 = i then Core.init else s.core n))) ∧
    (∃ z, exec .coldReset s = .next z ∧ z.sys.phase = .reset ∧ z.sys.resetKind = 1 ∧ z.store.regions = s.store.regions ∧ z.sys.fuses = s.sys.fuses ∧ z.sys.grade = s.sys.grade ∧ z.sys.dieId = s.sys.dieId ∧ z.sys.extGiB = s.sys.extGiB ∧
      z.mem = [] ∧ z.flt = State.reset.flt ∧ z.host = State.reset.host ∧ z.time = State.reset.time ∧ z.pending = s.pending ∧ exec .pwrgdFall s = .next { z with sys := { z.sys with pwrgd := false } }) ∧
    ((s.sys.pwrgd = false → exec .warmReset s = .next s) ∧ (s.sys.pwrgd = true → ∃ z, exec .warmReset s = .next z ∧ z.sys.phase = .reset ∧ z.sys.resetKind = (if (s.sys.warmAt.map (fun a => decide (a ≤ s.time.mono))) = some true then 3 else 2) ∧
      z.flt = { s.flt with active := [], reacts := [], evtInTick := 0 } ∧ z.store.regions = s.store.regions ∧ z.sys.fuses = s.sys.fuses ∧ z.mem = [] ∧ z.time = State.reset.time ∧ z.host.cmds = [] ∧ z.sys.sensors.map (·.high) = s.sys.sensors.map (·.high))) ∧
    (∀ boot role host vddioA, (s.sys.phase ≠ .reset → exec (.resetRelease boot role host vddioA) s = .next s) ∧ (s.sys.phase = .reset → ∃ u, exec (.resetRelease boot role host vddioA) s = .next u ∧ u.sys.phase = .boot ∧
      u.sys.bootSel = boot % 4 ∧ u.sys.pairRole = role % 4 ∧ u.sys.hostSel = host ∧ (u.pair.owner = true ↔ role % 4 = 0 ∨ role % 4 = 3) ∧ u.mem = s.mem ∧ u.store = s.store ∧
      (∀ i, i < 16 → (u.island i).pwr = if (i = 11 ∧ (role % 4 = 0 ∨ role % 4 = 3)) ∨ (i = 15 ∧ s.sys.extGiB = 0) then .off else .on) ∧ journalled u (pack [(0x80, 8)]) (if s.sys.resetKind = 1 then 1 else 2))) ∧
    (∀ t, let z := s.goto t
      (s.sys.phase ≠ .boot → exec (.bootComplete t) s = .next z) ∧ ((s.pcieDownload = true ∨ s.spiDownload = true) → s.sys.dlBytes = none → exec (.bootComplete t) s = .next z) ∧
      (s.sys.phase = .boot → s.sys.bootSel = 0 → ∃ u, exec (.bootComplete t) s = .next u ∧ let calm := s.classNow 0x12 0x22 < 3 ∧ s.classNow 0x0E 0x13 < 3
        let fails (b : Bool) : Nat := imageFails s.sys.fuses (bankCap 0) (s.bankImage b)
        let dead (f g : Nat) : Prop := u.sys.phase = .halted ∧ u.sys.faultN = true ∧ journalled u (pack [(0x12, 24), (0x23, 8), (3, 6)]) (pack [(f, 0), (g, 4)]);
        (s.store.contentBank 0 = none → s.reactOf 0x12 0x23 = none → dead 0 0) ∧
        (∀ c, s.store.contentBank 0 = some c → (fails c = 0 → calm → u.sys.phase = .ready ∧ u.sys.slotB = c ∧ u.sys.fallback = false ∧ u.sys.downloaded = false ∧ u.sys.fwSvn = (s.bankImage c).getD 2 0) ∧
          (fails c ≠ 0 → ((s.store.region 0).bank (!c)).valid 0 = true → fails (!c) = 0 → calm → u.sys.phase = .ready ∧ u.sys.slotB = !c ∧ u.sys.fallback = true) ∧
          (fails c ≠ 0 → ((s.store.region 0).bank (!c)).valid 0 = false → s.reactOf 0x12 0x23 = none → dead (fails c) 0) ∧
          (fails c ≠ 0 → ((s.store.region 0).bank (!c)).valid 0 = true → fails (!c) ≠ 0 → s.reactOf 0x12 0x23 = none → dead (fails c) (fails (!c)))))) ∧
    (∀ t index supply mv, index < 7 → supply = 0 ∨ (index = 4 ∧ supply = 1) → let z := s.goto t
      let lim : Nat × Nat := [(69000, 81000), (74000, 86000), (84000, 96000), (112000, 128000), (if supply = 0 then (46500, 53500) else (97650, 112350)), (167000, 193000), (93 * s.sys.vddioA, 107 * s.sys.vddioA)].getD index (0, 0)
      (s.sys.phase = .reset ∨ (lim.1 ≤ 100 * mv ∧ 100 * mv ≤ lim.2) → exec (.supplyFault t index supply mv) s = .next z) ∧
      (s.sys.phase ≠ .reset → 100 * mv < lim.1 ∨ lim.2 < 100 * mv → s.reactOf 0x14 0x20 = none → ∃ u, exec (.supplyFault t index supply mv) s = .next u ∧ u.sys.phase = .halted ∧ u.sys.faultN = true ∧ u.pair.ka = false ∧ u.mem = s.mem ∧
        journalled u (pack [(0x14, 24), (index, 16), (0x20, 8), (3, 6)]) (pack [(supply, 16), (mv % 65536, 0)]))) ∧
    (∀ (t : Nat) (temps : List Int), temps.length = 8 → (s.sys.phase = .reset → exec (.thermalSample t temps) s = .next (s.goto t)) ∧ (s.sys.phase ≠ .reset → ∃ u, exec (.thermalSample t temps) s = .next u ∧ u.mem = s.mem ∧ u.sys.sensors.length = 8 ∧
      let lim : Int × Int × Int := if s.sys.grade = 0 then (950, 900, 1100) else (1000, 950, 1150)
      ∀ i, i < 8 → let a := s.sys.sensors.getD i Sensor.init
        let b := u.sys.sensors.getD i Sensor.init
        let v := temps.getD i 0
        b.now = v ∧ b.high = max a.high v ∧ b.crit = (if lim.2.2 ≤ v then a.crit + 1 else 0) ∧ (a.warn = false → (b.warn = true ↔ lim.1 ≤ v)) ∧ (a.warn = true → (b.warn = true ↔ lim.2.1 < v)) ∧
        (a.warn = false → b.warn = true → journalled u (pack [(0x15, 24), (i, 16), (0x1E, 8), (s.classNow 0x15 0x1E, 6)]) (pack [(code 16 v, 0)]) ∧ journalled u (pack [(0xEB, 8)]) (pack [(1, 28), (i, 0)])) ∧
        (a.warn = true → b.warn = false → journalled u (pack [(0xEB, 8)]) (pack [(2, 28), (i, 0)])) ∧
        (b.crit = 4 → s.reactOf 0x15 0x1F = none → u.sys.phase = .halted ∧ journalled u (pack [(0x15, 24), (i, 16), (0x1F, 8), (3, 6)]) (pack [(code 16 v, 0)])))) ∧
    (∀ t, (s.sys.phase = .reset ∨ s.sys.ctrlAlive = false → exec (.ctrlWatchdog t) s = .next (s.goto t)) ∧ (s.sys.phase ≠ .reset → s.sys.ctrlAlive = true → s.reactOf 1 0x21 = none → ∃ u, exec (.ctrlWatchdog t) s = .next u ∧
      u.sys.ctrlAlive = false ∧ u.sys.phase = .halted ∧ u.store = s.store ∧ u.mem = s.mem ∧ journalled u (pack [(1, 24), (0x21, 8), (3, 6)]) 0)) ∧
    (∀ m, ∃ u, exec (.ioSupplyLoss m) s = .next u ∧ u.mem = s.mem ∧ (∀ g, u.drives g m = false) ∧ (∀ g, u.drives g (!m) = s.drives g (!m)) ∧ u.pair = s.pair) ∧
    (∀ words, (bit (s.sys.fuses.getD 18 0) 3 = true → exec (.fuseProgramming words) s = .next s) ∧ (bit (s.sys.fuses.getD 18 0) 3 = false → ∃ u, exec (.fuseProgramming words) s = .next u ∧ u.mem = s.mem ∧ u.store = s.store ∧
      (∀ i, i < 16 → u.sys.fuses.getD i 0 = s.sys.fuses.getD i 0 ||| words.getD i 0) ∧ (∀ i, i = 16 ∨ i = 17 → u.sys.fuses.getD i 0 = s.sys.fuses.getD i 0) ∧ u.sys.fuses.getD 18 0 = s.sys.fuses.getD 18 0 ||| (words.getD 18 0 &&& 0x1F)))

/-- Every well-formed command answers a next state in every state; nothing else but a unit that the engine has not ends
in a fault (R33, R36, R38, R148, R437, R487). -/
def Obligations.WellFormedCommandsAnswerNext : Prop :=
  (∀ (i : Instr) (s : State), i.wf = true → ∃ t, exec i s = .next t) ∧ (∀ (i : Instr) (s : State), (∃ t, exec i s = .next t) ∨ exec i s = .fault .noSuchUnit) ∧
    (∀ (s : State) (t : Nat), (∀ n, 64 ≤ n → exec (.ventStripStart t n) s = .fault .noSuchUnit ∧ exec (.ventPostStart t n) s = .fault .noSuchUnit ∧ ∀ r, exec (.vMnop n r) s = .fault .noSuchUnit) ∧
      (∀ n f, 3 ≤ n → exec (.frameReceive t n f) s = .fault .noSuchUnit ∧ exec (.frameTransmit t n) s = .fault .noSuchUnit ∧ exec (.linkDown t n) s = .fault .noSuchUnit) ∧
      (∀ n h, 192 ≤ n → exec (.overcurrentTrip t n h) s = .fault .noSuchUnit) ∧ (∀ n, 24 ≤ n → exec (.psFltAssert t n) s = .fault .noSuchUnit ∧ exec (.stageReady n) s = .fault .noSuchUnit) ∧
      (∀ n k, 16 ≤ n → exec (.islandDrainComplete t n k) s = .fault .noSuchUnit ∧ exec (.triggerFire t n) s = .fault .noSuchUnit) ∧ (∀ n, 32 ≤ n → exec (.dmaDescriptorComplete t n) s = .fault .noSuchUnit ∧ exec (.heartbeatSend t n) s = .fault .noSuchUnit))
end

