-- ==== Sys2Proof/Laws/State.lean ====
section
/-! SUPPORT. What an update of one part of the state leaves: one lemma per update and field, so that no proof unfolds a
record update. -/

namespace Sys2Proof.Machine
open Sys2Proof

/-! ## emit -/

@[simp] theorem State.emit_pending (s : State) (o : Out) : (s.emit o).pending = s.pending := rfl
@[simp] theorem State.emit_fresh (s : State) (o : Out) : (s.emit o).fresh = s.fresh := rfl
@[simp] theorem State.emit_unpred (s : State) (o : Out) : (s.emit o).unpred = s.unpred := rfl
@[simp] theorem State.emit_sys (s : State) (o : Out) : (s.emit o).sys = s.sys := rfl
@[simp] theorem State.emit_time (s : State) (o : Out) : (s.emit o).time = s.time := rfl
@[simp] theorem State.emit_ref (s : State) (o : Out) : (s.emit o).ref = s.ref := rfl
@[simp] theorem State.emit_host (s : State) (o : Out) : (s.emit o).host = s.host := rfl
@[simp] theorem State.emit_flt (s : State) (o : Out) : (s.emit o).flt = s.flt := rfl
@[simp] theorem State.emit_route (s : State) (o : Out) : (s.emit o).route = s.route := rfl
@[simp] theorem State.emit_aud (s : State) (o : Out) : (s.emit o).aud = s.aud := rfl
@[simp] theorem State.emit_cald (s : State) (o : Out) : (s.emit o).cald = s.cald := rfl
@[simp] theorem State.emit_meter (s : State) (o : Out) : (s.emit o).meter = s.meter := rfl
@[simp] theorem State.emit_vent (s : State) (o : Out) : (s.emit o).vent = s.vent := rfl
@[simp] theorem State.emit_dec (s : State) (o : Out) : (s.emit o).dec = s.dec := rfl
@[simp] theorem State.emit_gey (s : State) (o : Out) : (s.emit o).gey = s.gey := rfl
@[simp] theorem State.emit_tdm (s : State) (o : Out) : (s.emit o).tdm = s.tdm := rfl
@[simp] theorem State.emit_net (s : State) (o : Out) : (s.emit o).net = s.net := rfl
@[simp] theorem State.emit_strm (s : State) (o : Out) : (s.emit o).strm = s.strm := rfl
@[simp] theorem State.emit_pair (s : State) (o : Out) : (s.emit o).pair = s.pair := rfl
@[simp] theorem State.emit_cond (s : State) (o : Out) : (s.emit o).cond = s.cond := rfl
@[simp] theorem State.emit_dma (s : State) (o : Out) : (s.emit o).dma = s.dma := rfl
@[simp] theorem State.emit_store (s : State) (o : Out) : (s.emit o).store = s.store := rfl
@[simp] theorem State.emit_mdio (s : State) (o : Out) : (s.emit o).mdio = s.mdio := rfl
@[simp] theorem State.emit_back (s : State) (o : Out) : (s.emit o).back = s.back := rfl
@[simp] theorem State.emit_lateOps (s : State) (o : Out) : (s.emit o).lateOps = s.lateOps := rfl
@[simp] theorem State.emit_mem (s : State) (o : Out) : (s.emit o).mem = s.mem := rfl

/-! ## setPort -/

@[simp] theorem State.setPort_pending (s : State) (i : Nat) (p : Port) : (s.setPort i p).pending = s.pending := rfl
@[simp] theorem State.setPort_fresh (s : State) (i : Nat) (p : Port) : (s.setPort i p).fresh = s.fresh := rfl
@[simp] theorem State.setPort_out (s : State) (i : Nat) (p : Port) : (s.setPort i p).out = s.out := rfl
@[simp] theorem State.setPort_unpred (s : State) (i : Nat) (p : Port) : (s.setPort i p).unpred = s.unpred := rfl
@[simp] theorem State.setPort_sys (s : State) (i : Nat) (p : Port) : (s.setPort i p).sys = s.sys := rfl
@[simp] theorem State.setPort_time (s : State) (i : Nat) (p : Port) : (s.setPort i p).time = s.time := rfl
@[simp] theorem State.setPort_ref (s : State) (i : Nat) (p : Port) : (s.setPort i p).ref = s.ref := rfl
@[simp] theorem State.setPort_host (s : State) (i : Nat) (p : Port) : (s.setPort i p).host = s.host := rfl
@[simp] theorem State.setPort_flt (s : State) (i : Nat) (p : Port) : (s.setPort i p).flt = s.flt := rfl
@[simp] theorem State.setPort_route (s : State) (i : Nat) (p : Port) : (s.setPort i p).route = s.route := rfl
@[simp] theorem State.setPort_aud (s : State) (i : Nat) (p : Port) : (s.setPort i p).aud = s.aud := rfl
@[simp] theorem State.setPort_cald (s : State) (i : Nat) (p : Port) : (s.setPort i p).cald = s.cald := rfl
@[simp] theorem State.setPort_meter (s : State) (i : Nat) (p : Port) : (s.setPort i p).meter = s.meter := rfl
@[simp] theorem State.setPort_vent (s : State) (i : Nat) (p : Port) : (s.setPort i p).vent = s.vent := rfl
@[simp] theorem State.setPort_dec (s : State) (i : Nat) (p : Port) : (s.setPort i p).dec = s.dec := rfl
@[simp] theorem State.setPort_gey (s : State) (i : Nat) (p : Port) : (s.setPort i p).gey = s.gey := rfl
@[simp] theorem State.setPort_tdm (s : State) (i : Nat) (p : Port) : (s.setPort i p).tdm = s.tdm := rfl
@[simp] theorem State.setPort_strm (s : State) (i : Nat) (p : Port) : (s.setPort i p).strm = s.strm := rfl
@[simp] theorem State.setPort_pair (s : State) (i : Nat) (p : Port) : (s.setPort i p).pair = s.pair := rfl
@[simp] theorem State.setPort_cond (s : State) (i : Nat) (p : Port) : (s.setPort i p).cond = s.cond := rfl
@[simp] theorem State.setPort_dma (s : State) (i : Nat) (p : Port) : (s.setPort i p).dma = s.dma := rfl
@[simp] theorem State.setPort_store (s : State) (i : Nat) (p : Port) : (s.setPort i p).store = s.store := rfl
@[simp] theorem State.setPort_mdio (s : State) (i : Nat) (p : Port) : (s.setPort i p).mdio = s.mdio := rfl
@[simp] theorem State.setPort_back (s : State) (i : Nat) (p : Port) : (s.setPort i p).back = s.back := rfl
@[simp] theorem State.setPort_lateOps (s : State) (i : Nat) (p : Port) : (s.setPort i p).lateOps = s.lateOps := rfl
@[simp] theorem State.setPort_mem (s : State) (i : Nat) (p : Port) : (s.setPort i p).mem = s.mem := rfl

/-! ## countPort -/

@[simp] theorem State.countPort_pending (s : State) (i c n : Nat) : (s.countPort i c n).pending = s.pending := rfl
@[simp] theorem State.countPort_fresh (s : State) (i c n : Nat) : (s.countPort i c n).fresh = s.fresh := rfl
@[simp] theorem State.countPort_out (s : State) (i c n : Nat) : (s.countPort i c n).out = s.out := rfl
@[simp] theorem State.countPort_unpred (s : State) (i c n : Nat) : (s.countPort i c n).unpred = s.unpred := rfl
@[simp] theorem State.countPort_sys (s : State) (i c n : Nat) : (s.countPort i c n).sys = s.sys := rfl
@[simp] theorem State.countPort_time (s : State) (i c n : Nat) : (s.countPort i c n).time = s.time := rfl
@[simp] theorem State.countPort_ref (s : State) (i c n : Nat) : (s.countPort i c n).ref = s.ref := rfl
@[simp] theorem State.countPort_host (s : State) (i c n : Nat) : (s.countPort i c n).host = s.host := rfl
@[simp] theorem State.countPort_flt (s : State) (i c n : Nat) : (s.countPort i c n).flt = s.flt := rfl
@[simp] theorem State.countPort_route (s : State) (i c n : Nat) : (s.countPort i c n).route = s.route := rfl
@[simp] theorem State.countPort_aud (s : State) (i c n : Nat) : (s.countPort i c n).aud = s.aud := rfl
@[simp] theorem State.countPort_cald (s : State) (i c n : Nat) : (s.countPort i c n).cald = s.cald := rfl
@[simp] theorem State.countPort_meter (s : State) (i c n : Nat) : (s.countPort i c n).meter = s.meter := rfl
@[simp] theorem State.countPort_vent (s : State) (i c n : Nat) : (s.countPort i c n).vent = s.vent := rfl
@[simp] theorem State.countPort_dec (s : State) (i c n : Nat) : (s.countPort i c n).dec = s.dec := rfl
@[simp] theorem State.countPort_gey (s : State) (i c n : Nat) : (s.countPort i c n).gey = s.gey := rfl
@[simp] theorem State.countPort_tdm (s : State) (i c n : Nat) : (s.countPort i c n).tdm = s.tdm := rfl
@[simp] theorem State.countPort_strm (s : State) (i c n : Nat) : (s.countPort i c n).strm = s.strm := rfl
@[simp] theorem State.countPort_pair (s : State) (i c n : Nat) : (s.countPort i c n).pair = s.pair := rfl
@[simp] theorem State.countPort_cond (s : State) (i c n : Nat) : (s.countPort i c n).cond = s.cond := rfl
@[simp] theorem State.countPort_dma (s : State) (i c n : Nat) : (s.countPort i c n).dma = s.dma := rfl
@[simp] theorem State.countPort_store (s : State) (i c n : Nat) : (s.countPort i c n).store = s.store := rfl
@[simp] theorem State.countPort_mdio (s : State) (i c n : Nat) : (s.countPort i c n).mdio = s.mdio := rfl
@[simp] theorem State.countPort_back (s : State) (i c n : Nat) : (s.countPort i c n).back = s.back := rfl
@[simp] theorem State.countPort_lateOps (s : State) (i c n : Nat) : (s.countPort i c n).lateOps = s.lateOps := rfl
@[simp] theorem State.countPort_mem (s : State) (i c n : Nat) : (s.countPort i c n).mem = s.mem := rfl

/-! ## setCore -/

@[simp] theorem State.setCore_pending (s : State) (n : Nat) (c : Core) : (s.setCore n c).pending = s.pending := rfl
@[simp] theorem State.setCore_fresh (s : State) (n : Nat) (c : Core) : (s.setCore n c).fresh = s.fresh := rfl
@[simp] theorem State.setCore_out (s : State) (n : Nat) (c : Core) : (s.setCore n c).out = s.out := rfl
@[simp] theorem State.setCore_unpred (s : State) (n : Nat) (c : Core) : (s.setCore n c).unpred = s.unpred := rfl
@[simp] theorem State.setCore_sys (s : State) (n : Nat) (c : Core) : (s.setCore n c).sys = s.sys := rfl
@[simp] theorem State.setCore_time (s : State) (n : Nat) (c : Core) : (s.setCore n c).time = s.time := rfl
@[simp] theorem State.setCore_ref (s : State) (n : Nat) (c : Core) : (s.setCore n c).ref = s.ref := rfl
@[simp] theorem State.setCore_host (s : State) (n : Nat) (c : Core) : (s.setCore n c).host = s.host := rfl
@[simp] theorem State.setCore_flt (s : State) (n : Nat) (c : Core) : (s.setCore n c).flt = s.flt := rfl
@[simp] theorem State.setCore_route (s : State) (n : Nat) (c : Core) : (s.setCore n c).route = s.route := rfl
@[simp] theorem State.setCore_aud (s : State) (n : Nat) (c : Core) : (s.setCore n c).aud = s.aud := rfl
@[simp] theorem State.setCore_cald (s : State) (n : Nat) (c : Core) : (s.setCore n c).cald = s.cald := rfl
@[simp] theorem State.setCore_meter (s : State) (n : Nat) (c : Core) : (s.setCore n c).meter = s.meter := rfl
@[simp] theorem State.setCore_dec (s : State) (n : Nat) (c : Core) : (s.setCore n c).dec = s.dec := rfl
@[simp] theorem State.setCore_gey (s : State) (n : Nat) (c : Core) : (s.setCore n c).gey = s.gey := rfl
@[simp] theorem State.setCore_tdm (s : State) (n : Nat) (c : Core) : (s.setCore n c).tdm = s.tdm := rfl
@[simp] theorem State.setCore_net (s : State) (n : Nat) (c : Core) : (s.setCore n c).net = s.net := rfl
@[simp] theorem State.setCore_strm (s : State) (n : Nat) (c : Core) : (s.setCore n c).strm = s.strm := rfl
@[simp] theorem State.setCore_pair (s : State) (n : Nat) (c : Core) : (s.setCore n c).pair = s.pair := rfl
@[simp] theorem State.setCore_cond (s : State) (n : Nat) (c : Core) : (s.setCore n c).cond = s.cond := rfl
@[simp] theorem State.setCore_dma (s : State) (n : Nat) (c : Core) : (s.setCore n c).dma = s.dma := rfl
@[simp] theorem State.setCore_store (s : State) (n : Nat) (c : Core) : (s.setCore n c).store = s.store := rfl
@[simp] theorem State.setCore_mdio (s : State) (n : Nat) (c : Core) : (s.setCore n c).mdio = s.mdio := rfl
@[simp] theorem State.setCore_back (s : State) (n : Nat) (c : Core) : (s.setCore n c).back = s.back := rfl
@[simp] theorem State.setCore_lateOps (s : State) (n : Nat) (c : Core) : (s.setCore n c).lateOps = s.lateOps := rfl
@[simp] theorem State.setCore_mem (s : State) (n : Nat) (c : Core) : (s.setCore n c).mem = s.mem := rfl

/-! ## putOut -/

@[simp] theorem State.putOut_pending (s : State) (k : Nat) (x : List Sample) : (s.putOut k x).pending = s.pending := rfl
@[simp] theorem State.putOut_fresh (s : State) (k : Nat) (x : List Sample) : (s.putOut k x).fresh = s.fresh := rfl
@[simp] theorem State.putOut_out (s : State) (k : Nat) (x : List Sample) : (s.putOut k x).out = s.out := rfl
@[simp] theorem State.putOut_unpred (s : State) (k : Nat) (x : List Sample) : (s.putOut k x).unpred = s.unpred := rfl
@[simp] theorem State.putOut_sys (s : State) (k : Nat) (x : List Sample) : (s.putOut k x).sys = s.sys := rfl
@[simp] theorem State.putOut_time (s : State) (k : Nat) (x : List Sample) : (s.putOut k x).time = s.time := rfl
@[simp] theorem State.putOut_ref (s : State) (k : Nat) (x : List Sample) : (s.putOut k x).ref = s.ref := rfl
@[simp] theorem State.putOut_host (s : State) (k : Nat) (x : List Sample) : (s.putOut k x).host = s.host := rfl
@[simp] theorem State.putOut_flt (s : State) (k : Nat) (x : List Sample) : (s.putOut k x).flt = s.flt := rfl
@[simp] theorem State.putOut_route (s : State) (k : Nat) (x : List Sample) : (s.putOut k x).route = s.route := rfl
@[simp] theorem State.putOut_aud (s : State) (k : Nat) (x : List Sample) : (s.putOut k x).aud = s.aud := rfl
@[simp] theorem State.putOut_cald (s : State) (k : Nat) (x : List Sample) : (s.putOut k x).cald = s.cald := rfl
@[simp] theorem State.putOut_meter (s : State) (k : Nat) (x : List Sample) : (s.putOut k x).meter = s.meter := rfl
@[simp] theorem State.putOut_dec (s : State) (k : Nat) (x : List Sample) : (s.putOut k x).dec = s.dec := rfl
@[simp] theorem State.putOut_gey (s : State) (k : Nat) (x : List Sample) : (s.putOut k x).gey = s.gey := rfl
@[simp] theorem State.putOut_tdm (s : State) (k : Nat) (x : List Sample) : (s.putOut k x).tdm = s.tdm := rfl
@[simp] theorem State.putOut_net (s : State) (k : Nat) (x : List Sample) : (s.putOut k x).net = s.net := rfl
@[simp] theorem State.putOut_strm (s : State) (k : Nat) (x : List Sample) : (s.putOut k x).strm = s.strm := rfl
@[simp] theorem State.putOut_pair (s : State) (k : Nat) (x : List Sample) : (s.putOut k x).pair = s.pair := rfl
@[simp] theorem State.putOut_cond (s : State) (k : Nat) (x : List Sample) : (s.putOut k x).cond = s.cond := rfl
@[simp] theorem State.putOut_dma (s : State) (k : Nat) (x : List Sample) : (s.putOut k x).dma = s.dma := rfl
@[simp] theorem State.putOut_store (s : State) (k : Nat) (x : List Sample) : (s.putOut k x).store = s.store := rfl
@[simp] theorem State.putOut_mdio (s : State) (k : Nat) (x : List Sample) : (s.putOut k x).mdio = s.mdio := rfl
@[simp] theorem State.putOut_back (s : State) (k : Nat) (x : List Sample) : (s.putOut k x).back = s.back := rfl
@[simp] theorem State.putOut_lateOps (s : State) (k : Nat) (x : List Sample) : (s.putOut k x).lateOps = s.lateOps := rfl
@[simp] theorem State.putOut_mem (s : State) (k : Nat) (x : List Sample) : (s.putOut k x).mem = s.mem := rfl

/-! ## mapCores -/

@[simp] theorem State.mapCores_pending (s : State) (l : List Nat) (f : Core → Core) : (s.mapCores l f).pending = s.pending := rfl
@[simp] theorem State.mapCores_fresh (s : State) (l : List Nat) (f : Core → Core) : (s.mapCores l f).fresh = s.fresh := rfl
@[simp] theorem State.mapCores_out (s : State) (l : List Nat) (f : Core → Core) : (s.mapCores l f).out = s.out := rfl
@[simp] theorem State.mapCores_unpred (s : State) (l : List Nat) (f : Core → Core) : (s.mapCores l f).unpred = s.unpred := rfl
@[simp] theorem State.mapCores_sys (s : State) (l : List Nat) (f : Core → Core) : (s.mapCores l f).sys = s.sys := rfl
@[simp] theorem State.mapCores_time (s : State) (l : List Nat) (f : Core → Core) : (s.mapCores l f).time = s.time := rfl
@[simp] theorem State.mapCores_ref (s : State) (l : List Nat) (f : Core → Core) : (s.mapCores l f).ref = s.ref := rfl
@[simp] theorem State.mapCores_host (s : State) (l : List Nat) (f : Core → Core) : (s.mapCores l f).host = s.host := rfl
@[simp] theorem State.mapCores_flt (s : State) (l : List Nat) (f : Core → Core) : (s.mapCores l f).flt = s.flt := rfl
@[simp] theorem State.mapCores_route (s : State) (l : List Nat) (f : Core → Core) : (s.mapCores l f).route = s.route := rfl
@[simp] theorem State.mapCores_aud (s : State) (l : List Nat) (f : Core → Core) : (s.mapCores l f).aud = s.aud := rfl
@[simp] theorem State.mapCores_cald (s : State) (l : List Nat) (f : Core → Core) : (s.mapCores l f).cald = s.cald := rfl
@[simp] theorem State.mapCores_meter (s : State) (l : List Nat) (f : Core → Core) : (s.mapCores l f).meter = s.meter := rfl
@[simp] theorem State.mapCores_dec (s : State) (l : List Nat) (f : Core → Core) : (s.mapCores l f).dec = s.dec := rfl
@[simp] theorem State.mapCores_gey (s : State) (l : List Nat) (f : Core → Core) : (s.mapCores l f).gey = s.gey := rfl
@[simp] theorem State.mapCores_tdm (s : State) (l : List Nat) (f : Core → Core) : (s.mapCores l f).tdm = s.tdm := rfl
@[simp] theorem State.mapCores_net (s : State) (l : List Nat) (f : Core → Core) : (s.mapCores l f).net = s.net := rfl
@[simp] theorem State.mapCores_strm (s : State) (l : List Nat) (f : Core → Core) : (s.mapCores l f).strm = s.strm := rfl
@[simp] theorem State.mapCores_pair (s : State) (l : List Nat) (f : Core → Core) : (s.mapCores l f).pair = s.pair := rfl
@[simp] theorem State.mapCores_cond (s : State) (l : List Nat) (f : Core → Core) : (s.mapCores l f).cond = s.cond := rfl
@[simp] theorem State.mapCores_dma (s : State) (l : List Nat) (f : Core → Core) : (s.mapCores l f).dma = s.dma := rfl
@[simp] theorem State.mapCores_store (s : State) (l : List Nat) (f : Core → Core) : (s.mapCores l f).store = s.store := rfl
@[simp] theorem State.mapCores_mdio (s : State) (l : List Nat) (f : Core → Core) : (s.mapCores l f).mdio = s.mdio := rfl
@[simp] theorem State.mapCores_back (s : State) (l : List Nat) (f : Core → Core) : (s.mapCores l f).back = s.back := rfl
@[simp] theorem State.mapCores_lateOps (s : State) (l : List Nat) (f : Core → Core) : (s.mapCores l f).lateOps = s.lateOps := rfl
@[simp] theorem State.mapCores_mem (s : State) (l : List Nat) (f : Core → Core) : (s.mapCores l f).mem = s.mem := rfl

/-! ## setRef -/

@[simp] theorem State.setRef_pending (s : State) (i : Nat) (r : RefSt) : (s.setRef i r).pending = s.pending := rfl
@[simp] theorem State.setRef_fresh (s : State) (i : Nat) (r : RefSt) : (s.setRef i r).fresh = s.fresh := rfl
@[simp] theorem State.setRef_out (s : State) (i : Nat) (r : RefSt) : (s.setRef i r).out = s.out := rfl
@[simp] theorem State.setRef_unpred (s : State) (i : Nat) (r : RefSt) : (s.setRef i r).unpred = s.unpred := rfl
@[simp] theorem State.setRef_sys (s : State) (i : Nat) (r : RefSt) : (s.setRef i r).sys = s.sys := rfl
@[simp] theorem State.setRef_time (s : State) (i : Nat) (r : RefSt) : (s.setRef i r).time = s.time := rfl
@[simp] theorem State.setRef_host (s : State) (i : Nat) (r : RefSt) : (s.setRef i r).host = s.host := rfl
@[simp] theorem State.setRef_flt (s : State) (i : Nat) (r : RefSt) : (s.setRef i r).flt = s.flt := rfl
@[simp] theorem State.setRef_route (s : State) (i : Nat) (r : RefSt) : (s.setRef i r).route = s.route := rfl
@[simp] theorem State.setRef_aud (s : State) (i : Nat) (r : RefSt) : (s.setRef i r).aud = s.aud := rfl
@[simp] theorem State.setRef_cald (s : State) (i : Nat) (r : RefSt) : (s.setRef i r).cald = s.cald := rfl
@[simp] theorem State.setRef_meter (s : State) (i : Nat) (r : RefSt) : (s.setRef i r).meter = s.meter := rfl
@[simp] theorem State.setRef_vent (s : State) (i : Nat) (r : RefSt) : (s.setRef i r).vent = s.vent := rfl
@[simp] theorem State.setRef_dec (s : State) (i : Nat) (r : RefSt) : (s.setRef i r).dec = s.dec := rfl
@[simp] theorem State.setRef_gey (s : State) (i : Nat) (r : RefSt) : (s.setRef i r).gey = s.gey := rfl
@[simp] theorem State.setRef_tdm (s : State) (i : Nat) (r : RefSt) : (s.setRef i r).tdm = s.tdm := rfl
@[simp] theorem State.setRef_net (s : State) (i : Nat) (r : RefSt) : (s.setRef i r).net = s.net := rfl
@[simp] theorem State.setRef_strm (s : State) (i : Nat) (r : RefSt) : (s.setRef i r).strm = s.strm := rfl
@[simp] theorem State.setRef_pair (s : State) (i : Nat) (r : RefSt) : (s.setRef i r).pair = s.pair := rfl
@[simp] theorem State.setRef_cond (s : State) (i : Nat) (r : RefSt) : (s.setRef i r).cond = s.cond := rfl
@[simp] theorem State.setRef_dma (s : State) (i : Nat) (r : RefSt) : (s.setRef i r).dma = s.dma := rfl
@[simp] theorem State.setRef_store (s : State) (i : Nat) (r : RefSt) : (s.setRef i r).store = s.store := rfl
@[simp] theorem State.setRef_mdio (s : State) (i : Nat) (r : RefSt) : (s.setRef i r).mdio = s.mdio := rfl
@[simp] theorem State.setRef_back (s : State) (i : Nat) (r : RefSt) : (s.setRef i r).back = s.back := rfl
@[simp] theorem State.setRef_lateOps (s : State) (i : Nat) (r : RefSt) : (s.setRef i r).lateOps = s.lateOps := rfl
@[simp] theorem State.setRef_mem (s : State) (i : Nat) (r : RefSt) : (s.setRef i r).mem = s.mem := rfl

/-! ## setDpll -/

@[simp] theorem State.setDpll_pending (s : State) (i : Nat) (d : Dpll) : (s.setDpll i d).pending = s.pending := rfl
@[simp] theorem State.setDpll_fresh (s : State) (i : Nat) (d : Dpll) : (s.setDpll i d).fresh = s.fresh := rfl
@[simp] theorem State.setDpll_out (s : State) (i : Nat) (d : Dpll) : (s.setDpll i d).out = s.out := rfl
@[simp] theorem State.setDpll_unpred (s : State) (i : Nat) (d : Dpll) : (s.setDpll i d).unpred = s.unpred := rfl
@[simp] theorem State.setDpll_sys (s : State) (i : Nat) (d : Dpll) : (s.setDpll i d).sys = s.sys := rfl
@[simp] theorem State.setDpll_time (s : State) (i : Nat) (d : Dpll) : (s.setDpll i d).time = s.time := rfl
@[simp] theorem State.setDpll_host (s : State) (i : Nat) (d : Dpll) : (s.setDpll i d).host = s.host := rfl
@[simp] theorem State.setDpll_flt (s : State) (i : Nat) (d : Dpll) : (s.setDpll i d).flt = s.flt := rfl
@[simp] theorem State.setDpll_route (s : State) (i : Nat) (d : Dpll) : (s.setDpll i d).route = s.route := rfl
@[simp] theorem State.setDpll_aud (s : State) (i : Nat) (d : Dpll) : (s.setDpll i d).aud = s.aud := rfl
@[simp] theorem State.setDpll_cald (s : State) (i : Nat) (d : Dpll) : (s.setDpll i d).cald = s.cald := rfl
@[simp] theorem State.setDpll_meter (s : State) (i : Nat) (d : Dpll) : (s.setDpll i d).meter = s.meter := rfl
@[simp] theorem State.setDpll_vent (s : State) (i : Nat) (d : Dpll) : (s.setDpll i d).vent = s.vent := rfl
@[simp] theorem State.setDpll_dec (s : State) (i : Nat) (d : Dpll) : (s.setDpll i d).dec = s.dec := rfl
@[simp] theorem State.setDpll_gey (s : State) (i : Nat) (d : Dpll) : (s.setDpll i d).gey = s.gey := rfl
@[simp] theorem State.setDpll_tdm (s : State) (i : Nat) (d : Dpll) : (s.setDpll i d).tdm = s.tdm := rfl
@[simp] theorem State.setDpll_net (s : State) (i : Nat) (d : Dpll) : (s.setDpll i d).net = s.net := rfl
@[simp] theorem State.setDpll_strm (s : State) (i : Nat) (d : Dpll) : (s.setDpll i d).strm = s.strm := rfl
@[simp] theorem State.setDpll_pair (s : State) (i : Nat) (d : Dpll) : (s.setDpll i d).pair = s.pair := rfl
@[simp] theorem State.setDpll_cond (s : State) (i : Nat) (d : Dpll) : (s.setDpll i d).cond = s.cond := rfl
@[simp] theorem State.setDpll_dma (s : State) (i : Nat) (d : Dpll) : (s.setDpll i d).dma = s.dma := rfl
@[simp] theorem State.setDpll_store (s : State) (i : Nat) (d : Dpll) : (s.setDpll i d).store = s.store := rfl
@[simp] theorem State.setDpll_mdio (s : State) (i : Nat) (d : Dpll) : (s.setDpll i d).mdio = s.mdio := rfl
@[simp] theorem State.setDpll_back (s : State) (i : Nat) (d : Dpll) : (s.setDpll i d).back = s.back := rfl
@[simp] theorem State.setDpll_lateOps (s : State) (i : Nat) (d : Dpll) : (s.setDpll i d).lateOps = s.lateOps := rfl
@[simp] theorem State.setDpll_mem (s : State) (i : Nat) (d : Dpll) : (s.setDpll i d).mem = s.mem := rfl

/-! ## setInst -/

@[simp] theorem State.setInst_pending (s : State) (i : Nat) (x : PtpInst) : (s.setInst i x).pending = s.pending := rfl
@[simp] theorem State.setInst_fresh (s : State) (i : Nat) (x : PtpInst) : (s.setInst i x).fresh = s.fresh := rfl
@[simp] theorem State.setInst_out (s : State) (i : Nat) (x : PtpInst) : (s.setInst i x).out = s.out := rfl
@[simp] theorem State.setInst_unpred (s : State) (i : Nat) (x : PtpInst) : (s.setInst i x).unpred = s.unpred := rfl
@[simp] theorem State.setInst_sys (s : State) (i : Nat) (x : PtpInst) : (s.setInst i x).sys = s.sys := rfl
@[simp] theorem State.setInst_ref (s : State) (i : Nat) (x : PtpInst) : (s.setInst i x).ref = s.ref := rfl
@[simp] theorem State.setInst_host (s : State) (i : Nat) (x : PtpInst) : (s.setInst i x).host = s.host := rfl
@[simp] theorem State.setInst_flt (s : State) (i : Nat) (x : PtpInst) : (s.setInst i x).flt = s.flt := rfl
@[simp] theorem State.setInst_route (s : State) (i : Nat) (x : PtpInst) : (s.setInst i x).route = s.route := rfl
@[simp] theorem State.setInst_aud (s : State) (i : Nat) (x : PtpInst) : (s.setInst i x).aud = s.aud := rfl
@[simp] theorem State.setInst_cald (s : State) (i : Nat) (x : PtpInst) : (s.setInst i x).cald = s.cald := rfl
@[simp] theorem State.setInst_meter (s : State) (i : Nat) (x : PtpInst) : (s.setInst i x).meter = s.meter := rfl
@[simp] theorem State.setInst_vent (s : State) (i : Nat) (x : PtpInst) : (s.setInst i x).vent = s.vent := rfl
@[simp] theorem State.setInst_dec (s : State) (i : Nat) (x : PtpInst) : (s.setInst i x).dec = s.dec := rfl
@[simp] theorem State.setInst_gey (s : State) (i : Nat) (x : PtpInst) : (s.setInst i x).gey = s.gey := rfl
@[simp] theorem State.setInst_tdm (s : State) (i : Nat) (x : PtpInst) : (s.setInst i x).tdm = s.tdm := rfl
@[simp] theorem State.setInst_net (s : State) (i : Nat) (x : PtpInst) : (s.setInst i x).net = s.net := rfl
@[simp] theorem State.setInst_strm (s : State) (i : Nat) (x : PtpInst) : (s.setInst i x).strm = s.strm := rfl
@[simp] theorem State.setInst_pair (s : State) (i : Nat) (x : PtpInst) : (s.setInst i x).pair = s.pair := rfl
@[simp] theorem State.setInst_cond (s : State) (i : Nat) (x : PtpInst) : (s.setInst i x).cond = s.cond := rfl
@[simp] theorem State.setInst_dma (s : State) (i : Nat) (x : PtpInst) : (s.setInst i x).dma = s.dma := rfl
@[simp] theorem State.setInst_store (s : State) (i : Nat) (x : PtpInst) : (s.setInst i x).store = s.store := rfl
@[simp] theorem State.setInst_mdio (s : State) (i : Nat) (x : PtpInst) : (s.setInst i x).mdio = s.mdio := rfl
@[simp] theorem State.setInst_back (s : State) (i : Nat) (x : PtpInst) : (s.setInst i x).back = s.back := rfl
@[simp] theorem State.setInst_lateOps (s : State) (i : Nat) (x : PtpInst) : (s.setInst i x).lateOps = s.lateOps := rfl
@[simp] theorem State.setInst_mem (s : State) (i : Nat) (x : PtpInst) : (s.setInst i x).mem = s.mem := rfl

/-! ## setBase -/

@[simp] theorem State.setBase_pending (s : State) (i : Nat) (b : TimeBase) : (s.setBase i b).pending = s.pending := rfl
@[simp] theorem State.setBase_fresh (s : State) (i : Nat) (b : TimeBase) : (s.setBase i b).fresh = s.fresh := rfl
@[simp] theorem State.setBase_out (s : State) (i : Nat) (b : TimeBase) : (s.setBase i b).out = s.out := rfl
@[simp] theorem State.setBase_unpred (s : State) (i : Nat) (b : TimeBase) : (s.setBase i b).unpred = s.unpred := rfl
@[simp] theorem State.setBase_sys (s : State) (i : Nat) (b : TimeBase) : (s.setBase i b).sys = s.sys := rfl
@[simp] theorem State.setBase_ref (s : State) (i : Nat) (b : TimeBase) : (s.setBase i b).ref = s.ref := rfl
@[simp] theorem State.setBase_host (s : State) (i : Nat) (b : TimeBase) : (s.setBase i b).host = s.host := rfl
@[simp] theorem State.setBase_flt (s : State) (i : Nat) (b : TimeBase) : (s.setBase i b).flt = s.flt := rfl
@[simp] theorem State.setBase_route (s : State) (i : Nat) (b : TimeBase) : (s.setBase i b).route = s.route := rfl
@[simp] theorem State.setBase_aud (s : State) (i : Nat) (b : TimeBase) : (s.setBase i b).aud = s.aud := rfl
@[simp] theorem State.setBase_cald (s : State) (i : Nat) (b : TimeBase) : (s.setBase i b).cald = s.cald := rfl
@[simp] theorem State.setBase_meter (s : State) (i : Nat) (b : TimeBase) : (s.setBase i b).meter = s.meter := rfl
@[simp] theorem State.setBase_vent (s : State) (i : Nat) (b : TimeBase) : (s.setBase i b).vent = s.vent := rfl
@[simp] theorem State.setBase_dec (s : State) (i : Nat) (b : TimeBase) : (s.setBase i b).dec = s.dec := rfl
@[simp] theorem State.setBase_gey (s : State) (i : Nat) (b : TimeBase) : (s.setBase i b).gey = s.gey := rfl
@[simp] theorem State.setBase_tdm (s : State) (i : Nat) (b : TimeBase) : (s.setBase i b).tdm = s.tdm := rfl
@[simp] theorem State.setBase_net (s : State) (i : Nat) (b : TimeBase) : (s.setBase i b).net = s.net := rfl
@[simp] theorem State.setBase_strm (s : State) (i : Nat) (b : TimeBase) : (s.setBase i b).strm = s.strm := rfl
@[simp] theorem State.setBase_pair (s : State) (i : Nat) (b : TimeBase) : (s.setBase i b).pair = s.pair := rfl
@[simp] theorem State.setBase_cond (s : State) (i : Nat) (b : TimeBase) : (s.setBase i b).cond = s.cond := rfl
@[simp] theorem State.setBase_dma (s : State) (i : Nat) (b : TimeBase) : (s.setBase i b).dma = s.dma := rfl
@[simp] theorem State.setBase_store (s : State) (i : Nat) (b : TimeBase) : (s.setBase i b).store = s.store := rfl
@[simp] theorem State.setBase_mdio (s : State) (i : Nat) (b : TimeBase) : (s.setBase i b).mdio = s.mdio := rfl
@[simp] theorem State.setBase_back (s : State) (i : Nat) (b : TimeBase) : (s.setBase i b).back = s.back := rfl
@[simp] theorem State.setBase_lateOps (s : State) (i : Nat) (b : TimeBase) : (s.setBase i b).lateOps = s.lateOps := rfl
@[simp] theorem State.setBase_mem (s : State) (i : Nat) (b : TimeBase) : (s.setBase i b).mem = s.mem := rfl

/-! ## setTrig -/

@[simp] theorem State.setTrig_pending (s : State) (i : Nat) (x : Trig) : (s.setTrig i x).pending = s.pending := rfl
@[simp] theorem State.setTrig_fresh (s : State) (i : Nat) (x : Trig) : (s.setTrig i x).fresh = s.fresh := rfl
@[simp] theorem State.setTrig_out (s : State) (i : Nat) (x : Trig) : (s.setTrig i x).out = s.out := rfl
@[simp] theorem State.setTrig_unpred (s : State) (i : Nat) (x : Trig) : (s.setTrig i x).unpred = s.unpred := rfl
@[simp] theorem State.setTrig_sys (s : State) (i : Nat) (x : Trig) : (s.setTrig i x).sys = s.sys := rfl
@[simp] theorem State.setTrig_ref (s : State) (i : Nat) (x : Trig) : (s.setTrig i x).ref = s.ref := rfl
@[simp] theorem State.setTrig_host (s : State) (i : Nat) (x : Trig) : (s.setTrig i x).host = s.host := rfl
@[simp] theorem State.setTrig_flt (s : State) (i : Nat) (x : Trig) : (s.setTrig i x).flt = s.flt := rfl
@[simp] theorem State.setTrig_route (s : State) (i : Nat) (x : Trig) : (s.setTrig i x).route = s.route := rfl
@[simp] theorem State.setTrig_aud (s : State) (i : Nat) (x : Trig) : (s.setTrig i x).aud = s.aud := rfl
@[simp] theorem State.setTrig_cald (s : State) (i : Nat) (x : Trig) : (s.setTrig i x).cald = s.cald := rfl
@[simp] theorem State.setTrig_meter (s : State) (i : Nat) (x : Trig) : (s.setTrig i x).meter = s.meter := rfl
@[simp] theorem State.setTrig_vent (s : State) (i : Nat) (x : Trig) : (s.setTrig i x).vent = s.vent := rfl
@[simp] theorem State.setTrig_dec (s : State) (i : Nat) (x : Trig) : (s.setTrig i x).dec = s.dec := rfl
@[simp] theorem State.setTrig_gey (s : State) (i : Nat) (x : Trig) : (s.setTrig i x).gey = s.gey := rfl
@[simp] theorem State.setTrig_tdm (s : State) (i : Nat) (x : Trig) : (s.setTrig i x).tdm = s.tdm := rfl
@[simp] theorem State.setTrig_net (s : State) (i : Nat) (x : Trig) : (s.setTrig i x).net = s.net := rfl
@[simp] theorem State.setTrig_strm (s : State) (i : Nat) (x : Trig) : (s.setTrig i x).strm = s.strm := rfl
@[simp] theorem State.setTrig_pair (s : State) (i : Nat) (x : Trig) : (s.setTrig i x).pair = s.pair := rfl
@[simp] theorem State.setTrig_cond (s : State) (i : Nat) (x : Trig) : (s.setTrig i x).cond = s.cond := rfl
@[simp] theorem State.setTrig_dma (s : State) (i : Nat) (x : Trig) : (s.setTrig i x).dma = s.dma := rfl
@[simp] theorem State.setTrig_store (s : State) (i : Nat) (x : Trig) : (s.setTrig i x).store = s.store := rfl
@[simp] theorem State.setTrig_mdio (s : State) (i : Nat) (x : Trig) : (s.setTrig i x).mdio = s.mdio := rfl
@[simp] theorem State.setTrig_back (s : State) (i : Nat) (x : Trig) : (s.setTrig i x).back = s.back := rfl
@[simp] theorem State.setTrig_lateOps (s : State) (i : Nat) (x : Trig) : (s.setTrig i x).lateOps = s.lateOps := rfl
@[simp] theorem State.setTrig_mem (s : State) (i : Nat) (x : Trig) : (s.setTrig i x).mem = s.mem := rfl

/-! ## setTime -/

@[simp] theorem State.setTime_pending (s : State) (n u d : Nat) : (s.setTime n u d).pending = s.pending := rfl
@[simp] theorem State.setTime_fresh (s : State) (n u d : Nat) : (s.setTime n u d).fresh = s.fresh := rfl
@[simp] theorem State.setTime_out (s : State) (n u d : Nat) : (s.setTime n u d).out = s.out := rfl
@[simp] theorem State.setTime_unpred (s : State) (n u d : Nat) : (s.setTime n u d).unpred = s.unpred := rfl
@[simp] theorem State.setTime_sys (s : State) (n u d : Nat) : (s.setTime n u d).sys = s.sys := rfl
@[simp] theorem State.setTime_ref (s : State) (n u d : Nat) : (s.setTime n u d).ref = s.ref := rfl
@[simp] theorem State.setTime_host (s : State) (n u d : Nat) : (s.setTime n u d).host = s.host := rfl
@[simp] theorem State.setTime_flt (s : State) (n u d : Nat) : (s.setTime n u d).flt = s.flt := rfl
@[simp] theorem State.setTime_route (s : State) (n u d : Nat) : (s.setTime n u d).route = s.route := rfl
@[simp] theorem State.setTime_aud (s : State) (n u d : Nat) : (s.setTime n u d).aud = s.aud := rfl
@[simp] theorem State.setTime_cald (s : State) (n u d : Nat) : (s.setTime n u d).cald = s.cald := rfl
@[simp] theorem State.setTime_meter (s : State) (n u d : Nat) : (s.setTime n u d).meter = s.meter := rfl
@[simp] theorem State.setTime_vent (s : State) (n u d : Nat) : (s.setTime n u d).vent = s.vent := rfl
@[simp] theorem State.setTime_dec (s : State) (n u d : Nat) : (s.setTime n u d).dec = s.dec := rfl
@[simp] theorem State.setTime_gey (s : State) (n u d : Nat) : (s.setTime n u d).gey = s.gey := rfl
@[simp] theorem State.setTime_tdm (s : State) (n u d : Nat) : (s.setTime n u d).tdm = s.tdm := rfl
@[simp] theorem State.setTime_net (s : State) (n u d : Nat) : (s.setTime n u d).net = s.net := rfl
@[simp] theorem State.setTime_strm (s : State) (n u d : Nat) : (s.setTime n u d).strm = s.strm := rfl
@[simp] theorem State.setTime_pair (s : State) (n u d : Nat) : (s.setTime n u d).pair = s.pair := rfl
@[simp] theorem State.setTime_cond (s : State) (n u d : Nat) : (s.setTime n u d).cond = s.cond := rfl
@[simp] theorem State.setTime_dma (s : State) (n u d : Nat) : (s.setTime n u d).dma = s.dma := rfl
@[simp] theorem State.setTime_store (s : State) (n u d : Nat) : (s.setTime n u d).store = s.store := rfl
@[simp] theorem State.setTime_mdio (s : State) (n u d : Nat) : (s.setTime n u d).mdio = s.mdio := rfl
@[simp] theorem State.setTime_back (s : State) (n u d : Nat) : (s.setTime n u d).back = s.back := rfl
@[simp] theorem State.setTime_lateOps (s : State) (n u d : Nat) : (s.setTime n u d).lateOps = s.lateOps := rfl
@[simp] theorem State.setTime_mem (s : State) (n u d : Nat) : (s.setTime n u d).mem = s.mem := rfl

/-! ## setCtx -/

@[simp] theorem State.setCtx_pending (s : State) (i : Nat) (c : DecCtx) : (s.setCtx i c).pending = s.pending := rfl
@[simp] theorem State.setCtx_fresh (s : State) (i : Nat) (c : DecCtx) : (s.setCtx i c).fresh = s.fresh := rfl
@[simp] theorem State.setCtx_out (s : State) (i : Nat) (c : DecCtx) : (s.setCtx i c).out = s.out := rfl
@[simp] theorem State.setCtx_unpred (s : State) (i : Nat) (c : DecCtx) : (s.setCtx i c).unpred = s.unpred := rfl
@[simp] theorem State.setCtx_sys (s : State) (i : Nat) (c : DecCtx) : (s.setCtx i c).sys = s.sys := rfl
@[simp] theorem State.setCtx_time (s : State) (i : Nat) (c : DecCtx) : (s.setCtx i c).time = s.time := rfl
@[simp] theorem State.setCtx_ref (s : State) (i : Nat) (c : DecCtx) : (s.setCtx i c).ref = s.ref := rfl
@[simp] theorem State.setCtx_host (s : State) (i : Nat) (c : DecCtx) : (s.setCtx i c).host = s.host := rfl
@[simp] theorem State.setCtx_flt (s : State) (i : Nat) (c : DecCtx) : (s.setCtx i c).flt = s.flt := rfl
@[simp] theorem State.setCtx_route (s : State) (i : Nat) (c : DecCtx) : (s.setCtx i c).route = s.route := rfl
@[simp] theorem State.setCtx_aud (s : State) (i : Nat) (c : DecCtx) : (s.setCtx i c).aud = s.aud := rfl
@[simp] theorem State.setCtx_cald (s : State) (i : Nat) (c : DecCtx) : (s.setCtx i c).cald = s.cald := rfl
@[simp] theorem State.setCtx_meter (s : State) (i : Nat) (c : DecCtx) : (s.setCtx i c).meter = s.meter := rfl
@[simp] theorem State.setCtx_vent (s : State) (i : Nat) (c : DecCtx) : (s.setCtx i c).vent = s.vent := rfl
@[simp] theorem State.setCtx_gey (s : State) (i : Nat) (c : DecCtx) : (s.setCtx i c).gey = s.gey := rfl
@[simp] theorem State.setCtx_tdm (s : State) (i : Nat) (c : DecCtx) : (s.setCtx i c).tdm = s.tdm := rfl
@[simp] theorem State.setCtx_net (s : State) (i : Nat) (c : DecCtx) : (s.setCtx i c).net = s.net := rfl
@[simp] theorem State.setCtx_strm (s : State) (i : Nat) (c : DecCtx) : (s.setCtx i c).strm = s.strm := rfl
@[simp] theorem State.setCtx_pair (s : State) (i : Nat) (c : DecCtx) : (s.setCtx i c).pair = s.pair := rfl
@[simp] theorem State.setCtx_cond (s : State) (i : Nat) (c : DecCtx) : (s.setCtx i c).cond = s.cond := rfl
@[simp] theorem State.setCtx_dma (s : State) (i : Nat) (c : DecCtx) : (s.setCtx i c).dma = s.dma := rfl
@[simp] theorem State.setCtx_store (s : State) (i : Nat) (c : DecCtx) : (s.setCtx i c).store = s.store := rfl
@[simp] theorem State.setCtx_mdio (s : State) (i : Nat) (c : DecCtx) : (s.setCtx i c).mdio = s.mdio := rfl
@[simp] theorem State.setCtx_back (s : State) (i : Nat) (c : DecCtx) : (s.setCtx i c).back = s.back := rfl
@[simp] theorem State.setCtx_lateOps (s : State) (i : Nat) (c : DecCtx) : (s.setCtx i c).lateOps = s.lateOps := rfl
@[simp] theorem State.setCtx_mem (s : State) (i : Nat) (c : DecCtx) : (s.setCtx i c).mem = s.mem := rfl

/-! ## setLane -/

@[simp] theorem State.setLane_pending (s : State) (l : Nat) (x : Lane) : (s.setLane l x).pending = s.pending := rfl
@[simp] theorem State.setLane_fresh (s : State) (l : Nat) (x : Lane) : (s.setLane l x).fresh = s.fresh := rfl
@[simp] theorem State.setLane_out (s : State) (l : Nat) (x : Lane) : (s.setLane l x).out = s.out := rfl
@[simp] theorem State.setLane_unpred (s : State) (l : Nat) (x : Lane) : (s.setLane l x).unpred = s.unpred := rfl
@[simp] theorem State.setLane_sys (s : State) (l : Nat) (x : Lane) : (s.setLane l x).sys = s.sys := rfl
@[simp] theorem State.setLane_time (s : State) (l : Nat) (x : Lane) : (s.setLane l x).time = s.time := rfl
@[simp] theorem State.setLane_ref (s : State) (l : Nat) (x : Lane) : (s.setLane l x).ref = s.ref := rfl
@[simp] theorem State.setLane_host (s : State) (l : Nat) (x : Lane) : (s.setLane l x).host = s.host := rfl
@[simp] theorem State.setLane_flt (s : State) (l : Nat) (x : Lane) : (s.setLane l x).flt = s.flt := rfl
@[simp] theorem State.setLane_route (s : State) (l : Nat) (x : Lane) : (s.setLane l x).route = s.route := rfl
@[simp] theorem State.setLane_aud (s : State) (l : Nat) (x : Lane) : (s.setLane l x).aud = s.aud := rfl
@[simp] theorem State.setLane_cald (s : State) (l : Nat) (x : Lane) : (s.setLane l x).cald = s.cald := rfl
@[simp] theorem State.setLane_meter (s : State) (l : Nat) (x : Lane) : (s.setLane l x).meter = s.meter := rfl
@[simp] theorem State.setLane_vent (s : State) (l : Nat) (x : Lane) : (s.setLane l x).vent = s.vent := rfl
@[simp] theorem State.setLane_gey (s : State) (l : Nat) (x : Lane) : (s.setLane l x).gey = s.gey := rfl
@[simp] theorem State.setLane_tdm (s : State) (l : Nat) (x : Lane) : (s.setLane l x).tdm = s.tdm := rfl
@[simp] theorem State.setLane_net (s : State) (l : Nat) (x : Lane) : (s.setLane l x).net = s.net := rfl
@[simp] theorem State.setLane_strm (s : State) (l : Nat) (x : Lane) : (s.setLane l x).strm = s.strm := rfl
@[simp] theorem State.setLane_pair (s : State) (l : Nat) (x : Lane) : (s.setLane l x).pair = s.pair := rfl
@[simp] theorem State.setLane_cond (s : State) (l : Nat) (x : Lane) : (s.setLane l x).cond = s.cond := rfl
@[simp] theorem State.setLane_dma (s : State) (l : Nat) (x : Lane) : (s.setLane l x).dma = s.dma := rfl
@[simp] theorem State.setLane_store (s : State) (l : Nat) (x : Lane) : (s.setLane l x).store = s.store := rfl
@[simp] theorem State.setLane_mdio (s : State) (l : Nat) (x : Lane) : (s.setLane l x).mdio = s.mdio := rfl
@[simp] theorem State.setLane_back (s : State) (l : Nat) (x : Lane) : (s.setLane l x).back = s.back := rfl
@[simp] theorem State.setLane_lateOps (s : State) (l : Nat) (x : Lane) : (s.setLane l x).lateOps = s.lateOps := rfl
@[simp] theorem State.setLane_mem (s : State) (l : Nat) (x : Lane) : (s.setLane l x).mem = s.mem := rfl

/-! ## setG -/

@[simp] theorem State.setG_pending (s : State) (g : Nat) (x : GGroup) : (s.setG g x).pending = s.pending := rfl
@[simp] theorem State.setG_fresh (s : State) (g : Nat) (x : GGroup) : (s.setG g x).fresh = s.fresh := rfl
@[simp] theorem State.setG_out (s : State) (g : Nat) (x : GGroup) : (s.setG g x).out = s.out := rfl
@[simp] theorem State.setG_unpred (s : State) (g : Nat) (x : GGroup) : (s.setG g x).unpred = s.unpred := rfl
@[simp] theorem State.setG_sys (s : State) (g : Nat) (x : GGroup) : (s.setG g x).sys = s.sys := rfl
@[simp] theorem State.setG_time (s : State) (g : Nat) (x : GGroup) : (s.setG g x).time = s.time := rfl
@[simp] theorem State.setG_ref (s : State) (g : Nat) (x : GGroup) : (s.setG g x).ref = s.ref := rfl
@[simp] theorem State.setG_host (s : State) (g : Nat) (x : GGroup) : (s.setG g x).host = s.host := rfl
@[simp] theorem State.setG_flt (s : State) (g : Nat) (x : GGroup) : (s.setG g x).flt = s.flt := rfl
@[simp] theorem State.setG_route (s : State) (g : Nat) (x : GGroup) : (s.setG g x).route = s.route := rfl
@[simp] theorem State.setG_aud (s : State) (g : Nat) (x : GGroup) : (s.setG g x).aud = s.aud := rfl
@[simp] theorem State.setG_cald (s : State) (g : Nat) (x : GGroup) : (s.setG g x).cald = s.cald := rfl
@[simp] theorem State.setG_meter (s : State) (g : Nat) (x : GGroup) : (s.setG g x).meter = s.meter := rfl
@[simp] theorem State.setG_vent (s : State) (g : Nat) (x : GGroup) : (s.setG g x).vent = s.vent := rfl
@[simp] theorem State.setG_dec (s : State) (g : Nat) (x : GGroup) : (s.setG g x).dec = s.dec := rfl
@[simp] theorem State.setG_tdm (s : State) (g : Nat) (x : GGroup) : (s.setG g x).tdm = s.tdm := rfl
@[simp] theorem State.setG_net (s : State) (g : Nat) (x : GGroup) : (s.setG g x).net = s.net := rfl
@[simp] theorem State.setG_strm (s : State) (g : Nat) (x : GGroup) : (s.setG g x).strm = s.strm := rfl
@[simp] theorem State.setG_pair (s : State) (g : Nat) (x : GGroup) : (s.setG g x).pair = s.pair := rfl
@[simp] theorem State.setG_cond (s : State) (g : Nat) (x : GGroup) : (s.setG g x).cond = s.cond := rfl
@[simp] theorem State.setG_dma (s : State) (g : Nat) (x : GGroup) : (s.setG g x).dma = s.dma := rfl
@[simp] theorem State.setG_store (s : State) (g : Nat) (x : GGroup) : (s.setG g x).store = s.store := rfl
@[simp] theorem State.setG_mdio (s : State) (g : Nat) (x : GGroup) : (s.setG g x).mdio = s.mdio := rfl
@[simp] theorem State.setG_back (s : State) (g : Nat) (x : GGroup) : (s.setG g x).back = s.back := rfl
@[simp] theorem State.setG_lateOps (s : State) (g : Nat) (x : GGroup) : (s.setG g x).lateOps = s.lateOps := rfl
@[simp] theorem State.setG_mem (s : State) (g : Nat) (x : GGroup) : (s.setG g x).mem = s.mem := rfl

/-! ## setCh -/

@[simp] theorem State.setCh_pending (s : State) (n : Nat) (c : GChan) : (s.setCh n c).pending = s.pending := rfl
@[simp] theorem State.setCh_fresh (s : State) (n : Nat) (c : GChan) : (s.setCh n c).fresh = s.fresh := rfl
@[simp] theorem State.setCh_out (s : State) (n : Nat) (c : GChan) : (s.setCh n c).out = s.out := rfl
@[simp] theorem State.setCh_unpred (s : State) (n : Nat) (c : GChan) : (s.setCh n c).unpred = s.unpred := rfl
@[simp] theorem State.setCh_sys (s : State) (n : Nat) (c : GChan) : (s.setCh n c).sys = s.sys := rfl
@[simp] theorem State.setCh_time (s : State) (n : Nat) (c : GChan) : (s.setCh n c).time = s.time := rfl
@[simp] theorem State.setCh_ref (s : State) (n : Nat) (c : GChan) : (s.setCh n c).ref = s.ref := rfl
@[simp] theorem State.setCh_host (s : State) (n : Nat) (c : GChan) : (s.setCh n c).host = s.host := rfl
@[simp] theorem State.setCh_flt (s : State) (n : Nat) (c : GChan) : (s.setCh n c).flt = s.flt := rfl
@[simp] theorem State.setCh_route (s : State) (n : Nat) (c : GChan) : (s.setCh n c).route = s.route := rfl
@[simp] theorem State.setCh_aud (s : State) (n : Nat) (c : GChan) : (s.setCh n c).aud = s.aud := rfl
@[simp] theorem State.setCh_cald (s : State) (n : Nat) (c : GChan) : (s.setCh n c).cald = s.cald := rfl
@[simp] theorem State.setCh_meter (s : State) (n : Nat) (c : GChan) : (s.setCh n c).meter = s.meter := rfl
@[simp] theorem State.setCh_vent (s : State) (n : Nat) (c : GChan) : (s.setCh n c).vent = s.vent := rfl
@[simp] theorem State.setCh_dec (s : State) (n : Nat) (c : GChan) : (s.setCh n c).dec = s.dec := rfl
@[simp] theorem State.setCh_tdm (s : State) (n : Nat) (c : GChan) : (s.setCh n c).tdm = s.tdm := rfl
@[simp] theorem State.setCh_net (s : State) (n : Nat) (c : GChan) : (s.setCh n c).net = s.net := rfl
@[simp] theorem State.setCh_strm (s : State) (n : Nat) (c : GChan) : (s.setCh n c).strm = s.strm := rfl
@[simp] theorem State.setCh_pair (s : State) (n : Nat) (c : GChan) : (s.setCh n c).pair = s.pair := rfl
@[simp] theorem State.setCh_cond (s : State) (n : Nat) (c : GChan) : (s.setCh n c).cond = s.cond := rfl
@[simp] theorem State.setCh_dma (s : State) (n : Nat) (c : GChan) : (s.setCh n c).dma = s.dma := rfl
@[simp] theorem State.setCh_store (s : State) (n : Nat) (c : GChan) : (s.setCh n c).store = s.store := rfl
@[simp] theorem State.setCh_mdio (s : State) (n : Nat) (c : GChan) : (s.setCh n c).mdio = s.mdio := rfl
@[simp] theorem State.setCh_back (s : State) (n : Nat) (c : GChan) : (s.setCh n c).back = s.back := rfl
@[simp] theorem State.setCh_lateOps (s : State) (n : Nat) (c : GChan) : (s.setCh n c).lateOps = s.lateOps := rfl
@[simp] theorem State.setCh_mem (s : State) (n : Nat) (c : GChan) : (s.setCh n c).mem = s.mem := rfl

/-! ## setTG -/

@[simp] theorem State.setTG_pending (s : State) (g : Nat) (x : TGroup) : (s.setTG g x).pending = s.pending := rfl
@[simp] theorem State.setTG_fresh (s : State) (g : Nat) (x : TGroup) : (s.setTG g x).fresh = s.fresh := rfl
@[simp] theorem State.setTG_out (s : State) (g : Nat) (x : TGroup) : (s.setTG g x).out = s.out := rfl
@[simp] theorem State.setTG_unpred (s : State) (g : Nat) (x : TGroup) : (s.setTG g x).unpred = s.unpred := rfl
@[simp] theorem State.setTG_sys (s : State) (g : Nat) (x : TGroup) : (s.setTG g x).sys = s.sys := rfl
@[simp] theorem State.setTG_time (s : State) (g : Nat) (x : TGroup) : (s.setTG g x).time = s.time := rfl
@[simp] theorem State.setTG_ref (s : State) (g : Nat) (x : TGroup) : (s.setTG g x).ref = s.ref := rfl
@[simp] theorem State.setTG_host (s : State) (g : Nat) (x : TGroup) : (s.setTG g x).host = s.host := rfl
@[simp] theorem State.setTG_flt (s : State) (g : Nat) (x : TGroup) : (s.setTG g x).flt = s.flt := rfl
@[simp] theorem State.setTG_route (s : State) (g : Nat) (x : TGroup) : (s.setTG g x).route = s.route := rfl
@[simp] theorem State.setTG_aud (s : State) (g : Nat) (x : TGroup) : (s.setTG g x).aud = s.aud := rfl
@[simp] theorem State.setTG_cald (s : State) (g : Nat) (x : TGroup) : (s.setTG g x).cald = s.cald := rfl
@[simp] theorem State.setTG_meter (s : State) (g : Nat) (x : TGroup) : (s.setTG g x).meter = s.meter := rfl
@[simp] theorem State.setTG_vent (s : State) (g : Nat) (x : TGroup) : (s.setTG g x).vent = s.vent := rfl
@[simp] theorem State.setTG_dec (s : State) (g : Nat) (x : TGroup) : (s.setTG g x).dec = s.dec := rfl
@[simp] theorem State.setTG_gey (s : State) (g : Nat) (x : TGroup) : (s.setTG g x).gey = s.gey := rfl
@[simp] theorem State.setTG_net (s : State) (g : Nat) (x : TGroup) : (s.setTG g x).net = s.net := rfl
@[simp] theorem State.setTG_strm (s : State) (g : Nat) (x : TGroup) : (s.setTG g x).strm = s.strm := rfl
@[simp] theorem State.setTG_pair (s : State) (g : Nat) (x : TGroup) : (s.setTG g x).pair = s.pair := rfl
@[simp] theorem State.setTG_cond (s : State) (g : Nat) (x : TGroup) : (s.setTG g x).cond = s.cond := rfl
@[simp] theorem State.setTG_dma (s : State) (g : Nat) (x : TGroup) : (s.setTG g x).dma = s.dma := rfl
@[simp] theorem State.setTG_store (s : State) (g : Nat) (x : TGroup) : (s.setTG g x).store = s.store := rfl
@[simp] theorem State.setTG_mdio (s : State) (g : Nat) (x : TGroup) : (s.setTG g x).mdio = s.mdio := rfl
@[simp] theorem State.setTG_back (s : State) (g : Nat) (x : TGroup) : (s.setTG g x).back = s.back := rfl
@[simp] theorem State.setTG_lateOps (s : State) (g : Nat) (x : TGroup) : (s.setTG g x).lateOps = s.lateOps := rfl
@[simp] theorem State.setTG_mem (s : State) (g : Nat) (x : TGroup) : (s.setTG g x).mem = s.mem := rfl

/-! ## setTP -/

@[simp] theorem State.setTP_pending (s : State) (p : Nat) (x : TPort) : (s.setTP p x).pending = s.pending := rfl
@[simp] theorem State.setTP_fresh (s : State) (p : Nat) (x : TPort) : (s.setTP p x).fresh = s.fresh := rfl
@[simp] theorem State.setTP_out (s : State) (p : Nat) (x : TPort) : (s.setTP p x).out = s.out := rfl
@[simp] theorem State.setTP_unpred (s : State) (p : Nat) (x : TPort) : (s.setTP p x).unpred = s.unpred := rfl
@[simp] theorem State.setTP_sys (s : State) (p : Nat) (x : TPort) : (s.setTP p x).sys = s.sys := rfl
@[simp] theorem State.setTP_time (s : State) (p : Nat) (x : TPort) : (s.setTP p x).time = s.time := rfl
@[simp] theorem State.setTP_ref (s : State) (p : Nat) (x : TPort) : (s.setTP p x).ref = s.ref := rfl
@[simp] theorem State.setTP_host (s : State) (p : Nat) (x : TPort) : (s.setTP p x).host = s.host := rfl
@[simp] theorem State.setTP_flt (s : State) (p : Nat) (x : TPort) : (s.setTP p x).flt = s.flt := rfl
@[simp] theorem State.setTP_route (s : State) (p : Nat) (x : TPort) : (s.setTP p x).route = s.route := rfl
@[simp] theorem State.setTP_aud (s : State) (p : Nat) (x : TPort) : (s.setTP p x).aud = s.aud := rfl
@[simp] theorem State.setTP_cald (s : State) (p : Nat) (x : TPort) : (s.setTP p x).cald = s.cald := rfl
@[simp] theorem State.setTP_meter (s : State) (p : Nat) (x : TPort) : (s.setTP p x).meter = s.meter := rfl
@[simp] theorem State.setTP_vent (s : State) (p : Nat) (x : TPort) : (s.setTP p x).vent = s.vent := rfl
@[simp] theorem State.setTP_dec (s : State) (p : Nat) (x : TPort) : (s.setTP p x).dec = s.dec := rfl
@[simp] theorem State.setTP_gey (s : State) (p : Nat) (x : TPort) : (s.setTP p x).gey = s.gey := rfl
@[simp] theorem State.setTP_net (s : State) (p : Nat) (x : TPort) : (s.setTP p x).net = s.net := rfl
@[simp] theorem State.setTP_strm (s : State) (p : Nat) (x : TPort) : (s.setTP p x).strm = s.strm := rfl
@[simp] theorem State.setTP_pair (s : State) (p : Nat) (x : TPort) : (s.setTP p x).pair = s.pair := rfl
@[simp] theorem State.setTP_cond (s : State) (p : Nat) (x : TPort) : (s.setTP p x).cond = s.cond := rfl
@[simp] theorem State.setTP_dma (s : State) (p : Nat) (x : TPort) : (s.setTP p x).dma = s.dma := rfl
@[simp] theorem State.setTP_store (s : State) (p : Nat) (x : TPort) : (s.setTP p x).store = s.store := rfl
@[simp] theorem State.setTP_mdio (s : State) (p : Nat) (x : TPort) : (s.setTP p x).mdio = s.mdio := rfl
@[simp] theorem State.setTP_back (s : State) (p : Nat) (x : TPort) : (s.setTP p x).back = s.back := rfl
@[simp] theorem State.setTP_lateOps (s : State) (p : Nat) (x : TPort) : (s.setTP p x).lateOps = s.lateOps := rfl
@[simp] theorem State.setTP_mem (s : State) (p : Nat) (x : TPort) : (s.setTP p x).mem = s.mem := rfl

/-! ## setQueue -/

@[simp] theorem State.setQueue_pending (s : State) (q : Nat) (x : Queue) : (s.setQueue q x).pending = s.pending := rfl
@[simp] theorem State.setQueue_fresh (s : State) (q : Nat) (x : Queue) : (s.setQueue q x).fresh = s.fresh := rfl
@[simp] theorem State.setQueue_out (s : State) (q : Nat) (x : Queue) : (s.setQueue q x).out = s.out := rfl
@[simp] theorem State.setQueue_unpred (s : State) (q : Nat) (x : Queue) : (s.setQueue q x).unpred = s.unpred := rfl
@[simp] theorem State.setQueue_sys (s : State) (q : Nat) (x : Queue) : (s.setQueue q x).sys = s.sys := rfl
@[simp] theorem State.setQueue_time (s : State) (q : Nat) (x : Queue) : (s.setQueue q x).time = s.time := rfl
@[simp] theorem State.setQueue_ref (s : State) (q : Nat) (x : Queue) : (s.setQueue q x).ref = s.ref := rfl
@[simp] theorem State.setQueue_host (s : State) (q : Nat) (x : Queue) : (s.setQueue q x).host = s.host := rfl
@[simp] theorem State.setQueue_flt (s : State) (q : Nat) (x : Queue) : (s.setQueue q x).flt = s.flt := rfl
@[simp] theorem State.setQueue_route (s : State) (q : Nat) (x : Queue) : (s.setQueue q x).route = s.route := rfl
@[simp] theorem State.setQueue_aud (s : State) (q : Nat) (x : Queue) : (s.setQueue q x).aud = s.aud := rfl
@[simp] theorem State.setQueue_cald (s : State) (q : Nat) (x : Queue) : (s.setQueue q x).cald = s.cald := rfl
@[simp] theorem State.setQueue_meter (s : State) (q : Nat) (x : Queue) : (s.setQueue q x).meter = s.meter := rfl
@[simp] theorem State.setQueue_vent (s : State) (q : Nat) (x : Queue) : (s.setQueue q x).vent = s.vent := rfl
@[simp] theorem State.setQueue_dec (s : State) (q : Nat) (x : Queue) : (s.setQueue q x).dec = s.dec := rfl
@[simp] theorem State.setQueue_gey (s : State) (q : Nat) (x : Queue) : (s.setQueue q x).gey = s.gey := rfl
@[simp] theorem State.setQueue_tdm (s : State) (q : Nat) (x : Queue) : (s.setQueue q x).tdm = s.tdm := rfl
@[simp] theorem State.setQueue_strm (s : State) (q : Nat) (x : Queue) : (s.setQueue q x).strm = s.strm := rfl
@[simp] theorem State.setQueue_pair (s : State) (q : Nat) (x : Queue) : (s.setQueue q x).pair = s.pair := rfl
@[simp] theorem State.setQueue_cond (s : State) (q : Nat) (x : Queue) : (s.setQueue q x).cond = s.cond := rfl
@[simp] theorem State.setQueue_dma (s : State) (q : Nat) (x : Queue) : (s.setQueue q x).dma = s.dma := rfl
@[simp] theorem State.setQueue_store (s : State) (q : Nat) (x : Queue) : (s.setQueue q x).store = s.store := rfl
@[simp] theorem State.setQueue_mdio (s : State) (q : Nat) (x : Queue) : (s.setQueue q x).mdio = s.mdio := rfl
@[simp] theorem State.setQueue_back (s : State) (q : Nat) (x : Queue) : (s.setQueue q x).back = s.back := rfl
@[simp] theorem State.setQueue_lateOps (s : State) (q : Nat) (x : Queue) : (s.setQueue q x).lateOps = s.lateOps := rfl
@[simp] theorem State.setQueue_mem (s : State) (q : Nat) (x : Queue) : (s.setQueue q x).mem = s.mem := rfl

/-! ## setRx -/

@[simp] theorem State.setRx_pending (s : State) (i : Nat) (x : RxSlot) : (s.setRx i x).pending = s.pending := rfl
@[simp] theorem State.setRx_fresh (s : State) (i : Nat) (x : RxSlot) : (s.setRx i x).fresh = s.fresh := rfl
@[simp] theorem State.setRx_out (s : State) (i : Nat) (x : RxSlot) : (s.setRx i x).out = s.out := rfl
@[simp] theorem State.setRx_unpred (s : State) (i : Nat) (x : RxSlot) : (s.setRx i x).unpred = s.unpred := rfl
@[simp] theorem State.setRx_sys (s : State) (i : Nat) (x : RxSlot) : (s.setRx i x).sys = s.sys := rfl
@[simp] theorem State.setRx_time (s : State) (i : Nat) (x : RxSlot) : (s.setRx i x).time = s.time := rfl
@[simp] theorem State.setRx_ref (s : State) (i : Nat) (x : RxSlot) : (s.setRx i x).ref = s.ref := rfl
@[simp] theorem State.setRx_host (s : State) (i : Nat) (x : RxSlot) : (s.setRx i x).host = s.host := rfl
@[simp] theorem State.setRx_flt (s : State) (i : Nat) (x : RxSlot) : (s.setRx i x).flt = s.flt := rfl
@[simp] theorem State.setRx_route (s : State) (i : Nat) (x : RxSlot) : (s.setRx i x).route = s.route := rfl
@[simp] theorem State.setRx_aud (s : State) (i : Nat) (x : RxSlot) : (s.setRx i x).aud = s.aud := rfl
@[simp] theorem State.setRx_cald (s : State) (i : Nat) (x : RxSlot) : (s.setRx i x).cald = s.cald := rfl
@[simp] theorem State.setRx_meter (s : State) (i : Nat) (x : RxSlot) : (s.setRx i x).meter = s.meter := rfl
@[simp] theorem State.setRx_vent (s : State) (i : Nat) (x : RxSlot) : (s.setRx i x).vent = s.vent := rfl
@[simp] theorem State.setRx_dec (s : State) (i : Nat) (x : RxSlot) : (s.setRx i x).dec = s.dec := rfl
@[simp] theorem State.setRx_gey (s : State) (i : Nat) (x : RxSlot) : (s.setRx i x).gey = s.gey := rfl
@[simp] theorem State.setRx_tdm (s : State) (i : Nat) (x : RxSlot) : (s.setRx i x).tdm = s.tdm := rfl
@[simp] theorem State.setRx_net (s : State) (i : Nat) (x : RxSlot) : (s.setRx i x).net = s.net := rfl
@[simp] theorem State.setRx_pair (s : State) (i : Nat) (x : RxSlot) : (s.setRx i x).pair = s.pair := rfl
@[simp] theorem State.setRx_cond (s : State) (i : Nat) (x : RxSlot) : (s.setRx i x).cond = s.cond := rfl
@[simp] theorem State.setRx_dma (s : State) (i : Nat) (x : RxSlot) : (s.setRx i x).dma = s.dma := rfl
@[simp] theorem State.setRx_store (s : State) (i : Nat) (x : RxSlot) : (s.setRx i x).store = s.store := rfl
@[simp] theorem State.setRx_mdio (s : State) (i : Nat) (x : RxSlot) : (s.setRx i x).mdio = s.mdio := rfl
@[simp] theorem State.setRx_back (s : State) (i : Nat) (x : RxSlot) : (s.setRx i x).back = s.back := rfl
@[simp] theorem State.setRx_lateOps (s : State) (i : Nat) (x : RxSlot) : (s.setRx i x).lateOps = s.lateOps := rfl
@[simp] theorem State.setRx_mem (s : State) (i : Nat) (x : RxSlot) : (s.setRx i x).mem = s.mem := rfl

/-! ## setTx -/

@[simp] theorem State.setTx_pending (s : State) (i : Nat) (x : TxSlot) : (s.setTx i x).pending = s.pending := rfl
@[simp] theorem State.setTx_fresh (s : State) (i : Nat) (x : TxSlot) : (s.setTx i x).fresh = s.fresh := rfl
@[simp] theorem State.setTx_out (s : State) (i : Nat) (x : TxSlot) : (s.setTx i x).out = s.out := rfl
@[simp] theorem State.setTx_unpred (s : State) (i : Nat) (x : TxSlot) : (s.setTx i x).unpred = s.unpred := rfl
@[simp] theorem State.setTx_sys (s : State) (i : Nat) (x : TxSlot) : (s.setTx i x).sys = s.sys := rfl
@[simp] theorem State.setTx_time (s : State) (i : Nat) (x : TxSlot) : (s.setTx i x).time = s.time := rfl
@[simp] theorem State.setTx_ref (s : State) (i : Nat) (x : TxSlot) : (s.setTx i x).ref = s.ref := rfl
@[simp] theorem State.setTx_host (s : State) (i : Nat) (x : TxSlot) : (s.setTx i x).host = s.host := rfl
@[simp] theorem State.setTx_flt (s : State) (i : Nat) (x : TxSlot) : (s.setTx i x).flt = s.flt := rfl
@[simp] theorem State.setTx_route (s : State) (i : Nat) (x : TxSlot) : (s.setTx i x).route = s.route := rfl
@[simp] theorem State.setTx_aud (s : State) (i : Nat) (x : TxSlot) : (s.setTx i x).aud = s.aud := rfl
@[simp] theorem State.setTx_cald (s : State) (i : Nat) (x : TxSlot) : (s.setTx i x).cald = s.cald := rfl
@[simp] theorem State.setTx_meter (s : State) (i : Nat) (x : TxSlot) : (s.setTx i x).meter = s.meter := rfl
@[simp] theorem State.setTx_vent (s : State) (i : Nat) (x : TxSlot) : (s.setTx i x).vent = s.vent := rfl
@[simp] theorem State.setTx_dec (s : State) (i : Nat) (x : TxSlot) : (s.setTx i x).dec = s.dec := rfl
@[simp] theorem State.setTx_gey (s : State) (i : Nat) (x : TxSlot) : (s.setTx i x).gey = s.gey := rfl
@[simp] theorem State.setTx_tdm (s : State) (i : Nat) (x : TxSlot) : (s.setTx i x).tdm = s.tdm := rfl
@[simp] theorem State.setTx_net (s : State) (i : Nat) (x : TxSlot) : (s.setTx i x).net = s.net := rfl
@[simp] theorem State.setTx_pair (s : State) (i : Nat) (x : TxSlot) : (s.setTx i x).pair = s.pair := rfl
@[simp] theorem State.setTx_cond (s : State) (i : Nat) (x : TxSlot) : (s.setTx i x).cond = s.cond := rfl
@[simp] theorem State.setTx_dma (s : State) (i : Nat) (x : TxSlot) : (s.setTx i x).dma = s.dma := rfl
@[simp] theorem State.setTx_store (s : State) (i : Nat) (x : TxSlot) : (s.setTx i x).store = s.store := rfl
@[simp] theorem State.setTx_mdio (s : State) (i : Nat) (x : TxSlot) : (s.setTx i x).mdio = s.mdio := rfl
@[simp] theorem State.setTx_back (s : State) (i : Nat) (x : TxSlot) : (s.setTx i x).back = s.back := rfl
@[simp] theorem State.setTx_lateOps (s : State) (i : Nat) (x : TxSlot) : (s.setTx i x).lateOps = s.lateOps := rfl
@[simp] theorem State.setTx_mem (s : State) (i : Nat) (x : TxSlot) : (s.setTx i x).mem = s.mem := rfl

/-! ## setPair -/

@[simp] theorem State.setPair_pending (s : State) (p : PairBlk) : (s.setPair p).pending = s.pending := rfl
@[simp] theorem State.setPair_fresh (s : State) (p : PairBlk) : (s.setPair p).fresh = s.fresh := rfl
@[simp] theorem State.setPair_out (s : State) (p : PairBlk) : (s.setPair p).out = s.out := rfl
@[simp] theorem State.setPair_unpred (s : State) (p : PairBlk) : (s.setPair p).unpred = s.unpred := rfl
@[simp] theorem State.setPair_sys (s : State) (p : PairBlk) : (s.setPair p).sys = s.sys := rfl
@[simp] theorem State.setPair_time (s : State) (p : PairBlk) : (s.setPair p).time = s.time := rfl
@[simp] theorem State.setPair_ref (s : State) (p : PairBlk) : (s.setPair p).ref = s.ref := rfl
@[simp] theorem State.setPair_host (s : State) (p : PairBlk) : (s.setPair p).host = s.host := rfl
@[simp] theorem State.setPair_flt (s : State) (p : PairBlk) : (s.setPair p).flt = s.flt := rfl
@[simp] theorem State.setPair_route (s : State) (p : PairBlk) : (s.setPair p).route = s.route := rfl
@[simp] theorem State.setPair_aud (s : State) (p : PairBlk) : (s.setPair p).aud = s.aud := rfl
@[simp] theorem State.setPair_cald (s : State) (p : PairBlk) : (s.setPair p).cald = s.cald := rfl
@[simp] theorem State.setPair_meter (s : State) (p : PairBlk) : (s.setPair p).meter = s.meter := rfl
@[simp] theorem State.setPair_vent (s : State) (p : PairBlk) : (s.setPair p).vent = s.vent := rfl
@[simp] theorem State.setPair_dec (s : State) (p : PairBlk) : (s.setPair p).dec = s.dec := rfl
@[simp] theorem State.setPair_gey (s : State) (p : PairBlk) : (s.setPair p).gey = s.gey := rfl
@[simp] theorem State.setPair_tdm (s : State) (p : PairBlk) : (s.setPair p).tdm = s.tdm := rfl
@[simp] theorem State.setPair_net (s : State) (p : PairBlk) : (s.setPair p).net = s.net := rfl
@[simp] theorem State.setPair_strm (s : State) (p : PairBlk) : (s.setPair p).strm = s.strm := rfl
@[simp] theorem State.setPair_cond (s : State) (p : PairBlk) : (s.setPair p).cond = s.cond := rfl
@[simp] theorem State.setPair_dma (s : State) (p : PairBlk) : (s.setPair p).dma = s.dma := rfl
@[simp] theorem State.setPair_store (s : State) (p : PairBlk) : (s.setPair p).store = s.store := rfl
@[simp] theorem State.setPair_mdio (s : State) (p : PairBlk) : (s.setPair p).mdio = s.mdio := rfl
@[simp] theorem State.setPair_back (s : State) (p : PairBlk) : (s.setPair p).back = s.back := rfl
@[simp] theorem State.setPair_lateOps (s : State) (p : PairBlk) : (s.setPair p).lateOps = s.lateOps := rfl
@[simp] theorem State.setPair_mem (s : State) (p : PairBlk) : (s.setPair p).mem = s.mem := rfl

/-! ## setChanD -/

@[simp] theorem State.setChanD_pending (s : State) (i : Nat) (c : DmaChan) : (s.setChanD i c).pending = s.pending := rfl
@[simp] theorem State.setChanD_fresh (s : State) (i : Nat) (c : DmaChan) : (s.setChanD i c).fresh = s.fresh := rfl
@[simp] theorem State.setChanD_out (s : State) (i : Nat) (c : DmaChan) : (s.setChanD i c).out = s.out := rfl
@[simp] theorem State.setChanD_unpred (s : State) (i : Nat) (c : DmaChan) : (s.setChanD i c).unpred = s.unpred := rfl
@[simp] theorem State.setChanD_sys (s : State) (i : Nat) (c : DmaChan) : (s.setChanD i c).sys = s.sys := rfl
@[simp] theorem State.setChanD_time (s : State) (i : Nat) (c : DmaChan) : (s.setChanD i c).time = s.time := rfl
@[simp] theorem State.setChanD_ref (s : State) (i : Nat) (c : DmaChan) : (s.setChanD i c).ref = s.ref := rfl
@[simp] theorem State.setChanD_host (s : State) (i : Nat) (c : DmaChan) : (s.setChanD i c).host = s.host := rfl
@[simp] theorem State.setChanD_flt (s : State) (i : Nat) (c : DmaChan) : (s.setChanD i c).flt = s.flt := rfl
@[simp] theorem State.setChanD_route (s : State) (i : Nat) (c : DmaChan) : (s.setChanD i c).route = s.route := rfl
@[simp] theorem State.setChanD_aud (s : State) (i : Nat) (c : DmaChan) : (s.setChanD i c).aud = s.aud := rfl
@[simp] theorem State.setChanD_cald (s : State) (i : Nat) (c : DmaChan) : (s.setChanD i c).cald = s.cald := rfl
@[simp] theorem State.setChanD_meter (s : State) (i : Nat) (c : DmaChan) : (s.setChanD i c).meter = s.meter := rfl
@[simp] theorem State.setChanD_vent (s : State) (i : Nat) (c : DmaChan) : (s.setChanD i c).vent = s.vent := rfl
@[simp] theorem State.setChanD_dec (s : State) (i : Nat) (c : DmaChan) : (s.setChanD i c).dec = s.dec := rfl
@[simp] theorem State.setChanD_gey (s : State) (i : Nat) (c : DmaChan) : (s.setChanD i c).gey = s.gey := rfl
@[simp] theorem State.setChanD_tdm (s : State) (i : Nat) (c : DmaChan) : (s.setChanD i c).tdm = s.tdm := rfl
@[simp] theorem State.setChanD_net (s : State) (i : Nat) (c : DmaChan) : (s.setChanD i c).net = s.net := rfl
@[simp] theorem State.setChanD_strm (s : State) (i : Nat) (c : DmaChan) : (s.setChanD i c).strm = s.strm := rfl
@[simp] theorem State.setChanD_pair (s : State) (i : Nat) (c : DmaChan) : (s.setChanD i c).pair = s.pair := rfl
@[simp] theorem State.setChanD_cond (s : State) (i : Nat) (c : DmaChan) : (s.setChanD i c).cond = s.cond := rfl
@[simp] theorem State.setChanD_store (s : State) (i : Nat) (c : DmaChan) : (s.setChanD i c).store = s.store := rfl
@[simp] theorem State.setChanD_mdio (s : State) (i : Nat) (c : DmaChan) : (s.setChanD i c).mdio = s.mdio := rfl
@[simp] theorem State.setChanD_back (s : State) (i : Nat) (c : DmaChan) : (s.setChanD i c).back = s.back := rfl
@[simp] theorem State.setChanD_lateOps (s : State) (i : Nat) (c : DmaChan) : (s.setChanD i c).lateOps = s.lateOps := rfl
@[simp] theorem State.setChanD_mem (s : State) (i : Nat) (c : DmaChan) : (s.setChanD i c).mem = s.mem := rfl

/-! ## setBank -/

@[simp] theorem State.setBank_pending (s : State) (r : Nat) (b : Bool) (x : Bank) : (s.setBank r b x).pending = s.pending := rfl
@[simp] theorem State.setBank_fresh (s : State) (r : Nat) (b : Bool) (x : Bank) : (s.setBank r b x).fresh = s.fresh := rfl
@[simp] theorem State.setBank_out (s : State) (r : Nat) (b : Bool) (x : Bank) : (s.setBank r b x).out = s.out := rfl
@[simp] theorem State.setBank_unpred (s : State) (r : Nat) (b : Bool) (x : Bank) : (s.setBank r b x).unpred = s.unpred := rfl
@[simp] theorem State.setBank_sys (s : State) (r : Nat) (b : Bool) (x : Bank) : (s.setBank r b x).sys = s.sys := rfl
@[simp] theorem State.setBank_time (s : State) (r : Nat) (b : Bool) (x : Bank) : (s.setBank r b x).time = s.time := rfl
@[simp] theorem State.setBank_ref (s : State) (r : Nat) (b : Bool) (x : Bank) : (s.setBank r b x).ref = s.ref := rfl
@[simp] theorem State.setBank_host (s : State) (r : Nat) (b : Bool) (x : Bank) : (s.setBank r b x).host = s.host := rfl
@[simp] theorem State.setBank_flt (s : State) (r : Nat) (b : Bool) (x : Bank) : (s.setBank r b x).flt = s.flt := rfl
@[simp] theorem State.setBank_route (s : State) (r : Nat) (b : Bool) (x : Bank) : (s.setBank r b x).route = s.route := rfl
@[simp] theorem State.setBank_aud (s : State) (r : Nat) (b : Bool) (x : Bank) : (s.setBank r b x).aud = s.aud := rfl
@[simp] theorem State.setBank_cald (s : State) (r : Nat) (b : Bool) (x : Bank) : (s.setBank r b x).cald = s.cald := rfl
@[simp] theorem State.setBank_meter (s : State) (r : Nat) (b : Bool) (x : Bank) : (s.setBank r b x).meter = s.meter := rfl
@[simp] theorem State.setBank_vent (s : State) (r : Nat) (b : Bool) (x : Bank) : (s.setBank r b x).vent = s.vent := rfl
@[simp] theorem State.setBank_dec (s : State) (r : Nat) (b : Bool) (x : Bank) : (s.setBank r b x).dec = s.dec := rfl
@[simp] theorem State.setBank_gey (s : State) (r : Nat) (b : Bool) (x : Bank) : (s.setBank r b x).gey = s.gey := rfl
@[simp] theorem State.setBank_tdm (s : State) (r : Nat) (b : Bool) (x : Bank) : (s.setBank r b x).tdm = s.tdm := rfl
@[simp] theorem State.setBank_net (s : State) (r : Nat) (b : Bool) (x : Bank) : (s.setBank r b x).net = s.net := rfl
@[simp] theorem State.setBank_strm (s : State) (r : Nat) (b : Bool) (x : Bank) : (s.setBank r b x).strm = s.strm := rfl
@[simp] theorem State.setBank_pair (s : State) (r : Nat) (b : Bool) (x : Bank) : (s.setBank r b x).pair = s.pair := rfl
@[simp] theorem State.setBank_cond (s : State) (r : Nat) (b : Bool) (x : Bank) : (s.setBank r b x).cond = s.cond := rfl
@[simp] theorem State.setBank_dma (s : State) (r : Nat) (b : Bool) (x : Bank) : (s.setBank r b x).dma = s.dma := rfl
@[simp] theorem State.setBank_mdio (s : State) (r : Nat) (b : Bool) (x : Bank) : (s.setBank r b x).mdio = s.mdio := rfl
@[simp] theorem State.setBank_back (s : State) (r : Nat) (b : Bool) (x : Bank) : (s.setBank r b x).back = s.back := rfl
@[simp] theorem State.setBank_lateOps (s : State) (r : Nat) (b : Bool) (x : Bank) : (s.setBank r b x).lateOps = s.lateOps := rfl
@[simp] theorem State.setBank_mem (s : State) (r : Nat) (b : Bool) (x : Bank) : (s.setBank r b x).mem = s.mem := rfl

/-! ## setSess -/

@[simp] theorem State.setSess_pending (s : State) (r : Nat) (x : Option Session) : (s.setSess r x).pending = s.pending := rfl
@[simp] theorem State.setSess_fresh (s : State) (r : Nat) (x : Option Session) : (s.setSess r x).fresh = s.fresh := rfl
@[simp] theorem State.setSess_out (s : State) (r : Nat) (x : Option Session) : (s.setSess r x).out = s.out := rfl
@[simp] theorem State.setSess_unpred (s : State) (r : Nat) (x : Option Session) : (s.setSess r x).unpred = s.unpred := rfl
@[simp] theorem State.setSess_sys (s : State) (r : Nat) (x : Option Session) : (s.setSess r x).sys = s.sys := rfl
@[simp] theorem State.setSess_time (s : State) (r : Nat) (x : Option Session) : (s.setSess r x).time = s.time := rfl
@[simp] theorem State.setSess_ref (s : State) (r : Nat) (x : Option Session) : (s.setSess r x).ref = s.ref := rfl
@[simp] theorem State.setSess_host (s : State) (r : Nat) (x : Option Session) : (s.setSess r x).host = s.host := rfl
@[simp] theorem State.setSess_flt (s : State) (r : Nat) (x : Option Session) : (s.setSess r x).flt = s.flt := rfl
@[simp] theorem State.setSess_route (s : State) (r : Nat) (x : Option Session) : (s.setSess r x).route = s.route := rfl
@[simp] theorem State.setSess_aud (s : State) (r : Nat) (x : Option Session) : (s.setSess r x).aud = s.aud := rfl
@[simp] theorem State.setSess_cald (s : State) (r : Nat) (x : Option Session) : (s.setSess r x).cald = s.cald := rfl
@[simp] theorem State.setSess_meter (s : State) (r : Nat) (x : Option Session) : (s.setSess r x).meter = s.meter := rfl
@[simp] theorem State.setSess_vent (s : State) (r : Nat) (x : Option Session) : (s.setSess r x).vent = s.vent := rfl
@[simp] theorem State.setSess_dec (s : State) (r : Nat) (x : Option Session) : (s.setSess r x).dec = s.dec := rfl
@[simp] theorem State.setSess_gey (s : State) (r : Nat) (x : Option Session) : (s.setSess r x).gey = s.gey := rfl
@[simp] theorem State.setSess_tdm (s : State) (r : Nat) (x : Option Session) : (s.setSess r x).tdm = s.tdm := rfl
@[simp] theorem State.setSess_net (s : State) (r : Nat) (x : Option Session) : (s.setSess r x).net = s.net := rfl
@[simp] theorem State.setSess_strm (s : State) (r : Nat) (x : Option Session) : (s.setSess r x).strm = s.strm := rfl
@[simp] theorem State.setSess_pair (s : State) (r : Nat) (x : Option Session) : (s.setSess r x).pair = s.pair := rfl
@[simp] theorem State.setSess_cond (s : State) (r : Nat) (x : Option Session) : (s.setSess r x).cond = s.cond := rfl
@[simp] theorem State.setSess_dma (s : State) (r : Nat) (x : Option Session) : (s.setSess r x).dma = s.dma := rfl
@[simp] theorem State.setSess_mdio (s : State) (r : Nat) (x : Option Session) : (s.setSess r x).mdio = s.mdio := rfl
@[simp] theorem State.setSess_back (s : State) (r : Nat) (x : Option Session) : (s.setSess r x).back = s.back := rfl
@[simp] theorem State.setSess_lateOps (s : State) (r : Nat) (x : Option Session) : (s.setSess r x).lateOps = s.lateOps := rfl
@[simp] theorem State.setSess_mem (s : State) (r : Nat) (x : Option Session) : (s.setSess r x).mem = s.mem := rfl

/-! ## setIsland -/

@[simp] theorem State.setIsland_pending (s : State) (i : Nat) (x : Island) : (s.setIsland i x).pending = s.pending := rfl
@[simp] theorem State.setIsland_fresh (s : State) (i : Nat) (x : Island) : (s.setIsland i x).fresh = s.fresh := rfl
@[simp] theorem State.setIsland_out (s : State) (i : Nat) (x : Island) : (s.setIsland i x).out = s.out := rfl
@[simp] theorem State.setIsland_unpred (s : State) (i : Nat) (x : Island) : (s.setIsland i x).unpred = s.unpred := rfl
@[simp] theorem State.setIsland_time (s : State) (i : Nat) (x : Island) : (s.setIsland i x).time = s.time := rfl
@[simp] theorem State.setIsland_ref (s : State) (i : Nat) (x : Island) : (s.setIsland i x).ref = s.ref := rfl
@[simp] theorem State.setIsland_host (s : State) (i : Nat) (x : Island) : (s.setIsland i x).host = s.host := rfl
@[simp] theorem State.setIsland_flt (s : State) (i : Nat) (x : Island) : (s.setIsland i x).flt = s.flt := rfl
@[simp] theorem State.setIsland_route (s : State) (i : Nat) (x : Island) : (s.setIsland i x).route = s.route := rfl
@[simp] theorem State.setIsland_aud (s : State) (i : Nat) (x : Island) : (s.setIsland i x).aud = s.aud := rfl
@[simp] theorem State.setIsland_cald (s : State) (i : Nat) (x : Island) : (s.setIsland i x).cald = s.cald := rfl
@[simp] theorem State.setIsland_meter (s : State) (i : Nat) (x : Island) : (s.setIsland i x).meter = s.meter := rfl
@[simp] theorem State.setIsland_vent (s : State) (i : Nat) (x : Island) : (s.setIsland i x).vent = s.vent := rfl
@[simp] theorem State.setIsland_dec (s : State) (i : Nat) (x : Island) : (s.setIsland i x).dec = s.dec := rfl
@[simp] theorem State.setIsland_gey (s : State) (i : Nat) (x : Island) : (s.setIsland i x).gey = s.gey := rfl
@[simp] theorem State.setIsland_tdm (s : State) (i : Nat) (x : Island) : (s.setIsland i x).tdm = s.tdm := rfl
@[simp] theorem State.setIsland_net (s : State) (i : Nat) (x : Island) : (s.setIsland i x).net = s.net := rfl
@[simp] theorem State.setIsland_strm (s : State) (i : Nat) (x : Island) : (s.setIsland i x).strm = s.strm := rfl
@[simp] theorem State.setIsland_pair (s : State) (i : Nat) (x : Island) : (s.setIsland i x).pair = s.pair := rfl
@[simp] theorem State.setIsland_cond (s : State) (i : Nat) (x : Island) : (s.setIsland i x).cond = s.cond := rfl
@[simp] theorem State.setIsland_dma (s : State) (i : Nat) (x : Island) : (s.setIsland i x).dma = s.dma := rfl
@[simp] theorem State.setIsland_store (s : State) (i : Nat) (x : Island) : (s.setIsland i x).store = s.store := rfl
@[simp] theorem State.setIsland_mdio (s : State) (i : Nat) (x : Island) : (s.setIsland i x).mdio = s.mdio := rfl
@[simp] theorem State.setIsland_back (s : State) (i : Nat) (x : Island) : (s.setIsland i x).back = s.back := rfl
@[simp] theorem State.setIsland_lateOps (s : State) (i : Nat) (x : Island) : (s.setIsland i x).lateOps = s.lateOps := rfl
@[simp] theorem State.setIsland_mem (s : State) (i : Nat) (x : Island) : (s.setIsland i x).mem = s.mem := rfl

/-! ## putCap -/

@[simp] theorem State.putCap_pending (s : State) (a : Nat) (x : List Sample) : (s.putCap a x).pending = s.pending := rfl
@[simp] theorem State.putCap_fresh (s : State) (a : Nat) (x : List Sample) : (s.putCap a x).fresh = s.fresh := rfl
@[simp] theorem State.putCap_out (s : State) (a : Nat) (x : List Sample) : (s.putCap a x).out = s.out := rfl
@[simp] theorem State.putCap_unpred (s : State) (a : Nat) (x : List Sample) : (s.putCap a x).unpred = s.unpred := rfl
@[simp] theorem State.putCap_sys (s : State) (a : Nat) (x : List Sample) : (s.putCap a x).sys = s.sys := rfl
@[simp] theorem State.putCap_time (s : State) (a : Nat) (x : List Sample) : (s.putCap a x).time = s.time := rfl
@[simp] theorem State.putCap_ref (s : State) (a : Nat) (x : List Sample) : (s.putCap a x).ref = s.ref := rfl
@[simp] theorem State.putCap_host (s : State) (a : Nat) (x : List Sample) : (s.putCap a x).host = s.host := rfl
@[simp] theorem State.putCap_flt (s : State) (a : Nat) (x : List Sample) : (s.putCap a x).flt = s.flt := rfl
@[simp] theorem State.putCap_route (s : State) (a : Nat) (x : List Sample) : (s.putCap a x).route = s.route := rfl
@[simp] theorem State.putCap_cald (s : State) (a : Nat) (x : List Sample) : (s.putCap a x).cald = s.cald := rfl
@[simp] theorem State.putCap_meter (s : State) (a : Nat) (x : List Sample) : (s.putCap a x).meter = s.meter := rfl
@[simp] theorem State.putCap_vent (s : State) (a : Nat) (x : List Sample) : (s.putCap a x).vent = s.vent := rfl
@[simp] theorem State.putCap_dec (s : State) (a : Nat) (x : List Sample) : (s.putCap a x).dec = s.dec := rfl
@[simp] theorem State.putCap_gey (s : State) (a : Nat) (x : List Sample) : (s.putCap a x).gey = s.gey := rfl
@[simp] theorem State.putCap_tdm (s : State) (a : Nat) (x : List Sample) : (s.putCap a x).tdm = s.tdm := rfl
@[simp] theorem State.putCap_net (s : State) (a : Nat) (x : List Sample) : (s.putCap a x).net = s.net := rfl
@[simp] theorem State.putCap_strm (s : State) (a : Nat) (x : List Sample) : (s.putCap a x).strm = s.strm := rfl
@[simp] theorem State.putCap_pair (s : State) (a : Nat) (x : List Sample) : (s.putCap a x).pair = s.pair := rfl
@[simp] theorem State.putCap_cond (s : State) (a : Nat) (x : List Sample) : (s.putCap a x).cond = s.cond := rfl
@[simp] theorem State.putCap_dma (s : State) (a : Nat) (x : List Sample) : (s.putCap a x).dma = s.dma := rfl
@[simp] theorem State.putCap_store (s : State) (a : Nat) (x : List Sample) : (s.putCap a x).store = s.store := rfl
@[simp] theorem State.putCap_mdio (s : State) (a : Nat) (x : List Sample) : (s.putCap a x).mdio = s.mdio := rfl
@[simp] theorem State.putCap_back (s : State) (a : Nat) (x : List Sample) : (s.putCap a x).back = s.back := rfl
@[simp] theorem State.putCap_lateOps (s : State) (a : Nat) (x : List Sample) : (s.putCap a x).lateOps = s.lateOps := rfl
@[simp] theorem State.putCap_mem (s : State) (a : Nat) (x : List Sample) : (s.putCap a x).mem = s.mem := rfl

/-! ## predictable -/

@[simp] theorem State.predictable_pending (s : State) (bs : List Blk) : (s.predictable bs).pending = s.pending := rfl
@[simp] theorem State.predictable_fresh (s : State) (bs : List Blk) : (s.predictable bs).fresh = s.fresh := rfl
@[simp] theorem State.predictable_out (s : State) (bs : List Blk) : (s.predictable bs).out = s.out := rfl
@[simp] theorem State.predictable_sys (s : State) (bs : List Blk) : (s.predictable bs).sys = s.sys := rfl
@[simp] theorem State.predictable_time (s : State) (bs : List Blk) : (s.predictable bs).time = s.time := rfl
@[simp] theorem State.predictable_ref (s : State) (bs : List Blk) : (s.predictable bs).ref = s.ref := rfl
@[simp] theorem State.predictable_host (s : State) (bs : List Blk) : (s.predictable bs).host = s.host := rfl
@[simp] theorem State.predictable_flt (s : State) (bs : List Blk) : (s.predictable bs).flt = s.flt := rfl
@[simp] theorem State.predictable_route (s : State) (bs : List Blk) : (s.predictable bs).route = s.route := rfl
@[simp] theorem State.predictable_aud (s : State) (bs : List Blk) : (s.predictable bs).aud = s.aud := rfl
@[simp] theorem State.predictable_cald (s : State) (bs : List Blk) : (s.predictable bs).cald = s.cald := rfl
@[simp] theorem State.predictable_meter (s : State) (bs : List Blk) : (s.predictable bs).meter = s.meter := rfl
@[simp] theorem State.predictable_vent (s : State) (bs : List Blk) : (s.predictable bs).vent = s.vent := rfl
@[simp] theorem State.predictable_dec (s : State) (bs : List Blk) : (s.predictable bs).dec = s.dec := rfl
@[simp] theorem State.predictable_gey (s : State) (bs : List Blk) : (s.predictable bs).gey = s.gey := rfl
@[simp] theorem State.predictable_tdm (s : State) (bs : List Blk) : (s.predictable bs).tdm = s.tdm := rfl
@[simp] theorem State.predictable_net (s : State) (bs : List Blk) : (s.predictable bs).net = s.net := rfl
@[simp] theorem State.predictable_strm (s : State) (bs : List Blk) : (s.predictable bs).strm = s.strm := rfl
@[simp] theorem State.predictable_pair (s : State) (bs : List Blk) : (s.predictable bs).pair = s.pair := rfl
@[simp] theorem State.predictable_cond (s : State) (bs : List Blk) : (s.predictable bs).cond = s.cond := rfl
@[simp] theorem State.predictable_dma (s : State) (bs : List Blk) : (s.predictable bs).dma = s.dma := rfl
@[simp] theorem State.predictable_store (s : State) (bs : List Blk) : (s.predictable bs).store = s.store := rfl
@[simp] theorem State.predictable_mdio (s : State) (bs : List Blk) : (s.predictable bs).mdio = s.mdio := rfl
@[simp] theorem State.predictable_back (s : State) (bs : List Blk) : (s.predictable bs).back = s.back := rfl
@[simp] theorem State.predictable_lateOps (s : State) (bs : List Blk) : (s.predictable bs).lateOps = s.lateOps := rfl
@[simp] theorem State.predictable_mem (s : State) (bs : List Blk) : (s.predictable bs).mem = s.mem := rfl

/-! ## What is read back -/

theorem getD_set_same {α : Type} (l : List α) (i : Nat) (x d : α) (h : i < l.length) : (l.set i x).getD i d = x := by
  simp [List.getD, h]

theorem getD_set_other {α : Type} (l : List α) (i j : Nat) (x d : α) (h : i ≠ j) : (l.set i x).getD j d = l.getD j d := by
  simp [List.getD, List.getElem?_set_ne h]

theorem State.core_setCore (s : State) (i : Nat) (x : Core) (h : i < s.vent.cores.length) : (s.setCore i x).core i = x :=
  getD_set_same _ i x _ h

theorem State.core_setCore_ne (s : State) (i j : Nat) (x : Core) (h : i ≠ j) : (s.setCore i x).core j = s.core j :=
  getD_set_other _ i j x _ h

theorem State.port_setPort (s : State) (i : Nat) (x : Port) (h : i < s.net.ports.length) : (s.setPort i x).port i = x :=
  getD_set_same _ i x _ h

theorem State.port_setPort_ne (s : State) (i j : Nat) (x : Port) (h : i ≠ j) : (s.setPort i x).port j = s.port j :=
  getD_set_other _ i j x _ h

theorem State.rfc_setRef (s : State) (i : Nat) (x : RefSt) (h : i < s.ref.refs.length) : (s.setRef i x).rfc i = x :=
  getD_set_same _ i x _ h

theorem State.rfc_setRef_ne (s : State) (i j : Nat) (x : RefSt) (h : i ≠ j) : (s.setRef i x).rfc j = s.rfc j :=
  getD_set_other _ i j x _ h

theorem State.dpll_setDpll (s : State) (i : Nat) (x : Dpll) (h : i < s.ref.dplls.length) : (s.setDpll i x).dpll i = x :=
  getD_set_same _ i x _ h

theorem State.dpll_setDpll_ne (s : State) (i j : Nat) (x : Dpll) (h : i ≠ j) : (s.setDpll i x).dpll j = s.dpll j :=
  getD_set_other _ i j x _ h

theorem State.inst_setInst (s : State) (i : Nat) (x : PtpInst) (h : i < s.time.insts.length) : (s.setInst i x).inst i = x :=
  getD_set_same _ i x _ h

theorem State.inst_setInst_ne (s : State) (i j : Nat) (x : PtpInst) (h : i ≠ j) : (s.setInst i x).inst j = s.inst j :=
  getD_set_other _ i j x _ h

theorem State.ggroup_setG (s : State) (i : Nat) (x : GGroup) (h : i < s.gey.groups.length) : (s.setG i x).ggroup i = x :=
  getD_set_same _ i x _ h

theorem State.ggroup_setG_ne (s : State) (i j : Nat) (x : GGroup) (h : i ≠ j) : (s.setG i x).ggroup j = s.ggroup j :=
  getD_set_other _ i j x _ h

theorem State.gch_setCh (s : State) (i : Nat) (x : GChan) (h : i < s.gey.chans.length) : (s.setCh i x).gch i = x :=
  getD_set_same _ i x _ h

theorem State.gch_setCh_ne (s : State) (i j : Nat) (x : GChan) (h : i ≠ j) : (s.setCh i x).gch j = s.gch j :=
  getD_set_other _ i j x _ h

theorem State.tgroup_setTG (s : State) (i : Nat) (x : TGroup) (h : i < s.tdm.groups.length) : (s.setTG i x).tgroup i = x :=
  getD_set_same _ i x _ h

theorem State.tgroup_setTG_ne (s : State) (i j : Nat) (x : TGroup) (h : i ≠ j) : (s.setTG i x).tgroup j = s.tgroup j :=
  getD_set_other _ i j x _ h

theorem State.tport_setTP (s : State) (i : Nat) (x : TPort) (h : i < s.tdm.ports.length) : (s.setTP i x).tport i = x :=
  getD_set_same _ i x _ h

theorem State.tport_setTP_ne (s : State) (i j : Nat) (x : TPort) (h : i ≠ j) : (s.setTP i x).tport j = s.tport j :=
  getD_set_other _ i j x _ h

theorem State.rxSlot_setRx (s : State) (i : Nat) (x : RxSlot) (h : i < s.strm.rx.length) : (s.setRx i x).rxSlot i = x :=
  getD_set_same _ i x _ h

theorem State.rxSlot_setRx_ne (s : State) (i j : Nat) (x : RxSlot) (h : i ≠ j) : (s.setRx i x).rxSlot j = s.rxSlot j :=
  getD_set_other _ i j x _ h

theorem State.txSlot_setTx (s : State) (i : Nat) (x : TxSlot) (h : i < s.strm.tx.length) : (s.setTx i x).txSlot i = x :=
  getD_set_same _ i x _ h

theorem State.txSlot_setTx_ne (s : State) (i j : Nat) (x : TxSlot) (h : i ≠ j) : (s.setTx i x).txSlot j = s.txSlot j :=
  getD_set_other _ i j x _ h

theorem State.chanD_setChanD (s : State) (i : Nat) (x : DmaChan) (h : i < s.dma.length) : (s.setChanD i x).chanD i = x :=
  getD_set_same _ i x _ h

theorem State.chanD_setChanD_ne (s : State) (i j : Nat) (x : DmaChan) (h : i ≠ j) : (s.setChanD i x).chanD j = s.chanD j :=
  getD_set_other _ i j x _ h

theorem State.island_setIsland (s : State) (i : Nat) (x : Island) (h : i < s.sys.islands.length) : (s.setIsland i x).island i = x :=
  getD_set_same _ i x _ h

theorem State.island_setIsland_ne (s : State) (i j : Nat) (x : Island) (h : i ≠ j) : (s.setIsland i x).island j = s.island j :=
  getD_set_other _ i j x _ h

theorem State.sess_setSess (s : State) (i : Nat) (x : Option Session) (h : i < s.store.sess.length) : (s.setSess i x).sess i = x :=
  getD_set_same _ i x _ h

theorem State.sess_setSess_ne (s : State) (i j : Nat) (x : Option Session) (h : i ≠ j) : (s.setSess i x).sess j = s.sess j :=
  getD_set_other _ i j x _ h

@[simp] theorem State.chan_setChan (s : State) (c : ChanId) (x : ChanSt) : (s.setChan c x).chan c = x := by cases c <;> rfl

theorem State.chan_setChan_ne (s : State) (c d : ChanId) (x : ChanSt) (h : d ≠ c) : (s.setChan c x).chan d = s.chan d := by
  cases c <;> cases d <;> first | rfl | exact absurd rfl h

end Sys2Proof.Machine
end

