-- ==== Sys2Proof/Laws/Effects.lean ====
section
/-! SUPPORT. What sending a packet, an event or a cell, an interrupt, a journal record and a fault leave alone: all of the
state but what quiet or still leaves out. -/

namespace Sys2Proof.Machine
open Sys2Proof

/-- What packets, events, cells and interrupts leave. -/
structure Quiet where
  pending : List Instr
  fresh : Nat
  unpred : List Blk
  sys : SysSt
  time : TimeBlk
  ref : RefBlk
  route : RouteBlk
  aud : AudBlk
  cald : CaldBlk
  meter : MeterBlk
  vent : VentBlk
  dec : DecBlk
  gey : GeyBlk
  tdm : TdmBlk
  strm : StrmBlk
  cond : CondBlk
  dma : List DmaChan
  store : StoreSt
  mdio : List MdioOp
  back : Option Back
  lateOps : List (Nat × List W32)
  mem : List Host.Cell

/-- What faults leave as well. -/
structure Still where
  pending : List Instr
  fresh : Nat
  unpred : List Blk
  time : TimeBlk
  ref : RefBlk
  route : RouteBlk
  aud : AudBlk
  cald : CaldBlk
  meter : MeterBlk
  vent : VentBlk
  dec : DecBlk
  gey : GeyBlk
  tdm : TdmBlk
  strm : StrmBlk
  cond : CondBlk
  dma : List DmaChan
  mdio : List MdioOp
  back : Option Back
  lateOps : List (Nat × List W32)
  mem : List Host.Cell

def State.quiet (s : State) : Quiet :=
  ⟨s.pending, s.fresh, s.unpred, s.sys, s.time, s.ref, s.route, s.aud, s.cald, s.meter, s.vent, s.dec, s.gey,
    s.tdm, s.strm, s.cond, s.dma, s.store, s.mdio, s.back, s.lateOps, s.mem⟩

def State.still (s : State) : Still :=
  ⟨s.pending, s.fresh, s.unpred, s.time, s.ref, s.route, s.aud, s.cald, s.meter, s.vent, s.dec, s.gey, s.tdm,
    s.strm, s.cond, s.dma, s.mdio, s.back, s.lateOps, s.mem⟩

def Quiet.still (s : Quiet) : Still :=
  ⟨s.pending, s.fresh, s.unpred, s.time, s.ref, s.route, s.aud, s.cald, s.meter, s.vent, s.dec, s.gey, s.tdm,
    s.strm, s.cond, s.dma, s.mdio, s.back, s.lateOps, s.mem⟩

theorem State.still_of_quiet {s t : State} (h : s.quiet = t.quiet) : s.still = t.still := congrArg Quiet.still h

theorem foldl_keeps {α β : Type} (p : State → β) (f : State → α → State) (h : ∀ s x, p (f s x) = p s) (l : List α)
    (s : State) : p (l.foldl f s) = p s := by
  induction l generalizing s with
  | nil => rfl
  | cons x t ih => rw [List.foldl_cons, ih, h]

@[simp] theorem State.emit_quiet (s : State) (o : Out) : (s.emit o).quiet = s.quiet := rfl

@[simp] theorem State.setPort_quiet (s : State) (i : Nat) (p : Port) : (s.setPort i p).quiet = s.quiet := rfl

@[simp] theorem State.countPort_quiet (s : State) (i c n : Nat) : (s.countPort i c n).quiet = s.quiet := rfl

@[simp] theorem State.emitUdp_quiet (s : State) (ip port : Nat) (ws tag : List W32) :
    (s.emitUdp ip port ws tag).quiet = s.quiet := by
  simp only [State.emitUdp]; split <;> simp

@[simp] theorem State.sendVec_quiet (s : State) (n : Nat) : (s.sendVec n).quiet = s.quiet := by
  simp only [State.sendVec]; split <;> rfl

@[simp] theorem State.setInt_quiet (s : State) (n : Nat) : (s.setInt n).quiet = s.quiet := by
  simp only [State.setInt]
  split
  · rfl
  · split
    · rfl
    · rw [State.sendVec_quiet]; rfl

@[simp] theorem State.setChan_quiet (s : State) (c : ChanId) (x : ChanSt) : (s.setChan c x).quiet = s.quiet := by
  cases c <;> rfl

@[simp] theorem State.ringReply_quiet (s : State) (ws : List W32) : (s.ringReply ws).quiet = s.quiet := by
  simp only [State.ringReply, State.setInt_quiet]; rfl

@[simp] theorem State.deliverReply_quiet (s : State) (c : ChanId) (src : UdpSrc) (ws : List W32) :
    (s.deliverReply c src ws).quiet = s.quiet := by
  cases c
  · simp only [State.deliverReply]; split
    · rfl
    · exact State.ringReply_quiet ..
  · rfl
  · exact State.emitUdp_quiet ..

@[simp] theorem State.sendReply_quiet (s : State) (c : ChanId) (src : UdpSrc) (op st : Nat) (seq tick : W32) (d : List W32)
    (held : Bool) : (s.sendReply c src op st seq tick d held).quiet = s.quiet := by
  simp only [State.sendReply]
  rw [foldl_keeps State.quiet _ (fun _ _ => State.deliverReply_quiet ..), State.deliverReply_quiet, State.setChan_quiet]

@[simp] theorem State.sendCell_quiet (s : State) (c : Cell) : (s.sendCell c).quiet = s.quiet := by
  simp only [State.sendCell]; split <;> rfl

@[simp] theorem State.answer_quiet (s : State) (o : Origin) (op st : Nat) (seq tick : W32) (d : List W32) (fin : Bool) :
    (s.answer o op st seq tick d fin).quiet = s.quiet := by
  cases o
  · exact State.sendReply_quiet ..
  · exact State.sendCell_quiet ..
  · rfl

theorem State.flt_quiet (s : State) (f : FltSt) : ({ s with flt := f } : State).quiet = s.quiet := rfl

@[simp] theorem State.journal_quiet (s : State) (stamp : Nat) (h l : W32) : (s.journal stamp h l).quiet = s.quiet :=
  State.flt_quiet s _

@[simp] theorem State.notice_quiet (s : State) (k : Nat) (c : W32) : (s.notice k c).quiet = s.quiet :=
  State.journal_quiet ..

@[simp] theorem State.ringEvent_quiet (s : State) (ws : List W32) : (s.ringEvent ws).quiet = s.quiet := by
  simp only [State.ringEvent, State.setInt_quiet]; rfl

@[simp] theorem State.deliverEvent_quiet (s : State) (c : ChanId) (ws : List W32) : (s.deliverEvent c ws).quiet = s.quiet := by
  cases c
  · simp only [State.deliverEvent]; split
    · exact State.ringEvent_quiet ..
    · rfl
  · rfl
  · simp only [State.deliverEvent]; split
    · rfl
    · exact State.emitUdp_quiet ..

@[simp] theorem State.eventOn_quiet (s : State) (c : ChanId) (op stamp : Nat) (d : List W32) :
    (s.eventOn c op stamp d).quiet = s.quiet := by
  simp only [State.eventOn, State.deliverEvent_quiet, State.setChan_quiet]

@[simp] theorem State.eventAt_quiet (s : State) (op stamp : Nat) (d : List W32) : (s.eventAt op stamp d).quiet = s.quiet := by
  simp only [State.eventAt]
  split <;> simp [State.journal_quiet]

@[simp] theorem State.event_quiet (s : State) (op : Nat) (d : List W32) : (s.event op d).quiet = s.quiet :=
  State.eventAt_quiet ..

@[simp] theorem State.faultEvent_quiet (s : State) (stamp : Nat) (r : FltRec) : (s.faultEvent stamp r).quiet = s.quiet := by
  simp only [State.faultEvent]
  split
  · rw [State.eventAt_quiet]; rfl
  · rfl

@[simp] theorem State.stopKa_quiet (s : State) : s.stopKa.quiet = s.quiet := by
  simp only [State.stopKa]; split <;> rfl

@[simp] theorem State.fatalPath_still (s : State) (b : Bool) : (s.fatalPath b).still = s.still := by
  have h : (if s.stopKa.pair.hb then s.stopKa.sendCell (s.stopKa.hbCell (s.stopKa.time.sub * 96 / 125000) true)
      else s.stopKa).quiet = s.quiet := by split <;> simp
  have h' := State.still_of_quiet h
  simp only [State.fatalPath]
  split <;> exact h'

@[simp] theorem State.fumarole_still (s : State) (m : FaultMsg) (stamp cls : Nat) (irq ev hist : Bool) :
    (s.fumarole m stamp cls irq ev hist).still = s.still := by
  unfold State.fumarole
  lift_lets
  intro hw r s1 f1 f2 s2 s3 s4
  have h2 : s2.still = s.still := State.still_of_quiet ((State.flt_quiet s1 f2).trans (State.journal_quiet s stamp hw m.ctx))
  have h3 : s3.still = s.still := by
    simp only [s3]; split
    · exact (State.still_of_quiet (State.setInt_quiet ..)).trans h2
    · exact h2
  have h4 : s4.still = s.still := by
    simp only [s4]; split
    · exact (State.still_of_quiet (State.faultEvent_quiet ..)).trans h3
    · exact h3
  clear_value s4 s3 s2
  split
  · exact h2
  · split
    · exact h4
    · split
      · exact (State.fatalPath_still ..).trans h4
      · exact h4

@[simp] theorem State.raiseWith_still (s : State) (stamp src inst kind : Nat) (c : W32) (d : Nat) (fx : Bool) :
    (s.raiseWith stamp src inst kind c d fx).still = s.still := State.fumarole_still ..

@[simp] theorem State.raise_still (s : State) (src inst kind : Nat) (c : W32) : (s.raise src inst kind c).still = s.still :=
  State.fumarole_still ..

/-! ## The fields that sendReply leaves -/

@[simp] theorem State.sendReply_pending (s : State) (c : ChanId) (src : UdpSrc) (op st : Nat) (seq tick : W32) (d : List W32) (held : Bool) :
    (s.sendReply c src op st seq tick d held).pending = s.pending := congrArg Quiet.pending (State.sendReply_quiet s c src op st seq tick d held)

@[simp] theorem State.sendReply_fresh (s : State) (c : ChanId) (src : UdpSrc) (op st : Nat) (seq tick : W32) (d : List W32) (held : Bool) :
    (s.sendReply c src op st seq tick d held).fresh = s.fresh := congrArg Quiet.fresh (State.sendReply_quiet s c src op st seq tick d held)

@[simp] theorem State.sendReply_unpred (s : State) (c : ChanId) (src : UdpSrc) (op st : Nat) (seq tick : W32) (d : List W32) (held : Bool) :
    (s.sendReply c src op st seq tick d held).unpred = s.unpred := congrArg Quiet.unpred (State.sendReply_quiet s c src op st seq tick d held)

@[simp] theorem State.sendReply_sys (s : State) (c : ChanId) (src : UdpSrc) (op st : Nat) (seq tick : W32) (d : List W32) (held : Bool) :
    (s.sendReply c src op st seq tick d held).sys = s.sys := congrArg Quiet.sys (State.sendReply_quiet s c src op st seq tick d held)

@[simp] theorem State.sendReply_time (s : State) (c : ChanId) (src : UdpSrc) (op st : Nat) (seq tick : W32) (d : List W32) (held : Bool) :
    (s.sendReply c src op st seq tick d held).time = s.time := congrArg Quiet.time (State.sendReply_quiet s c src op st seq tick d held)

@[simp] theorem State.sendReply_ref (s : State) (c : ChanId) (src : UdpSrc) (op st : Nat) (seq tick : W32) (d : List W32) (held : Bool) :
    (s.sendReply c src op st seq tick d held).ref = s.ref := congrArg Quiet.ref (State.sendReply_quiet s c src op st seq tick d held)

@[simp] theorem State.sendReply_route (s : State) (c : ChanId) (src : UdpSrc) (op st : Nat) (seq tick : W32) (d : List W32) (held : Bool) :
    (s.sendReply c src op st seq tick d held).route = s.route := congrArg Quiet.route (State.sendReply_quiet s c src op st seq tick d held)

@[simp] theorem State.sendReply_aud (s : State) (c : ChanId) (src : UdpSrc) (op st : Nat) (seq tick : W32) (d : List W32) (held : Bool) :
    (s.sendReply c src op st seq tick d held).aud = s.aud := congrArg Quiet.aud (State.sendReply_quiet s c src op st seq tick d held)

@[simp] theorem State.sendReply_cald (s : State) (c : ChanId) (src : UdpSrc) (op st : Nat) (seq tick : W32) (d : List W32) (held : Bool) :
    (s.sendReply c src op st seq tick d held).cald = s.cald := congrArg Quiet.cald (State.sendReply_quiet s c src op st seq tick d held)

@[simp] theorem State.sendReply_meter (s : State) (c : ChanId) (src : UdpSrc) (op st : Nat) (seq tick : W32) (d : List W32) (held : Bool) :
    (s.sendReply c src op st seq tick d held).meter = s.meter := congrArg Quiet.meter (State.sendReply_quiet s c src op st seq tick d held)

@[simp] theorem State.sendReply_vent (s : State) (c : ChanId) (src : UdpSrc) (op st : Nat) (seq tick : W32) (d : List W32) (held : Bool) :
    (s.sendReply c src op st seq tick d held).vent = s.vent := congrArg Quiet.vent (State.sendReply_quiet s c src op st seq tick d held)

@[simp] theorem State.sendReply_dec (s : State) (c : ChanId) (src : UdpSrc) (op st : Nat) (seq tick : W32) (d : List W32) (held : Bool) :
    (s.sendReply c src op st seq tick d held).dec = s.dec := congrArg Quiet.dec (State.sendReply_quiet s c src op st seq tick d held)

@[simp] theorem State.sendReply_gey (s : State) (c : ChanId) (src : UdpSrc) (op st : Nat) (seq tick : W32) (d : List W32) (held : Bool) :
    (s.sendReply c src op st seq tick d held).gey = s.gey := congrArg Quiet.gey (State.sendReply_quiet s c src op st seq tick d held)

@[simp] theorem State.sendReply_tdm (s : State) (c : ChanId) (src : UdpSrc) (op st : Nat) (seq tick : W32) (d : List W32) (held : Bool) :
    (s.sendReply c src op st seq tick d held).tdm = s.tdm := congrArg Quiet.tdm (State.sendReply_quiet s c src op st seq tick d held)

@[simp] theorem State.sendReply_strm (s : State) (c : ChanId) (src : UdpSrc) (op st : Nat) (seq tick : W32) (d : List W32) (held : Bool) :
    (s.sendReply c src op st seq tick d held).strm = s.strm := congrArg Quiet.strm (State.sendReply_quiet s c src op st seq tick d held)

@[simp] theorem State.sendReply_cond (s : State) (c : ChanId) (src : UdpSrc) (op st : Nat) (seq tick : W32) (d : List W32) (held : Bool) :
    (s.sendReply c src op st seq tick d held).cond = s.cond := congrArg Quiet.cond (State.sendReply_quiet s c src op st seq tick d held)

@[simp] theorem State.sendReply_dma (s : State) (c : ChanId) (src : UdpSrc) (op st : Nat) (seq tick : W32) (d : List W32) (held : Bool) :
    (s.sendReply c src op st seq tick d held).dma = s.dma := congrArg Quiet.dma (State.sendReply_quiet s c src op st seq tick d held)

@[simp] theorem State.sendReply_store (s : State) (c : ChanId) (src : UdpSrc) (op st : Nat) (seq tick : W32) (d : List W32) (held : Bool) :
    (s.sendReply c src op st seq tick d held).store = s.store := congrArg Quiet.store (State.sendReply_quiet s c src op st seq tick d held)

@[simp] theorem State.sendReply_mdio (s : State) (c : ChanId) (src : UdpSrc) (op st : Nat) (seq tick : W32) (d : List W32) (held : Bool) :
    (s.sendReply c src op st seq tick d held).mdio = s.mdio := congrArg Quiet.mdio (State.sendReply_quiet s c src op st seq tick d held)

@[simp] theorem State.sendReply_back (s : State) (c : ChanId) (src : UdpSrc) (op st : Nat) (seq tick : W32) (d : List W32) (held : Bool) :
    (s.sendReply c src op st seq tick d held).back = s.back := congrArg Quiet.back (State.sendReply_quiet s c src op st seq tick d held)

@[simp] theorem State.sendReply_lateOps (s : State) (c : ChanId) (src : UdpSrc) (op st : Nat) (seq tick : W32) (d : List W32) (held : Bool) :
    (s.sendReply c src op st seq tick d held).lateOps = s.lateOps := congrArg Quiet.lateOps (State.sendReply_quiet s c src op st seq tick d held)

@[simp] theorem State.sendReply_mem (s : State) (c : ChanId) (src : UdpSrc) (op st : Nat) (seq tick : W32) (d : List W32) (held : Bool) :
    (s.sendReply c src op st seq tick d held).mem = s.mem := congrArg Quiet.mem (State.sendReply_quiet s c src op st seq tick d held)

/-! ## The fields that sendCell leaves -/

@[simp] theorem State.sendCell_pending (s : State) (c : Cell) :
    (s.sendCell c).pending = s.pending := congrArg Quiet.pending (State.sendCell_quiet s c)

@[simp] theorem State.sendCell_fresh (s : State) (c : Cell) :
    (s.sendCell c).fresh = s.fresh := congrArg Quiet.fresh (State.sendCell_quiet s c)

@[simp] theorem State.sendCell_unpred (s : State) (c : Cell) :
    (s.sendCell c).unpred = s.unpred := congrArg Quiet.unpred (State.sendCell_quiet s c)

@[simp] theorem State.sendCell_sys (s : State) (c : Cell) :
    (s.sendCell c).sys = s.sys := congrArg Quiet.sys (State.sendCell_quiet s c)

@[simp] theorem State.sendCell_time (s : State) (c : Cell) :
    (s.sendCell c).time = s.time := congrArg Quiet.time (State.sendCell_quiet s c)

@[simp] theorem State.sendCell_ref (s : State) (c : Cell) :
    (s.sendCell c).ref = s.ref := congrArg Quiet.ref (State.sendCell_quiet s c)

@[simp] theorem State.sendCell_route (s : State) (c : Cell) :
    (s.sendCell c).route = s.route := congrArg Quiet.route (State.sendCell_quiet s c)

@[simp] theorem State.sendCell_aud (s : State) (c : Cell) :
    (s.sendCell c).aud = s.aud := congrArg Quiet.aud (State.sendCell_quiet s c)

@[simp] theorem State.sendCell_cald (s : State) (c : Cell) :
    (s.sendCell c).cald = s.cald := congrArg Quiet.cald (State.sendCell_quiet s c)

@[simp] theorem State.sendCell_meter (s : State) (c : Cell) :
    (s.sendCell c).meter = s.meter := congrArg Quiet.meter (State.sendCell_quiet s c)

@[simp] theorem State.sendCell_vent (s : State) (c : Cell) :
    (s.sendCell c).vent = s.vent := congrArg Quiet.vent (State.sendCell_quiet s c)

@[simp] theorem State.sendCell_dec (s : State) (c : Cell) :
    (s.sendCell c).dec = s.dec := congrArg Quiet.dec (State.sendCell_quiet s c)

@[simp] theorem State.sendCell_gey (s : State) (c : Cell) :
    (s.sendCell c).gey = s.gey := congrArg Quiet.gey (State.sendCell_quiet s c)

@[simp] theorem State.sendCell_tdm (s : State) (c : Cell) :
    (s.sendCell c).tdm = s.tdm := congrArg Quiet.tdm (State.sendCell_quiet s c)

@[simp] theorem State.sendCell_strm (s : State) (c : Cell) :
    (s.sendCell c).strm = s.strm := congrArg Quiet.strm (State.sendCell_quiet s c)

@[simp] theorem State.sendCell_cond (s : State) (c : Cell) :
    (s.sendCell c).cond = s.cond := congrArg Quiet.cond (State.sendCell_quiet s c)

@[simp] theorem State.sendCell_dma (s : State) (c : Cell) :
    (s.sendCell c).dma = s.dma := congrArg Quiet.dma (State.sendCell_quiet s c)

@[simp] theorem State.sendCell_store (s : State) (c : Cell) :
    (s.sendCell c).store = s.store := congrArg Quiet.store (State.sendCell_quiet s c)

@[simp] theorem State.sendCell_mdio (s : State) (c : Cell) :
    (s.sendCell c).mdio = s.mdio := congrArg Quiet.mdio (State.sendCell_quiet s c)

@[simp] theorem State.sendCell_back (s : State) (c : Cell) :
    (s.sendCell c).back = s.back := congrArg Quiet.back (State.sendCell_quiet s c)

@[simp] theorem State.sendCell_lateOps (s : State) (c : Cell) :
    (s.sendCell c).lateOps = s.lateOps := congrArg Quiet.lateOps (State.sendCell_quiet s c)

@[simp] theorem State.sendCell_mem (s : State) (c : Cell) :
    (s.sendCell c).mem = s.mem := congrArg Quiet.mem (State.sendCell_quiet s c)

/-! ## The fields that event leaves -/

@[simp] theorem State.event_pending (s : State) (op : Nat) (d : List W32) :
    (s.event op d).pending = s.pending := congrArg Quiet.pending (State.event_quiet s op d)

@[simp] theorem State.event_fresh (s : State) (op : Nat) (d : List W32) :
    (s.event op d).fresh = s.fresh := congrArg Quiet.fresh (State.event_quiet s op d)

@[simp] theorem State.event_unpred (s : State) (op : Nat) (d : List W32) :
    (s.event op d).unpred = s.unpred := congrArg Quiet.unpred (State.event_quiet s op d)

@[simp] theorem State.event_sys (s : State) (op : Nat) (d : List W32) :
    (s.event op d).sys = s.sys := congrArg Quiet.sys (State.event_quiet s op d)

@[simp] theorem State.event_time (s : State) (op : Nat) (d : List W32) :
    (s.event op d).time = s.time := congrArg Quiet.time (State.event_quiet s op d)

@[simp] theorem State.event_ref (s : State) (op : Nat) (d : List W32) :
    (s.event op d).ref = s.ref := congrArg Quiet.ref (State.event_quiet s op d)

@[simp] theorem State.event_route (s : State) (op : Nat) (d : List W32) :
    (s.event op d).route = s.route := congrArg Quiet.route (State.event_quiet s op d)

@[simp] theorem State.event_aud (s : State) (op : Nat) (d : List W32) :
    (s.event op d).aud = s.aud := congrArg Quiet.aud (State.event_quiet s op d)

@[simp] theorem State.event_cald (s : State) (op : Nat) (d : List W32) :
    (s.event op d).cald = s.cald := congrArg Quiet.cald (State.event_quiet s op d)

@[simp] theorem State.event_meter (s : State) (op : Nat) (d : List W32) :
    (s.event op d).meter = s.meter := congrArg Quiet.meter (State.event_quiet s op d)

@[simp] theorem State.event_vent (s : State) (op : Nat) (d : List W32) :
    (s.event op d).vent = s.vent := congrArg Quiet.vent (State.event_quiet s op d)

@[simp] theorem State.event_dec (s : State) (op : Nat) (d : List W32) :
    (s.event op d).dec = s.dec := congrArg Quiet.dec (State.event_quiet s op d)

@[simp] theorem State.event_gey (s : State) (op : Nat) (d : List W32) :
    (s.event op d).gey = s.gey := congrArg Quiet.gey (State.event_quiet s op d)

@[simp] theorem State.event_tdm (s : State) (op : Nat) (d : List W32) :
    (s.event op d).tdm = s.tdm := congrArg Quiet.tdm (State.event_quiet s op d)

@[simp] theorem State.event_strm (s : State) (op : Nat) (d : List W32) :
    (s.event op d).strm = s.strm := congrArg Quiet.strm (State.event_quiet s op d)

@[simp] theorem State.event_cond (s : State) (op : Nat) (d : List W32) :
    (s.event op d).cond = s.cond := congrArg Quiet.cond (State.event_quiet s op d)

@[simp] theorem State.event_dma (s : State) (op : Nat) (d : List W32) :
    (s.event op d).dma = s.dma := congrArg Quiet.dma (State.event_quiet s op d)

@[simp] theorem State.event_store (s : State) (op : Nat) (d : List W32) :
    (s.event op d).store = s.store := congrArg Quiet.store (State.event_quiet s op d)

@[simp] theorem State.event_mdio (s : State) (op : Nat) (d : List W32) :
    (s.event op d).mdio = s.mdio := congrArg Quiet.mdio (State.event_quiet s op d)

@[simp] theorem State.event_back (s : State) (op : Nat) (d : List W32) :
    (s.event op d).back = s.back := congrArg Quiet.back (State.event_quiet s op d)

@[simp] theorem State.event_lateOps (s : State) (op : Nat) (d : List W32) :
    (s.event op d).lateOps = s.lateOps := congrArg Quiet.lateOps (State.event_quiet s op d)

@[simp] theorem State.event_mem (s : State) (op : Nat) (d : List W32) :
    (s.event op d).mem = s.mem := congrArg Quiet.mem (State.event_quiet s op d)

/-! ## The fields that raise leaves -/

@[simp] theorem State.raise_pending (s : State) (src inst kind : Nat) (c : W32) :
    (s.raise src inst kind c).pending = s.pending := congrArg Still.pending (State.raise_still s src inst kind c)

@[simp] theorem State.raise_fresh (s : State) (src inst kind : Nat) (c : W32) :
    (s.raise src inst kind c).fresh = s.fresh := congrArg Still.fresh (State.raise_still s src inst kind c)

@[simp] theorem State.raise_unpred (s : State) (src inst kind : Nat) (c : W32) :
    (s.raise src inst kind c).unpred = s.unpred := congrArg Still.unpred (State.raise_still s src inst kind c)

@[simp] theorem State.raise_time (s : State) (src inst kind : Nat) (c : W32) :
    (s.raise src inst kind c).time = s.time := congrArg Still.time (State.raise_still s src inst kind c)

@[simp] theorem State.raise_ref (s : State) (src inst kind : Nat) (c : W32) :
    (s.raise src inst kind c).ref = s.ref := congrArg Still.ref (State.raise_still s src inst kind c)

@[simp] theorem State.raise_route (s : State) (src inst kind : Nat) (c : W32) :
    (s.raise src inst kind c).route = s.route := congrArg Still.route (State.raise_still s src inst kind c)

@[simp] theorem State.raise_aud (s : State) (src inst kind : Nat) (c : W32) :
    (s.raise src inst kind c).aud = s.aud := congrArg Still.aud (State.raise_still s src inst kind c)

@[simp] theorem State.raise_cald (s : State) (src inst kind : Nat) (c : W32) :
    (s.raise src inst kind c).cald = s.cald := congrArg Still.cald (State.raise_still s src inst kind c)

@[simp] theorem State.raise_meter (s : State) (src inst kind : Nat) (c : W32) :
    (s.raise src inst kind c).meter = s.meter := congrArg Still.meter (State.raise_still s src inst kind c)

@[simp] theorem State.raise_vent (s : State) (src inst kind : Nat) (c : W32) :
    (s.raise src inst kind c).vent = s.vent := congrArg Still.vent (State.raise_still s src inst kind c)

@[simp] theorem State.raise_dec (s : State) (src inst kind : Nat) (c : W32) :
    (s.raise src inst kind c).dec = s.dec := congrArg Still.dec (State.raise_still s src inst kind c)

@[simp] theorem State.raise_gey (s : State) (src inst kind : Nat) (c : W32) :
    (s.raise src inst kind c).gey = s.gey := congrArg Still.gey (State.raise_still s src inst kind c)

@[simp] theorem State.raise_tdm (s : State) (src inst kind : Nat) (c : W32) :
    (s.raise src inst kind c).tdm = s.tdm := congrArg Still.tdm (State.raise_still s src inst kind c)

@[simp] theorem State.raise_strm (s : State) (src inst kind : Nat) (c : W32) :
    (s.raise src inst kind c).strm = s.strm := congrArg Still.strm (State.raise_still s src inst kind c)

@[simp] theorem State.raise_cond (s : State) (src inst kind : Nat) (c : W32) :
    (s.raise src inst kind c).cond = s.cond := congrArg Still.cond (State.raise_still s src inst kind c)

@[simp] theorem State.raise_dma (s : State) (src inst kind : Nat) (c : W32) :
    (s.raise src inst kind c).dma = s.dma := congrArg Still.dma (State.raise_still s src inst kind c)

@[simp] theorem State.raise_mdio (s : State) (src inst kind : Nat) (c : W32) :
    (s.raise src inst kind c).mdio = s.mdio := congrArg Still.mdio (State.raise_still s src inst kind c)

@[simp] theorem State.raise_back (s : State) (src inst kind : Nat) (c : W32) :
    (s.raise src inst kind c).back = s.back := congrArg Still.back (State.raise_still s src inst kind c)

@[simp] theorem State.raise_lateOps (s : State) (src inst kind : Nat) (c : W32) :
    (s.raise src inst kind c).lateOps = s.lateOps := congrArg Still.lateOps (State.raise_still s src inst kind c)

@[simp] theorem State.raise_mem (s : State) (src inst kind : Nat) (c : W32) :
    (s.raise src inst kind c).mem = s.mem := congrArg Still.mem (State.raise_still s src inst kind c)

/-! ## goto -/

@[simp] theorem State.goto_pending (s : State) (t : Nat) : (s.goto t).pending = s.pending := by
  simp only [State.goto]; split <;> rfl

@[simp] theorem State.goto_fresh (s : State) (t : Nat) : (s.goto t).fresh = s.fresh := by
  simp only [State.goto]; split <;> rfl

@[simp] theorem State.goto_out (s : State) (t : Nat) : (s.goto t).out = s.out := by
  simp only [State.goto]; split <;> rfl

@[simp] theorem State.goto_unpred (s : State) (t : Nat) : (s.goto t).unpred = s.unpred := by
  simp only [State.goto]; split <;> rfl

@[simp] theorem State.goto_sys (s : State) (t : Nat) : (s.goto t).sys = s.sys := by
  simp only [State.goto]; split <;> rfl

@[simp] theorem State.goto_ref (s : State) (t : Nat) : (s.goto t).ref = s.ref := by
  simp only [State.goto]; split <;> rfl

@[simp] theorem State.goto_host (s : State) (t : Nat) : (s.goto t).host = s.host := by
  simp only [State.goto]; split <;> rfl

@[simp] theorem State.goto_flt (s : State) (t : Nat) : (s.goto t).flt = s.flt := by
  simp only [State.goto]; split <;> rfl

@[simp] theorem State.goto_route (s : State) (t : Nat) : (s.goto t).route = s.route := by
  simp only [State.goto]; split <;> rfl

@[simp] theorem State.goto_aud (s : State) (t : Nat) : (s.goto t).aud = s.aud := by
  simp only [State.goto]; split <;> rfl

@[simp] theorem State.goto_cald (s : State) (t : Nat) : (s.goto t).cald = s.cald := by
  simp only [State.goto]; split <;> rfl

@[simp] theorem State.goto_meter (s : State) (t : Nat) : (s.goto t).meter = s.meter := by
  simp only [State.goto]; split <;> rfl

@[simp] theorem State.goto_vent (s : State) (t : Nat) : (s.goto t).vent = s.vent := by
  simp only [State.goto]; split <;> rfl

@[simp] theorem State.goto_dec (s : State) (t : Nat) : (s.goto t).dec = s.dec := by
  simp only [State.goto]; split <;> rfl

@[simp] theorem State.goto_gey (s : State) (t : Nat) : (s.goto t).gey = s.gey := by
  simp only [State.goto]; split <;> rfl

@[simp] theorem State.goto_tdm (s : State) (t : Nat) : (s.goto t).tdm = s.tdm := by
  simp only [State.goto]; split <;> rfl

@[simp] theorem State.goto_net (s : State) (t : Nat) : (s.goto t).net = s.net := by
  simp only [State.goto]; split <;> rfl

@[simp] theorem State.goto_strm (s : State) (t : Nat) : (s.goto t).strm = s.strm := by
  simp only [State.goto]; split <;> rfl

@[simp] theorem State.goto_pair (s : State) (t : Nat) : (s.goto t).pair = s.pair := by
  simp only [State.goto]; split <;> rfl

@[simp] theorem State.goto_cond (s : State) (t : Nat) : (s.goto t).cond = s.cond := by
  simp only [State.goto]; split <;> rfl

@[simp] theorem State.goto_dma (s : State) (t : Nat) : (s.goto t).dma = s.dma := by
  simp only [State.goto]; split <;> rfl

@[simp] theorem State.goto_store (s : State) (t : Nat) : (s.goto t).store = s.store := by
  simp only [State.goto]; split <;> rfl

@[simp] theorem State.goto_mdio (s : State) (t : Nat) : (s.goto t).mdio = s.mdio := by
  simp only [State.goto]; split <;> rfl

@[simp] theorem State.goto_back (s : State) (t : Nat) : (s.goto t).back = s.back := by
  simp only [State.goto]; split <;> rfl

@[simp] theorem State.goto_lateOps (s : State) (t : Nat) : (s.goto t).lateOps = s.lateOps := by
  simp only [State.goto]; split <;> rfl

@[simp] theorem State.goto_mem (s : State) (t : Nat) : (s.goto t).mem = s.mem := by
  simp only [State.goto]; split <;> rfl

/-- Time passes only inside the running tick. -/
@[simp] theorem State.goto_tick (s : State) (t : Nat) : (s.goto t).time.tick = s.time.tick := by
  simp only [State.goto]; split <;> rfl

end Sys2Proof.Machine
end

