-- ==== Sys2Proof/Laws/Memory.lean ====
section
/-! SUPPORT. Memory: what a write leaves, and that every operation keeps the canonical form. -/

namespace Sys2Proof.Machine
open Sys2Proof

/-- The canonical form in two parts: addresses rise strictly, and no listed byte is 0. -/
theorem memWf_iff (m : List Host.Cell) :
    memWf m = true ↔ m.Pairwise (fun c d => c.1 < d.1) ∧ ∀ c ∈ m, c.2 ≠ 0 := by
  induction m with
  | nil => simp [memWf]
  | cons c t ih =>
    cases t with
    | nil => simp [memWf]
    | cons d t =>
      simp only [memWf, Bool.and_eq_true, bne_iff_ne, decide_eq_true_eq, ih, List.pairwise_cons, List.mem_cons, forall_eq_or_imp]
      constructor
      · rintro ⟨⟨hc, hd⟩, ⟨h1, h2⟩, h3⟩
        exact ⟨⟨⟨hd, fun x hx => Nat.lt_trans hd (h1 x hx)⟩, h1, h2⟩, hc, h3⟩
      · rintro ⟨⟨⟨hd, _⟩, h1, h2⟩, hc, h3⟩
        exact ⟨⟨hc, hd⟩, ⟨h1, h2⟩, h3⟩

theorem memWf_nil : memWf [] = true := rfl

theorem memWf_tail {c : Host.Cell} {m : List Host.Cell} (h : memWf (c :: m) = true) : memWf m = true := by
  rw [memWf_iff] at h ⊢
  exact ⟨(List.pairwise_cons.mp h.1).2, fun d hd => h.2 d (List.mem_cons_of_mem _ hd)⟩

/-! ## One byte -/

theorem mem_memSet {m : List Host.Cell} {a : Nat} {b : Byte} {c : Host.Cell} (h : c ∈ memSet m a b) :
    c = (a, b) ∨ c ∈ m := by
  induction m with
  | nil => simpa [memSet] using h
  | cons d t ih =>
    simp only [memSet] at h
    split at h
    · simpa [or_assoc] using h
    · split at h
      · simp only [List.mem_cons] at h ⊢; rcases h with h | h <;> simp [h]
      · simp only [List.mem_cons] at h ⊢
        rcases h with h | h
        · simp [h]
        · rcases ih h with h | h <;> simp [h]

theorem mem_memUnset {m : List Host.Cell} {a : Nat} {c : Host.Cell} (h : c ∈ memUnset m a) : c ∈ m := by
  induction m with
  | nil => simp [memUnset] at h
  | cons d t ih =>
    simp only [memUnset] at h
    split at h
    · exact List.mem_cons_of_mem _ h
    · simp only [List.mem_cons] at h ⊢
      exact h.imp_right ih

theorem memSet_wf {m : List Host.Cell} (hm : memWf m = true) (a : Nat) {b : Byte} (hb : b ≠ 0) : memWf (memSet m a b) = true := by
  rw [memWf_iff] at hm ⊢
  refine ⟨?_, fun c hc => ?_⟩
  · obtain ⟨hp, -⟩ := hm
    induction m with
    | nil => simp [memSet]
    | cons d t ih =>
      rw [List.pairwise_cons] at hp
      simp only [memSet]
      split
      · rename_i h
        simp only [List.pairwise_cons, List.mem_cons, forall_eq_or_imp]
        exact ⟨⟨h, fun x hx => Nat.lt_trans h (hp.1 x hx)⟩, hp⟩
      · split
        · rename_i h
          have : a = d.1 := by simpa using h
          rw [List.pairwise_cons]
          exact ⟨fun x hx => by rw [this]; exact hp.1 x hx, hp.2⟩
        · rename_i h1 h2
          have h2 : a ≠ d.1 := by simpa using h2
          rw [List.pairwise_cons]
          refine ⟨fun x hx => ?_, ih hp.2⟩
          rcases mem_memSet hx with h | h
          · rw [h]; show d.1 < a; omega
          · exact hp.1 x h
  · rcases mem_memSet hc with h | h
    · rw [h]; exact hb
    · exact hm.2 c h

theorem memUnset_wf {m : List Host.Cell} (hm : memWf m = true) (a : Nat) : memWf (memUnset m a) = true := by
  rw [memWf_iff] at hm ⊢
  refine ⟨?_, fun c hc => hm.2 c (mem_memUnset hc)⟩
  obtain ⟨hp, -⟩ := hm
  induction m with
  | nil => simp [memUnset]
  | cons d t ih =>
    rw [List.pairwise_cons] at hp
    simp only [memUnset]
    split
    · exact hp.2
    · rw [List.pairwise_cons]
      exact ⟨fun x hx => hp.1 x (mem_memUnset hx), ih hp.2⟩

/-- A write keeps the canonical form. -/
theorem memWrite_wf {m : List Host.Cell} (hm : memWf m = true) (a : Nat) (b : Byte) : memWf (memWrite m a b) = true := by
  unfold memWrite
  split
  · exact memUnset_wf hm a
  · rename_i h; exact memSet_wf hm a h

theorem memRead_memSet (m : List Host.Cell) (a x : Nat) (b : Byte) :
    memRead (memSet m a b) x = if x = a then b else memRead m x := by
  induction m with
  | nil => simp only [memSet, memRead, beq_iff_eq, eq_comm (a := a)]
  | cons d t ih =>
    simp only [memSet]
    split
    · simp only [memRead, beq_iff_eq, eq_comm (a := a)]
    · split
      · rename_i h
        have : a = d.1 := by simpa using h
        simp only [memRead, beq_iff_eq, this]
        by_cases hx : x = d.1
        · simp [hx]
        · simp [hx, Ne.symm hx]
      · rename_i h1 h2
        have h2 : a ≠ d.1 := by simpa using h2
        simp only [memRead, beq_iff_eq, ih]
        by_cases hx : d.1 = x
        · have : x ≠ a := fun e => h2 (by omega)
          simp [hx, this]
        · simp [hx]

/-- An address below every listed one reads 0. -/
theorem memRead_below {m : List Host.Cell} {x : Nat} (h : ∀ c ∈ m, x < c.1) : memRead m x = 0 := by
  induction m with
  | nil => rfl
  | cons d t ih =>
    have hd := h d (List.mem_cons_self ..)
    simp only [memRead, beq_iff_eq]
    rw [if_neg (by omega)]
    exact ih (fun c hc => h c (List.mem_cons_of_mem _ hc))

theorem memRead_memUnset {m : List Host.Cell} (hm : memWf m = true) (a x : Nat) :
    memRead (memUnset m a) x = if x = a then 0 else memRead m x := by
  induction m with
  | nil => simp [memUnset, memRead]
  | cons d t ih =>
    have hp := (List.pairwise_cons.mp ((memWf_iff _).mp hm).1).1
    simp only [memUnset, beq_iff_eq]
    split
    · rename_i h
      simp only [memRead, beq_iff_eq]
      by_cases hx : x = a
      · rw [if_pos hx]; exact memRead_below (fun c hc => by have := hp c hc; omega)
      · rw [if_neg hx, if_neg (by omega)]
    · rename_i h
      simp only [memRead, beq_iff_eq, ih (memWf_tail hm)]
      by_cases hx : d.1 = x
      · rw [if_pos hx, if_pos hx, if_neg (by omega)]
      · simp [hx]

/-- A read after a write: the byte written at its address, and what was there at every other. -/
theorem memRead_memWrite {m : List Host.Cell} (hm : memWf m = true) (a x : Nat) (b : Byte) :
    memRead (memWrite m a b) x = if x = a then b else memRead m x := by
  unfold memWrite
  split
  · rename_i h; rw [memRead_memUnset hm, h]
  · exact memRead_memSet m a x b

/-! ## Runs of bytes -/

theorem memWrites_wf {m : List Host.Cell} (hm : memWf m = true) (a : Nat) (bs : List Byte) : memWf (memWrites m a bs) = true := by
  induction bs generalizing m a with
  | nil => exact hm
  | cons b t ih => exact ih (memWrite_wf hm a b) (a + 1)

theorem memRead_memWrites {m : List Host.Cell} (hm : memWf m = true) (a x : Nat) (bs : List Byte) :
    memRead (memWrites m a bs) x = if a ≤ x ∧ x < a + bs.length then bs.getD (x - a) 0 else memRead m x := by
  induction bs generalizing m a with
  | nil => rw [if_neg (by simp only [List.length_nil]; omega)]; rfl
  | cons b t ih =>
    simp only [memWrites, ih (memWrite_wf hm a b), memRead_memWrite hm, List.length_cons]
    by_cases h0 : x = a
    · subst h0
      rw [if_neg (by omega), if_pos rfl, if_pos (by omega), Nat.sub_self, List.getD_cons_zero]
    · rw [if_neg h0]
      by_cases h : a + 1 ≤ x ∧ x < a + 1 + t.length
      · rw [if_pos h, if_pos (by omega), show x - a = (x - (a + 1)) + 1 by omega, List.getD_cons_succ]
      · rw [if_neg h, if_neg (by omega)]

theorem memWriteW_wf {m : List Host.Cell} (hm : memWf m = true) (a : Nat) (w : W32) : memWf (memWriteW m a w) = true :=
  memWrites_wf hm a _

theorem memRead_memWriteW {m : List Host.Cell} (hm : memWf m = true) (a x : Nat) (w : W32) :
    memRead (memWriteW m a w) x = if a ≤ x ∧ x < a + (wordBytes w).length then (wordBytes w).getD (x - a) 0 else memRead m x :=
  memRead_memWrites hm a x _

theorem memWriteWs_wf {m : List Host.Cell} (hm : memWf m = true) (a : Nat) (ws : List W32) : memWf (memWriteWs m a ws) = true := by
  induction ws generalizing m a with
  | nil => exact hm
  | cons w t ih => exact ih (memWriteW_wf hm a w) (a + 4)

theorem mem_memClear {m : List Host.Cell} {lo hi : Nat} {c : Host.Cell} :
    c ∈ memClear m lo hi ↔ c ∈ m ∧ ¬(lo ≤ c.1 ∧ c.1 < hi) := by
  induction m with
  | nil => simp [memClear]
  | cons d t ih =>
    simp only [memClear]
    split
    · rename_i h
      rw [ih, List.mem_cons]
      constructor
      · rintro ⟨h1, h2⟩; exact ⟨.inr h1, h2⟩
      · rintro ⟨h1 | h1, h2⟩
        · subst h1; exact absurd h h2
        · exact ⟨h1, h2⟩
    · rename_i h
      rw [List.mem_cons, List.mem_cons, ih]
      constructor
      · rintro (h1 | h1)
        · subst h1; exact ⟨.inl rfl, h⟩
        · exact ⟨.inr h1.1, h1.2⟩
      · rintro ⟨h1 | h1, h2⟩
        · exact .inl h1
        · exact .inr ⟨h1, h2⟩

theorem memClear_wf {m : List Host.Cell} (hm : memWf m = true) (lo hi : Nat) : memWf (memClear m lo hi) = true := by
  rw [memWf_iff] at hm ⊢
  refine ⟨?_, fun c hc => hm.2 c (mem_memClear.mp hc).1⟩
  obtain ⟨hp, -⟩ := hm
  induction m with
  | nil => simp [memClear]
  | cons d t ih =>
    rw [List.pairwise_cons] at hp
    simp only [memClear]
    split
    · exact ih hp.2
    · rw [List.pairwise_cons]
      exact ⟨fun x hx => hp.1 x (mem_memClear.mp hx).1, ih hp.2⟩

theorem memRead_memClear {m : List Host.Cell} (lo hi x : Nat) :
    memRead (memClear m lo hi) x = if lo ≤ x ∧ x < hi then 0 else memRead m x := by
  induction m with
  | nil => simp [memClear, memRead]
  | cons d t ih =>
    simp only [memClear]
    split
    · rename_i h
      simp only [memRead, beq_iff_eq, ih]
      by_cases hx : lo ≤ x ∧ x < hi
      · simp [hx]
      · rw [if_neg hx, if_neg hx, if_neg (by omega)]
    · rename_i h
      simp only [memRead, beq_iff_eq, ih]
      by_cases hx : d.1 = x
      · rw [if_pos hx, if_pos hx, if_neg (by omega)]
      · simp [hx]

theorem memReplace_wf {m : List Host.Cell} (hm : memWf m = true) (lo hi : Nat) (cells : List (Nat × Byte)) :
    memWf (memReplace m lo hi cells) = true := by
  unfold memReplace
  generalize cells.filter (fun c => decide (lo + c.1 < hi)) = l
  have h := memClear_wf hm lo hi
  generalize memClear m lo hi = k at h
  induction l generalizing k with
  | nil => exact h
  | cons c t ih => exact ih _ (memWrite_wf h _ _)

/-- A replacement leaves every byte outside its range. -/
theorem memRead_memReplace_out {m : List Host.Cell} (hm : memWf m = true) (lo hi x : Nat) (cells : List (Nat × Byte))
    (hx : x < lo ∨ hi ≤ x) : memRead (memReplace m lo hi cells) x = memRead m x := by
  have key : ∀ (l : List (Nat × Byte)) (k : List Host.Cell), memWf k = true → (∀ c ∈ l, lo + c.1 < hi) →
      memRead (l.foldl (fun m c => memWrite m (lo + c.1) c.2) k) x = memRead k x := by
    intro l
    induction l with
    | nil => intro k _ _; rfl
    | cons c t ih =>
      intro k hk hc
      rw [List.foldl_cons, ih _ (memWrite_wf hk _ _) (fun d hd => hc d (List.mem_cons_of_mem _ hd)), memRead_memWrite hk,
        if_neg (by have := hc c (List.mem_cons_self ..); omega)]
  unfold memReplace
  rw [key _ _ (memClear_wf hm lo hi) (fun c hc => by simpa using (List.mem_filter.mp hc).2), memRead_memClear, if_neg (by omega)]

/-- Two canonical memories that read alike are equal. -/
theorem memWf_ext {m k : List Host.Cell} (hm : memWf m = true) (hk : memWf k = true) (h : ∀ a, memRead m a = memRead k a) : m = k := by
  induction m generalizing k with
  | nil =>
    cases k with
    | nil => rfl
    | cons d t =>
      have := h d.1
      simp only [memRead, beq_self_eq_true, if_true] at this
      exact absurd this.symm (((memWf_iff _).mp hk).2 d (List.mem_cons_self ..))
  | cons c t ih =>
    have hc := ((memWf_iff _).mp hm).2 c (List.mem_cons_self ..)
    have pc := (List.pairwise_cons.mp ((memWf_iff _).mp hm).1).1
    cases k with
    | nil =>
      have := h c.1
      simp only [memRead, beq_self_eq_true, if_true] at this
      exact absurd this hc
    | cons d u =>
      have hd := ((memWf_iff _).mp hk).2 d (List.mem_cons_self ..)
      have pd := (List.pairwise_cons.mp ((memWf_iff _).mp hk).1).1
      have e : c.1 = d.1 := by
        rcases Nat.lt_trichotomy c.1 d.1 with l | l | l
        · have := h c.1
          rw [memRead_below (m := d :: u) (fun x hx => by
            rcases List.mem_cons.mp hx with rfl | hx
            · exact l
            · exact Nat.lt_trans l (pd x hx))] at this
          simp only [memRead, beq_self_eq_true, if_true] at this
          exact absurd this hc
        · exact l
        · have := h d.1
          rw [memRead_below (m := c :: t) (fun x hx => by
            rcases List.mem_cons.mp hx with rfl | hx
            · exact l
            · exact Nat.lt_trans l (pc x hx))] at this
          simp only [memRead, beq_self_eq_true, if_true] at this
          exact absurd this.symm hd
      have v : c = d := by
        have := h c.1
        simp only [memRead, beq_self_eq_true, if_true, e] at this
        exact Prod.ext e this
      subst v
      congr 1
      refine ih (memWf_tail hm) (memWf_tail hk) (fun a => ?_)
      by_cases ha : c.1 = a
      · subst ha; rw [memRead_below (fun x hx => pc x hx), memRead_below (fun x hx => pd x hx)]
      · have := h a
        simpa [memRead, ha] using this

end Sys2Proof.Machine
end

