-- ==== Sys2Proof/Laws/Rows.lean ====
section
/-! SUPPORT. The packet rows by kind: what exec does with a query, a state-changing command or another packet row is the one
operation of the command service for its kind. -/

namespace Sys2Proof.Machine
open Sys2Proof

theorem forall_mem_append {α : Type} {p : α → Prop} {a b : List α} (ha : ∀ x ∈ a, p x) (hb : ∀ x ∈ b, p x) :
    ∀ x ∈ a ++ b, p x := fun x h => (List.mem_append.1 h).elim (ha x) (hb x)

theorem forall_mem_cons' {α : Type} {p : α → Prop} {x : α} {l : List α} (hx : p x) (hl : ∀ y ∈ l, p y) :
    ∀ y ∈ x :: l, p y := fun y h => (List.mem_cons.1 h).elim (fun e => e ▸ hx) (hl y)

theorem forall_mem_nil' {α : Type} {p : α → Prop} : ∀ y ∈ ([] : List α), p y := fun _ h => absurd h List.not_mem_nil

/-- A query row is the query operation of its opcode. -/
theorem exec_queryRows : ∀ e ∈ queryRows, ∀ (h : CmdHead) (p : List W32) (s : State),
    exec (e.2.1 h p) s = .next (s.query e.1 h p e.2.2) := by
  unfold queryRows
  repeat' first | exact forall_mem_nil' | refine forall_mem_cons' (fun _ _ _ => rfl) ?_

/-- A state-changing row is the command operation of its opcode. -/
theorem exec_settingRows : ∀ e ∈ settingRows, ∀ (st : Stage) (p : List W32) (s : State),
    exec (e.2.1 st p) s = .next (s.command e.1 st p e.2.2) := by
  unfold settingRows
  refine forall_mem_append (forall_mem_append ?_ ?_) ?_ <;>
  repeat' first | exact forall_mem_nil' | refine forall_mem_cons' (fun _ _ _ => rfl) ?_

/-- A row of the third kind is the immediate operation of its opcode. -/
theorem exec_immediateRows : ∀ e ∈ immediateRows, ∀ (h : CmdHead) (p : List W32) (s : State),
    exec (e.2.1 h p) s = .next (s.immediate e.1 h p e.2.2) := by
  unfold immediateRows
  repeat' first | exact forall_mem_nil' | refine forall_mem_cons' (fun _ _ _ => rfl) ?_

/-- Whatever its kind, a packet that arrives goes through the command service. -/
theorem exec_arrivals : ∀ e ∈ arrivals, ∃ run, ∀ (h : CmdHead) (p : List W32) (s : State),
    exec (e.2 h p) s = .next ((s.goto h.t).receive h.chan h.src (commandWords h e.1 p) run) := by
  intro e he
  simp only [arrivals, List.mem_append, List.mem_map] at he
  obtain (⟨a, ha, rfl⟩ | ⟨a, ha, rfl⟩) | ⟨a, ha, rfl⟩ := he
  · exact ⟨_, fun h p s => exec_queryRows a ha h p s⟩
  · exact ⟨_, fun h p s => exec_settingRows a ha (.arrive h) p s⟩
  · exact ⟨_, fun h p s => exec_immediateRows a ha h p s⟩

/-- The opcodes of the state-changing rows are the state-changing ones of Table 18-1. -/
theorem opRow_settingRows : ∀ e ∈ settingRows, ∃ r, opRow e.1 = some r ∧ r.kind = .state := by
  have h : ∀ x ∈ settingRows.map (·.1), ((opRow x).map (·.kind)) = some .state := by decide
  intro e he
  have := h e.1 (List.mem_map_of_mem he)
  cases ho : opRow e.1 with
  | none => simp [ho] at this
  | some r => exact ⟨r, rfl, by simpa [ho] using this⟩

/-- The opcodes of the query rows are the queries of Table 18-1 but SEQ_QUERY. -/
theorem opRow_queryRows : ∀ e ∈ queryRows, ∃ r, opRow e.1 = some r ∧ e.1 ≠ 0x02 := by
  have h : ∀ x ∈ queryRows.map (·.1), (opRow x).isSome = true ∧ x ≠ 0x02 := by decide
  intro e he
  have := h e.1 (List.mem_map_of_mem he)
  exact ⟨_, Option.eq_some_of_isSome this.1, this.2⟩

/-- The opcode of every packet row is in Table 18-1. -/
theorem opRow_arrivals : ∀ e ∈ arrivals, (opRow e.1).isSome = true := by
  have h : ∀ x ∈ arrivals.map (·.1), (opRow x).isSome = true := by decide
  exact fun e he => h e.1 (List.mem_map_of_mem he)

/-- At its target tick a state-changing row applies whole, or not at all. -/
theorem exec_apply_ok {op : Nat} {row : Stage → List W32 → Instr} {f : List W32 → State → Ans}
    (he : (op, row, f) ∈ settingRows) {p : List W32} {s : State} (h : (f p s).status = 0) :
    exec (row .apply p) s = .next (((f p s).s.keepBack s op p).applied) := by
  rw [exec_settingRows _ he]
  simp [State.command, State.applyNow, h]

theorem exec_apply_refused {op : Nat} {row : Stage → List W32 → Instr} {f : List W32 → State → Ans}
    (he : (op, row, f) ∈ settingRows) {p : List W32} {s : State} (h : (f p s).status ≠ 0) :
    exec (row .apply p) s = .next s := by
  rw [exec_settingRows _ he]
  simp [State.command, State.applyNow, h]

end Sys2Proof.Machine
end

