-- ==== Sys2Proof/Laws/Service.lean ====
section
/-! SUPPORT. What the command service does with the words of a packet: the fields of its header, and the one thing that
each check of R32, R33, R39 and R40 leads to. -/

namespace Sys2Proof.Machine
open Sys2Proof

theorem fld_testBit (w : W32) (hi lo i : Nat) :
    (fld w hi lo).testBit i = (decide (i < hi + 1 - lo) && w.getLsbD (lo + i)) := by
  simp [fld, Nat.testBit_mod_two_pow, Nat.testBit_shiftRight, BitVec.testBit_toNat]

/-- The first word of a command packet. -/
def headWord (h : CmdHead) (op n : Nat) : W32 :=
  pack [(op, 24), (b2n h.noReply, 17), (b2n h.mirror, 16), (n, 0)]

theorem headWord_bit (h : CmdHead) (op n i : Nat) (hn : n < 65536) (ho : op < 256) :
    (headWord h op n).getLsbD i =
      (decide (i < 32) && (if i < 16 then n.testBit i else if i = 16 then h.mirror else if i = 17 then h.noReply
        else if i < 24 then false else op.testBit (i - 24))) := by
  have hn' : ∀ j, 16 ≤ j → n.testBit j = false := fun j hj =>
    Nat.testBit_lt_two_pow (Nat.lt_of_lt_of_le hn (Nat.pow_le_pow_right Nat.zero_lt_two hj))
  have ho' : ∀ j, 8 ≤ j → op.testBit j = false := fun j hj =>
    Nat.testBit_lt_two_pow (Nat.lt_of_lt_of_le ho (Nat.pow_le_pow_right Nat.zero_lt_two hj))
  by_cases h32 : i < 32
  · have : ∀ b : Bool, ∀ j, (b2n b).testBit j = (b && decide (j = 0)) := by
      intro b j; cases b <;> cases j <;> simp [b2n, Nat.testBit_succ]
    simp only [headWord, pack, List.foldl, BitVec.getLsbD_or, BitVec.getLsbD_shiftLeft, BitVec.getLsbD_ofNat, this, h32,
      decide_true, Bool.true_and, Nat.sub_zero, Nat.not_lt_zero, decide_false, Bool.not_false]
    by_cases a : i < 16
    · simp [a, show i < 24 by omega, show i < 17 by omega]
    · by_cases b : i = 16
      · subst b; simp [hn' 16]
      · by_cases c : i = 17
        · subst c; simp [hn' 17]
        · by_cases d : i < 24
          · simp [a, b, c, d, hn' i (by omega), show i - 17 ≠ 0 by omega, show i - 16 ≠ 0 by omega]
          · simp [a, b, c, d, hn' i (by omega), show i - 17 ≠ 0 by omega, show i - 16 ≠ 0 by omega, show i - 24 < 32 by omega]
  · simp [h32, BitVec.getLsbD_of_ge _ i (Nat.le_of_not_lt h32)]

theorem headWord_op (h : CmdHead) (op n : Nat) (hn : n < 65536) (ho : op < 256) : fld (headWord h op n) 31 24 = op := by
  apply Nat.eq_of_testBit_eq
  intro i
  rw [fld_testBit, headWord_bit h op n _ hn ho]
  by_cases hi : i < 8
  · simp [hi, show 24 + i < 32 by omega, show ¬ 24 + i < 16 by omega, show 24 + i ≠ 16 by omega, show 24 + i ≠ 17 by omega]
  · have : op.testBit i = false :=
      Nat.testBit_lt_two_pow (Nat.lt_of_lt_of_le ho (Nat.pow_le_pow_right Nat.zero_lt_two (Nat.le_of_not_lt hi)))
    simp [hi, this]

theorem headWord_len (h : CmdHead) (op n : Nat) (hn : n < 65536) (ho : op < 256) : fld (headWord h op n) 15 0 = n := by
  apply Nat.eq_of_testBit_eq
  intro i
  rw [fld_testBit, headWord_bit h op n _ hn ho]
  by_cases hi : i < 16
  · simp [hi, show i < 32 by omega]
  · have : n.testBit i = false :=
      Nat.testBit_lt_two_pow (Nat.lt_of_lt_of_le hn (Nat.pow_le_pow_right Nat.zero_lt_two (Nat.le_of_not_lt hi)))
    simp [hi, this]

theorem headWord_reserved (h : CmdHead) (op n : Nat) (hn : n < 65536) (ho : op < 256) : fld (headWord h op n) 23 18 = 0 := by
  apply Nat.eq_of_testBit_eq
  intro i
  rw [fld_testBit, headWord_bit h op n _ hn ho]
  by_cases hi : i < 6
  · simp [show 18 + i < 32 by omega, show ¬ 18 + i < 16 by omega, show 18 + i ≠ 16 by omega, show 18 + i ≠ 17 by omega,
      show 18 + i < 24 by omega]
  · simp [hi]

theorem headWord_mirror (h : CmdHead) (op n : Nat) (hn : n < 65536) (ho : op < 256) : bit (headWord h op n) 16 = h.mirror := by
  rw [bit, headWord_bit h op n _ hn ho]; simp

theorem headWord_noReply (h : CmdHead) (op n : Nat) (hn : n < 65536) (ho : op < 256) : bit (headWord h op n) 17 = h.noReply := by
  rw [bit, headWord_bit h op n _ hn ho]; simp

theorem opRow_lt {op : Nat} {r : OpRow} (h : opRow op = some r) : op < 256 := by
  have h1 : r.op = op := by
    have := List.find?_some h
    simpa using this
  have h2 : ∀ x ∈ opTable, x.op < 256 := by decide
  exact h1 ▸ h2 r (List.mem_of_find?_eq_some h)

theorem goto_sys (s : State) (t : Nat) : (s.goto t).sys = s.sys := by
  simp only [State.goto]; split <;> rfl

theorem goto_host (s : State) (t : Nat) : (s.goto t).host = s.host := by
  simp only [State.goto]; split <;> rfl

theorem keyTurn_sys (s : State) (c : ChanId) : (s.keyTurn c).sys = s.sys := by
  simp only [State.keyTurn]; split <;> (try split) <;> rfl

theorem arrived_sys (s : State) (h : CmdHead) : (s.arrived h).sys = s.sys := by
  rw [State.arrived, keyTurn_sys, goto_sys]

theorem setChan_sys (s : State) (c : ChanId) (x : ChanSt) : (s.setChan c x).sys = s.sys := by cases c <;> rfl

theorem accepted_sys (s : State) (h : CmdHead) : (s.accepted h).sys = s.sys := by
  rw [State.accepted, setChan_sys, arrived_sys]

/-- An admitted packet goes through the framing check. -/
theorem receive_admits {s : State} {h : CmdHead} {op : Nat} {p : List W32} (run : Cmd → State → State)
    (ha : s.admits h op p) :
    (s.goto h.t).receive h.chan h.src (commandWords h op p) run =
      (s.arrived h).framing h.chan h.src (commandWords h op p) run := by
  obtain ⟨h1, h2, h3⟩ := ha
  have e1 : (s.goto h.t).serviced = true := by
    simp only [State.serviced, goto_sys] at h1 ⊢; exact h1
  have e2 : s.arrived h = (s.goto h.t).keyTurn h.chan := rfl
  simp only [State.receive, e1, goto_sys, goto_host, ← e2]
  have h4 : (h.chan == ChanId.pcie && (!s.sys.hostSel || s.host.perst)) = false := by
    cases hc : h.chan
    · obtain ⟨a, b⟩ := h2 hc
      simp [a, b]
    · rfl
    · rfl
  have h5 : (h.chan == ChanId.udp && !(s.arrived h).udpAdmits h.src (commandWords h op p)) = false := by
    cases hc : h.chan
    · rfl
    · rfl
    · simp [h3 hc]
  rw [h4, h5]
  simp

/-- The command that the words of a packet spell. -/
def taken (h : CmdHead) (op : Nat) (p : List W32) (r : OpRow) (gap : Bool) : Cmd :=
  { chan := h.chan, src := h.src, op := op, seq := h.seq, applyTick := h.applyTick, mirror := h.mirror,
    noReply := h.noReply && r.kind == .state, par := p, gap := gap }

/-- The framing check of a packet of an opcode of the table. -/
theorem framing_packet {s : State} {h : CmdHead} {op : Nat} {p : List W32} {r : OpRow} (run : Cmd → State → State)
    (ho : opRow op = some r) (hp : p.length + 3 < 65536) :
    s.framing h.chan h.src (commandWords h op p) run =
      if lenAllowed op (p.length + 3) = false then s.refuse h.chan h.src op 4 h.seq
      else if op = 0x02 then run (taken h op p r false) s
      else
        match (s.chan h.chan).check (h.chan == .udp && s.host.key.isSome) h.seq with
        | .drop => s
        | .again n => s.repeatReply h.chan h.src n
        | .run gap ch =>
          if 64 ≤ s.outstanding h.chan then s.refuse h.chan h.src op 2 h.seq
          else
            let s1 := s.setChan h.chan ch
            if s1.sys.phase == .halted && !answeredHalted op then
              let f := s1.freeTick
              f.2.sendReply h.chan h.src op (if s1.notOwner op h.mirror p then 7 else 0x0B) h.seq f.1 [] true
            else run (taken h op p r gap) s1 := by
  have hl := opRow_lt ho
  have e : commandWords h op p = headWord h op (p.length + 3) :: h.seq :: h.applyTick :: p := by
    rw [Nat.add_comm]; rfl
  rw [e]
  simp only [State.framing, headWord_op h op _ hp hl, headWord_len h op _ hp hl, headWord_reserved h op _ hp hl,
    headWord_mirror h op _ hp hl, headWord_noReply h op _ hp hl, ho, List.headD_cons, List.length_cons]
  by_cases hb : lenAllowed op (p.length + 3) = false
  · simp [hb]
  · simp only [hb]
    by_cases h2 : op = 2
    · simp [h2, taken]
    · simp [h2, taken] <;> cases (s.chan h.chan).check (h.chan == .udp && s.host.key.isSome) h.seq <;> rfl

/-- A packet that is taken runs on the engine that has accepted it. -/
theorem receive_takes {s : State} {h : CmdHead} {op : Nat} {p : List W32} {r : OpRow} (run : Cmd → State → State)
    (ho : opRow op = some r) (h2 : op ≠ 0x02) (ht : s.takes h op p) :
    (s.goto h.t).receive h.chan h.src (commandWords h op p) run = run (taken h op p r false) (s.accepted h) := by
  obtain ⟨ha, hl, he, hr, hh⟩ := ht
  have hp : p.length + 3 < 65536 := by
    refine Decidable.byContradiction fun hc => ?_
    have : ∀ x ∈ opTable, ∀ e ∈ x.lens, e.2 ≤ 1024 := by decide
    simp only [lenAllowed, ho, List.any_eq_true, decide_eq_true_eq] at hl
    obtain ⟨e, m, q⟩ := hl
    have := this r (List.mem_of_find?_eq_some ho) e m
    omega
  rw [receive_admits run ha, framing_packet run ho hp]
  have hc : (((s.arrived h).chan h.chan).check (h.chan == .udp && (s.arrived h).host.key.isSome) h.seq) =
      .run false { ((s.arrived h).chan h.chan).hold h.seq with expect := some (h.seq + 1) } := by
    cases he with
    | inl e => simp [ChanSt.check, e]
    | inr e => simp [ChanSt.check, e]
  have hns : ¬ (64 ≤ (s.arrived h).outstanding h.chan) := Nat.not_le.2 hr
  have hphase : (((s.arrived h).setChan h.chan { ((s.arrived h).chan h.chan).hold h.seq with expect := some (h.seq + 1) }).sys.phase
      == SysPhase.halted && !answeredHalted op) = false := by
    rw [setChan_sys, arrived_sys]
    by_cases q : s.sys.phase = .halted
    · simp [hh q]
    · simp [q]
  simp only [hl, h2, hc, hns, hphase]
  simp [State.accepted]

end Sys2Proof.Machine
end

