-- ==== Sys2Proof/Machine/Pins.lean ====
section
/-! DEFINITION. The levels of the engine's output pins, which are functions of its state (02 R53, 08 R209, R217, 14 R383,
15 R430, 16 R438, 19 R518). Pulses and serial outputs are in State.out. -/

namespace Sys2Proof.Machine
open Sys2Proof

/-- What a pin carries: nothing, a level, or a waveform that its block makes (an edge train, a pulse train, a square
wave). -/
inductive Level where
  | hiZ | low | high | wave
deriving DecidableEq, Repr

/-- A pin that is driven low or left high-impedance (20 R533). -/
def lowIf (b : Bool) : Level := if b then .low else .hiZ

/-- IRQ_N (19 R518). -/
def State.irqN (s : State) : Level := lowIf (s.drives .other false && s.host.intStatus &&& ~~~ s.host.intMask != 0)

/-- HS_IRQ_N (02 R53). -/
def State.hsIrqN (s : State) : Level := lowIf (s.drives .boot false && !s.host.spiWait.isEmpty)

/-- FAULT_N (16 R438). -/
def State.faultPin (s : State) : Level := lowIf (s.drives .faultN false)

/-- QFC[i] (15 R430, Table 15-14): its queue's flag, or the inactive level. -/
def State.qfcPin (s : State) (i : Nat) : Level :=
  let w := s.host.qfcMap
  let active := bit w (8 * i + 7) && (s.queue (fld w (8 * i + 5) (8 * i))).flag
  if !s.drives .other false then .hiZ
  else if active == bit w (8 * i + 6) then .low
  else .high

/-- The engine drives the pins of the Geyser (08 R209). -/
def State.geyPins (s : State) : Bool := s.drives .owned true && s.islandOn 12

/-- PS_EN[g] (08 Table 8-4). -/
def State.psEnPin (s : State) (g : Nat) : Level :=
  if !s.geyPins then .hiZ else if (s.ggroup g).st.live then .high else .low

/-- BST_PWM[g] (08 Table 8-4). -/
def State.bstPin (s : State) (g : Nat) : Level :=
  if !s.geyPins then .hiZ else if (s.ggroup g).st.live && (s.ggroup g).bst then .wave else .low

/-- The pulses of a diagnosis: leg A in step 1, leg B in step 2, both in step 3, none after a trip or, in step 3, after a
short result (08 R221). -/
def DiagSt.pulses (d : DiagSt) (iLeak : Nat) (legB : Bool) : Bool :=
  let short := decide ((iLeak : Int) < d.highA ∨ (iLeak : Int) < d.highB ∨ (iLeak : Int) < d.lowA ∨ (iLeak : Int) < d.lowB)
  d.trip.isNone && (d.step == (if legB then 2 else 1) || (d.step == 3 && !short))

/-- The common-mode ramp moves the legs of every channel that will play, and as long again when it is reversed (08 R219,
R220). -/
def State.rampsLegs (s : State) (n : Nat) : Bool :=
  let x := s.ggroup (n / 8)
  let c := s.gch n
  (x.st == .rampUp || (x.st == .rampDown && x.reversed)) && c.st == .off && c.enabled

/-- MOD_A[n], or MOD_B[n] for legB (08 R217, Table 8-4): edges in a channel that plays, enters or leaves or whose group's
ramp moves it, or where its diagnosis pulses the leg. -/
def State.legPins (s : State) (n : Nat) (legB : Bool) : Level :=
  let c := s.gch n
  let x := s.ggroup (n / 8)
  let moves := c.st == .play || c.st == .enter || c.st == .leave || s.rampsLegs n ||
    (c.diag.map (fun d => d.pulses x.iLeak legB)).getD false
  if s.geyPins && x.st.live && moves then .wave else .hiZ

/-- KA_OUT (14 R383). -/
def State.kaOut (s : State) : Level := if s.pair.ka && s.sys.pwrgd && s.sys.phase != .reset then .wave else .hiZ

end Sys2Proof.Machine
end

