-- ==== Sys2Proof/Tests/Slice0.lean ====
section
/-! SUPPORT. Tests and witnesses: ill-formed commands that WellFormed refuses, bundle words written out from the encoding
tables, single steps with results taken from the rules, and for every statement with hypotheses a state and operands that
meet them (wit_...). -/

open Sys2Proof Sys2Proof.Machine
namespace Sys2Proof.Tests
set_option Elab.async false

/-! ## Ill-formed commands -/

/-- More parameter words than any packet may have. -/
def tooLong : List W32 := List.replicate 1100 0

/-- Packets of a wrong length, PORT_CONFIG in the form of MDIO_ACCESS, MDIO_ACCESS without its form bit. -/
theorem test_wf_packets0 : ([(.nop default tooLong), (.identify default tooLong), (.seqQuery default tooLong), (.stateGet default tooLong),
    (.blockReset default tooLong), (.powerDomain default tooLong), (.tempGet default tooLong), (.refConfig default tooLong),
    (.refSelect default tooLong), (.refStatus default tooLong), (.holdoverConfig default tooLong), (.ptpConfig default tooLong),
    (.ptpDomainSelect default tooLong), (.timebaseConfig default tooLong), (.timebaseAdjust default tooLong), (.triggerSet default tooLong),
    (.timeGet default tooLong), (.portConfig default tooLong), (.portConfig default [0x80000000, 0, 0, 0]), (.mdioAccess default tooLong),
    (.mdioAccess default [0, 0]), (.gateListLoad default tooLong), (.flowConfig default tooLong), (.statsRead default tooLong),
    (.streamRxOpen default tooLong), (.streamRxClose default tooLong), (.streamTxOpen default tooLong), (.streamTxClose default tooLong),
    (.streamStatus default tooLong), (.addressConfig default tooLong), (.routeSet default tooLong), (.routeClear default tooLong),
    (.routeGet default tooLong), (.domainConfig default tooLong), (.bridgeConfig default tooLong), (.asrcConfig default tooLong),
    (.mixShape default tooLong), (.xpointWrite default tooLong), (.gainSet default tooLong), (.bankSwap default tooLong),
    (.limiterSet default tooLong), (.meterConfig default tooLong), (.meterRead default tooLong), (.peakReset default tooLong)] : List Instr).all (fun i => !i.wf) = true := by
  decide +kernel

/-- Packets of a wrong length, PORT_CONFIG in the form of MDIO_ACCESS, MDIO_ACCESS without its form bit. -/
theorem test_wf_packets1 : ([(.ventLoad default tooLong), (.ventStart default tooLong), (.ventStop default tooLong), (.ventParamWrite default tooLong),
    (.ventStatus default tooLong), (.ventMap default tooLong), (.decConfig default tooLong), (.decSync default tooLong),
    (.detectConfig default tooLong), (.dcblockConfig default tooLong), (.tdmConfig default tooLong), (.tdmSlotmask default tooLong),
    (.tdmRestart default tooLong), (.modConfig default tooLong), (.modArm default tooLong), (.modDisarm default tooLong),
    (.loadDiagRun default tooLong), (.loadDiagResult default tooLong), (.protectConfig default tooLong), (.boostConfig default tooLong),
    (.modChannelEnable default tooLong), (.pairConfig default tooLong), (.pairStatus default tooLong), (.pairHandover default tooLong),
    (.pairResync default tooLong), (.heartbeatConfig default tooLong), (.faultStatus default tooLong), (.faultHistory default tooLong),
    (.faultClear default tooLong), (.faultReaction default tooLong), (.journalRead default tooLong), (.storeWrite default tooLong),
    (.storeRead default tooLong), (.storeStatus default tooLong), (.sceneLoad default tooLong), (.fwUpdate default tooLong),
    (.dmaChannelConfig default tooLong), (.dmaStart default tooLong), (.dmaStatus default tooLong), (.windowConfig default tooLong),
    (.arbConfig default tooLong)] : List Instr).all (fun i => !i.wf) = true := by
  decide +kernel

/-- Units that the engine does not have. -/
theorem test_wf_units0 : ([(.ventStripStart default 64), (.ventPostStart default 64), (.ventInterruptEntry default 64), (.ventTransferComplete default 64 default default),
    (.ventTransferComplete default default 4 default), (.ventTransferGo 64 default), (.ventTransferGo default 4), (.ventIntCauseClear 64 default),
    (.ventSatClear 64 default), (.vMnop 64 default), (.vMac 64 default default default default), (.vMsu 64 default default default default),
    (.vMpy 64 default default default default), (.vMpyn 64 default default default default), (.vMacs 64 default default default default default), (.vMsus 64 default default default default default),
    (.vAclr 64 default default), (.vAcsh 64 default default default default), (.vAcadd 64 default default default default), (.vAcsub 64 default default default default),
    (.vAcwr 64 default default default), (.vAcrd 64 default default default), (.vAcrnd 64 default default default default), (.vAdd 64 default default default default default),
    (.vSub 64 default default default default default), (.vAdds 64 default default default default default), (.vSubs 64 default default default default default), (.vAnd 64 default default default default default),
    (.vOr 64 default default default default default), (.vXor 64 default default default default default), (.vShl 64 default default default default default), (.vAsr 64 default default default default default),
    (.vLsr 64 default default default default default), (.vMin 64 default default default default default), (.vMax 64 default default default default default), (.vAbs 64 default default default),
    (.vCmp 64 default default default default), (.vMovfx 64 default default default), (.vMovtx 64 default default default), (.vLit 64 default default default),
    (.vLdw 64 default default default default), (.vLdl 64 default default default default), (.vStw 64 default default default default), (.vStl 64 default default default default)] : List Instr).all (fun i => !i.wf) = true := by
  decide +kernel

/-- Units that the engine does not have. -/
theorem test_wf_units1 : ([(.vLdx 64 default default default default), (.vStx 64 default default default default), (.vStac 64 default default default default default), (.vCnop 64 default),
    (.vYield 64 default), (.vReti 64 default), (.vLexit 64 default), (.vJr 64 default default),
    (.vBr 64 default default default), (.vCall 64 default default default), (.vLoopi 64 default default default), (.vLoopr 64 default default default),
    (.vLda 64 default default default), (.asrcLock default 16), (.asrcUnlock default 16), (.decSettleEnd 512),
    (.detectorBlockEnd default 512), (.stuckDetect default 512 default), (.fastPathValue default 560 default), (.senseStatusWord default 24 default default),
    (.stageReady 24), (.stageTimeout default 24), (.diagStepEnd 24 default), (.diagComplete default 24),
    (.rampUpComplete 24), (.disarmFadeComplete 24), (.rampDownComplete 24), (.overcurrentTrip default 192 default),
    (.psFltAssert default 24), (.psFltRelease default 24), (.psFaultTimeout default 24), (.channelRetryStart 192),
    (.failureCountReset 192), (.channelEnterComplete 192), (.channelLeaveComplete 192), (.boostOvervoltage default 24),
    (.boostUndervoltage default 24), (.tdmFrameStart default 8 default default default), (.tdmGroupQualify 8), (.tdmGroupLoss default 8 default),
    (.frameReceive default 3 default), (.pauseTimerExpire default 3 default), (.pauseTimerExpire default default 9), (.pauseRepeat default 3 default)] : List Instr).all (fun i => !i.wf) = true := by
  decide +kernel

/-- Units that the engine does not have. -/
theorem test_wf_units2 : ([(.pauseRepeat default default 9), (.pauseWatchdog default 3 default), (.pauseWatchdog default default 9), (.frameTransmit default 3),
    (.gateEntryBoundary default 3), (.linkUp default 3 default), (.linkDown default 3), (.queueDataRead default 13 default),
    (.queueDataRead default default 48), (.queueDataWrite default 13 default default), (.queueDataWrite default default 48 default), (.queueCommit default 13 default default),
    (.queueCommit default default 48 default), (.queueRewind default 13 default), (.queueRewind default default 48), (.streamPacketCommit default 2),
    (.streamPathDown default 256 default), (.streamPathDown default default 2), (.streamLost default 256), (.refDisqualify default 9 default),
    (.refQualifying default 9), (.refQualified default 9), (.dpllLock default 2 default), (.dpllSwitchComplete default 2 default default),
    (.holdoverExpired default 2), (.islandClockFail default 16), (.timeSteerEnd default 2), (.ptpMessageReceive default 2 default default),
    (.ptpMessageReceive default default 3 default), (.ptpSample default 2 default default default), (.ptpCalibrated default 2), (.ptpDomainLost default 2 default),
    (.trigInEdge default 4), (.triggerFire default 16), (.heartbeatSend default 32), (.heartbeatCheck default 32),
    (.conduitRequest default 13 default default default default default), (.transactionComplete default 13 default), (.busTimeout default 13), (.starvation default 13 default),
    (.starvation default default 13), (.lockTimeout default 13), (.dmaDescriptorComplete default 32), (.dmaXferErr default 32 default default default)] : List Instr).all (fun i => !i.wf) = true := by
  decide +kernel

/-- Units that the engine does not have. -/
theorem test_wf_units3 : ([(.islandDrainComplete default 16 default), (.islandStartComplete 16), (.storeSessionTimeout default 4), (.pauseIgnoreEnd default 3 default),
    (.pauseIgnoreEnd default default 9), (.ptpMessageTransmit default 2 default default), (.ptpMessageTransmit default default 3 default), (.msixMaskClear (some 32))] : List Instr).all (fun i => !i.wf) = true := by
  decide +kernel

/-! ## 06: bundle words -/

/-- Words and the bundles they spell. -/
def spell (l : List (BitVec 64 × Bundle)) : Bool := l.all (fun e => decodeBundle e.1 == some e.2 && encodeBundle e.2 == e.1)

/-- The bundles of 06 Table 6-10. -/
theorem test_decode_worked : spell [
    (0x000000240494E000, .full .mnop (.ldw 4 0 .postInc) (.ldw 5 1 .circDec) .cnop),
    (0x49012538C2000042, .long (.ldw 4 0 .postInc) (.ldw 5 1 .circDec) (.loopi 4096 0x42)),
    (0x0A4005240494E000, .full (.quad .macs 4 0 0 5) (.ldw 4 0 .postInc) (.ldw 5 1 .circDec) .cnop),
    (0x000000E04F85B000, .full .mnop (.stac 0 0 2 .postMod) (.stac 1 0 3 .postMod) .cnop),
    (0x000000E24F8DB000, .full .mnop (.stac 2 0 2 .postMod) (.stac 3 0 3 .postMod) .cnop)] = true := by decide +kernel

/-- Quad and accumulator operations, their fields by 06 R166 and Table 6-3. -/
theorem test_decode_mac : spell [
    (0b0000001010011100101000000000000000000000000000000000000000000000, .full (.quad .mac 9 6 5 0) .nop .nop .cnop),
    (0b0000010010011100101000000000000000000000000000000000000000000000, .full (.quad .msu 9 6 5 0) .nop .nop .cnop),
    (0b0000011010011100101000000000000000000000000000000000000000000000, .full (.quad .mpy 9 6 5 0) .nop .nop .cnop),
    (0b0000100010011100101000000000000000000000000000000000000000000000, .full (.quad .mpyn 9 6 5 0) .nop .nop .cnop),
    (0b0000101010011100101010110000000000000000000000000000000000000000, .full (.quad .macs 9 6 5 11) .nop .nop .cnop),
    (0b0000110010011100101010110000000000000000000000000000000000000000, .full (.quad .msus 9 6 5 11) .nop .nop .cnop),
    (0b0001000000000000000010100000000000000000000000000000000000000000, .full (.aclr 10) .nop .nop .cnop),
    (0b0001001100111101000000000000000000000000000000000000000000000000, .full (.acsh 2 1 29) .nop .nop .cnop),
    (0b0001010100111101000000000000000000000000000000000000000000000000, .full (.acadd 2 1 29) .nop .nop .cnop),
    (0b0001011100111101000000000000000000000000000000000000000000000000, .full (.acsub 2 1 29) .nop .nop .cnop),
    (0b0001100001100000101000000000000000000000000000000000000000000000, .full (.acwr 3 5) .nop .nop .cnop),
    (0b0001101110000000101000000000000000000000000000000000000000000000, .full (.acrd 3 5) .nop .nop .cnop),
    (0b0001110100011110000100110000000000000000000000000000000000000000, .full (.acrnd 2 30 19) .nop .nop .cnop)] = true := by decide +kernel

/-- ALU operations (06 R166, Table 6-4). -/
theorem test_decode_alu : spell [
    (0b0010000001111000111011000000000000000000000000000000000000000000, .full (.alu .add 7 17 27 false) .nop .nop .cnop),
    (0b0010001001111000111011100000000000000000000000000000000000000000, .full (.alu .sub 7 17 27 true) .nop .nop .cnop),
    (0b0010010001111000111011000000000000000000000000000000000000000000, .full (.alu .adds 7 17 27 false) .nop .nop .cnop),
    (0b0010011001111000111011100000000000000000000000000000000000000000, .full (.alu .subs 7 17 27 true) .nop .nop .cnop),
    (0b0010100001111000111011000000000000000000000000000000000000000000, .full (.alu .and 7 17 27 false) .nop .nop .cnop),
    (0b0010101001111000111011100000000000000000000000000000000000000000, .full (.alu .or 7 17 27 true) .nop .nop .cnop),
    (0b0010110001111000111011000000000000000000000000000000000000000000, .full (.alu .xor 7 17 27 false) .nop .nop .cnop),
    (0b0010111001111000111011100000000000000000000000000000000000000000, .full (.alu .shl 7 17 27 true) .nop .nop .cnop),
    (0b0011000001111000111011000000000000000000000000000000000000000000, .full (.alu .asr 7 17 27 false) .nop .nop .cnop),
    (0b0011001001111000111011100000000000000000000000000000000000000000, .full (.alu .lsr 7 17 27 true) .nop .nop .cnop),
    (0b0011010001111000111011000000000000000000000000000000000000000000, .full (.alu .min 7 17 27 false) .nop .nop .cnop),
    (0b0011011001111000111011100000000000000000000000000000000000000000, .full (.alu .max 7 17 27 true) .nop .nop .cnop),
    (0b0011100001111000100000000000000000000000000000000000000000000000, .full (.abs 7 17) .nop .nop .cnop),
    (0b0011101000001000111011100000000000000000000000000000000000000000, .full (.cmp 17 27 true) .nop .nop .cnop),
    (0b0011110001110110100000000000000000000000000000000000000000000000, .full (.movfx 7 13) .nop .nop .cnop),
    (0b0011111011010011100000000000000000000000000000000000000000000000, .full (.movtx 13 7) .nop .nop .cnop)] = true := by decide +kernel

/-- Load and store operations in both slots (06 R170, Tables 6-5, 6-6). -/
theorem test_decode_ls : spell [
    (0b0000000000000000000000000011010111000000110101101001000000000000, .full .mnop (.ldw 21 6 .plain) (.ldw 21 5 .postInc) .cnop),
    (0b0000000000000000000000000101011011000101010110101010000000000000, .full .mnop (.ldl 11 6 .postInc) (.ldl 11 5 .postDec) .cnop),
    (0b0000000000000000000000000111010111001001110101101011000000000000, .full .mnop (.stw 21 6 .postDec) (.stw 21 5 .postMod) .cnop),
    (0b0000000000000000000000001001011011001110010110101100000000000000, .full .mnop (.stl 11 6 .postMod) (.stl 11 5 .preMod) .cnop),
    (0b0000000000000000000000001010110111010010101101101101000000000000, .full .mnop (.ldx 13 6 .preMod) (.ldx 13 5 .circInc) .cnop),
    (0b0000000000000000000000001100110111010111001101101110000000000000, .full .mnop (.stx 13 6 .circInc) (.stx 13 5 .circDec) .cnop),
    (0b0000000000000000000000000000000000000011111001100011000000000000, .full .mnop .nop (.stac 1 6 4 .postMod) .cnop)] = true := by decide +kernel

/-- Control operations (06 R174, Tables 6-7, 6-8) and literals (06 R169). -/
theorem test_decode_control : spell [
    (0b0000000000000000000000000000000000000000000000000000000000000000, .full .mnop .nop .nop .cnop),
    (0b0000000000000000000000000000000000000000000000000000000100000000, .full .mnop .nop .nop .yield),
    (0b0000000000000000000000000000000000000000000000000000001000000000, .full .mnop .nop .nop .reti),
    (0b0000000000000000000000000000000000000000000000000000001100000000, .full .mnop .nop .nop .lexit),
    (0b0000000000000000000000000000000000000000000000000000010000010101, .full .mnop .nop .nop (.jr 21)),
    (0b0100000000000000000000000000000001000000000000000001101001011011, .long .nop .nop (.br .al 0x1A5B)),
    (0b0100000000000000000000000000000001000000000000000011101001011011, .long .nop .nop (.br .eq 0x1A5B)),
    (0b0100000000000000000000000000000001000000000000000101101001011011, .long .nop .nop (.br .ne 0x1A5B)),
    (0b0100000000000000000000000000000001000000000000000111101001011011, .long .nop .nop (.br .lt 0x1A5B)),
    (0b0100000000000000000000000000000001000000000000001001101001011011, .long .nop .nop (.br .ge 0x1A5B)),
    (0b0100000000000000000000000000000001000000000000001011101001011011, .long .nop .nop (.br .le 0x1A5B)),
    (0b0100000000000000000000000000000001000000000000001101101001011011, .long .nop .nop (.br .gt 0x1A5B)),
    (0b0100000000000000000000000000000001000000000000001111101001011011, .long .nop .nop (.br .mi 0x1A5B)),
    (0b0100000000000000000000000000000001000000000000010001101001011011, .long .nop .nop (.br .pl 0x1A5B)),
    (0b0100000000000000000000000000000001000000000000010011101001011011, .long .nop .nop (.br .vs 0x1A5B)),
    (0b0100000000000000000000000000000001000000000000010101101001011011, .long .nop .nop (.br .vc 0x1A5B)),
    (0b0100000000000000000000000000000001000000000000010111101001011011, .long .nop .nop (.br .hs 0x1A5B)),
    (0b0100000000000000000000000000000001000000000000011001101001011011, .long .nop .nop (.br .lo 0x1A5B)),
    (0b0100000000000000000000000000000001000000000000011011101001011011, .long .nop .nop (.br .as 0x1A5B)),
    (0b0100000000000000000000000000000001000000000000011101101001011011, .long .nop .nop (.br .ac 0x1A5B)),
    (0b0100000000000000000000000000000010000000000000101011101001011011, .long .nop .nop (.call 0x1A5B 21)),
    (0b0100000000000000000000000000000011010111110111011111101001011011, .long .nop .nop (.loopi 0xBEEF 0x1A5B)),
    (0b0100000000000000000000000000000100000000000000101011101001011011, .long .nop .nop (.loopr 21 0x1A5B)),
    (0b0100000000000000000000000000000101000000000110101011111011101111, .long .nop .nop (.lda 6 0x2BEEF)),
    (0b1000000000000000000000000001111111011110101011011011111011101111, .lit .mnop (.d 31) 0xDEADBEEF),
    (0b1000001010011100101000000010011000000000000000000000000000000001, .lit (.quad .mac 9 6 5 0) (.a 6) 1),
    (0b1000000000000000000000000010100100000000000000000000000000000010, .lit .mnop (.md 1) 2)] = true := by decide +kernel

/-- Reserved opcodes, reserved fields and bits that must be 0 (06 R160, R161, R163, R170, R174). -/
theorem test_decode_reserved : ([
    0b1100000000000000000000000000000000000000000000000000000000000000,
    0b0000111000000000000000000000000000000000000000000000000000000000,
    0b0001111000000000000000000000000000000000000000000000000000000000,
    0b0000001010011100101000010000000000000000000000000000000000000000,
    0b0011100001111000100001000000000000000000000000000000000000000000,
    0b0011101000011000100000000000000000000000000000000000000000000000,
    0b0011110001111000000000000000000000000000000000000000000000000000,
    0b0011111100000011100000000000000000000000000000000000000000000000,
    0b0010000001111000111011010000000000000000000000000000000000000000,
    0b0000000000000000000000000101010111000000000000000000000000000000,
    0b0000000000000000000000001011000011000000000000000000000000000000,
    0b0000000000000000000000000000000000000000100001001111000000000000,
    0b0000000000000000000000000000000100000000000000000000000000000000,
    0b0000000000000000000000000000000000000000000000000000010100000000,
    0b0000000000000000000000000000000000000000000000000000010000100001,
    0b0000000000000000000000000000000000000000000000000000000000000001,
    0b0100000000000000000000000000000001000000000000011110000000000000,
    0b0100000000000000000000000000000001000000000000100000000000000000,
    0b0100000000000000000000000000000011000000000000000000000000000101,
    0b0100000000000000000000000000000110000000000000000000000000000000,
    0b0100000000000000000000000000000000000000000000000000000000000001,
    0b0100000000000000000000000000000101000000001000000000000000000000,
    0b1000000000000000000000000011000000000000000000000000000000000001,
    0b1000000000000000000000000100000000000000000000000000000000000000] : List (BitVec 64)).all (fun w => decodeBundle w == none) = true := by decide +kernel

/-- Bundles without an encoding, and commands that hold one. -/
theorem test_wf_bundles : ([.vLit 0 default default (.quad .mac 1 1 0 1), .vLdw 0 1 1 .plain (.full false (.quad .mpy 1 1 0 1) .nop .cnop), .vStl 0 1 1 .plain (.long true .nop (.loopi 0 5)),
    .vCnop 0 (.short ⟨.quad .mac 1 1 0 1, .nop, .nop⟩), .vYield 0 ⟨.quad .mac 1 1 0 1, .nop, .nop⟩, .vReti 0 ⟨.quad .mac 1 1 0 1, .nop, .nop⟩, .vLexit 0 ⟨.quad .mac 1 1 0 1, .nop, .nop⟩,
    .vJr 0 1 ⟨.quad .mac 1 1 0 1, .nop, .nop⟩, .vLoopi 0 0 5 default] : List Instr).all (fun i => !i.wf) = true ∧
    (.vLdw 0 1 1 .plain (.full false (.quad .macs 1 1 0 1) .nop .cnop) : Instr).wf = true := by decide +kernel

/-! ## Helpers -/

/-- The solo engine in READY. -/
def up : State :=
  { State.reset with
    sys := { SysSt.reset with phase := .ready }
    pair := PairBlk.release true 0
    time := { TimeBlk.init with tick := 1000 } }

/-- A standby of a pair, in step or not, with the link up. -/
def second : State :=
  { up with
    sys := { up.sys with pairRole := 2, islands := up.sys.islands.map (fun (i : Island) => { i with pwr := .on }) }
    pair := { PairBlk.release false 0 with st := .standby, linkUp := true } }

/-- The active of a pair. -/
def first : State := { second with sys := { second.sys with pairRole := 1 }, pair := { second.pair with st := .active, owner := true } }

/-- A packet header of the SPI channel, 100 ns into the tick, apply tick 0. -/
def hd : CmdHead := ⟨.spi, ⟨0, 0, []⟩, 100, 7, 0, false, false⟩

def hdU : CmdHead := { hd with chan := .udp, src := ⟨0x0A000001, 5000, []⟩ }

/-! ## 02: the command service -/

theorem wit_idle : State.reset.pending = [] ∧ ∀ n, n < 64 → (State.reset.core n).active = false := by decide +kernel

/-- Core 5 runs its strip phase. -/
def five : State := up.setCore 5 { Core.init with st := .running, ph := .strip }

theorem wit_one_core : five.pending = [] ∧ (five.core 5).active = true ∧
    ∀ n, n < 64 → n ≠ 5 → (five.core n).active = false ∧ ((five.fetchIssue 5).core n).active = false := by decide +kernel

theorem wit_takes_queries : ∀ op ∈ queryRows.map (·.1), ∃ n, n < 8 ∧ up.takes hd op (List.replicate n 0) := by
  unfold State.takes State.admits State.expects; decide +kernel

theorem wit_takes_settings : ∀ op ∈ settingRows.map (·.1), ∃ n, n < 64 ∧ up.takes hd op (List.replicate n 0) := by
  unfold State.takes State.admits State.expects; decide +kernel

theorem wit_solo : up.solo = true ∧ second.solo = false ∧ first.solo = false := by decide +kernel

/-- The first eligible tick, a later one, a late one, one beyond the horizon. -/
theorem wit_target : resolveTick (up.accepted hd).now (up.accepted hd).lead 0 = some (1001, false) ∧
    resolveTick (up.accepted hd).now (up.accepted hd).lead 1005 = some (1005, false) ∧
    resolveTick (up.accepted hd).now (up.accepted hd).lead 1000 = some (1001, true) ∧
    resolveTick (up.accepted hd).now (up.accepted hd).lead 0x1000400 = none := by decide +kernel

def hdM : CmdHead := { hd with mirror := true }

def nolink : State := { second with pair := { second.pair with linkUp := false } }

theorem wit_mirror : mirroredOp 0x30 [0, 0, 0] = true ∧ first.takes hdM 0x30 [0, 0, 0] ∧ first.pair.owner = true ∧
    second.takes hdM 0x30 [0, 0, 0] ∧ second.pair.owner = false ∧ second.pair.linkUp = true ∧
    nolink.takes hdM 0x30 [0, 0, 0] ∧ nolink.pair.linkUp = false ∧ second.takes hd 0x30 [0, 0, 0] ∧
    (resolveTick (first.accepted hdM).now (first.accepted hdM).lead 0).map (·.1) =
      some (firstTick (first.accepted hdM).now (first.accepted hdM).lead) := by
  unfold State.takes State.admits State.expects; decide +kernel

theorem wit_status : (applyMixShape [2] up).status = 0 ∧ (applyVentStart [0] up).status = 9 := by decide +kernel

/-- Four commands that wait: two of tick 1000 with one stamp, one of a tick that has passed, one still ahead. -/
def waiting : State := { up with host := { up.host with cmds :=
  [⟨0x40, [1], 1000, 50, .host .udp ⟨0, 0, []⟩, 1, false, false, false⟩,
   ⟨0x40, [2], 1000, 50, .host .pcie ⟨0, 0, []⟩, 2, false, false, false⟩,
   ⟨0x40, [3], 999, 70, .host .spi ⟨0, 0, []⟩, 3, false, false, false⟩,
   ⟨0x40, [0], 1001, 10, .host .spi ⟨0, 0, []⟩, 4, false, false, false⟩]} }

theorem wit_due : (waiting.nextDue.map (·.seq)) = some 3 ∧ (∃ p ∈ waiting.host.cmds, p.target ≤ waiting.time.tick) ∧
    (∀ p ∈ up.host.cmds, up.time.tick < p.target) := by decide +kernel

/-- Of equal stamps PCIe comes before UDP (01 Table 1-10): the UDP command is the last to set the shape. -/
theorem test_equal_stamps : (match execPendingCommandApply waiting with
    | .next t => t.cald.shape == 1 && t.host.cmds.length == 1
    | _ => false) = true := by decide +kernel

def held7 : ChanSt := ⟨some 8, 0, 0, [⟨7, none, false, []⟩], []⟩

/-- 02 R40, R41: k = 0, the last of the 64 numbers before E held and not held, the first of them, one more back, one ahead,
and half way round. -/
theorem wit_window :
    (match ChanSt.check ⟨none, 0, 0, [], []⟩ false 5 with | .run g c => !g && c.expect == some 6 | _ => false) = true ∧
    (match held7.check false 8 with | .run g c => !g && c.expect == some 9 | _ => false) = true ∧
    (match held7.check false 7 with | .again n => n.seq == 7 | _ => false) = true ∧
    (match held7.check true 0xFFFFFFC8 with | .run g c => g && c.expect == some 8 && c.gaps == 0 | _ => false) = true ∧
    (match held7.check true 0xFFFFFFC7 with | .drop => true | _ => false) = true ∧
    (match held7.check false 0xFFFFFFC7 with | .run g c => g && c.gaps == 1 | _ => false) = true ∧
    (match held7.check true 9 with | .run g c => g && c.gaps == 1 && c.expect == some 10 | _ => false) = true ∧
    (match held7.check true 0x80000007 with | .run g c => g && c.gaps == 1 | _ => false) = true ∧
    (match held7.check true 0x80000008 with | .drop => true | _ => false) = true := by decide +kernel

/-- An engine that holds number 7, with the given last reply, and expects 8. -/
def holds (r : Option (List W32)) (sup : Bool) : State :=
  { up with host := { up.host with chSpi := ⟨some 8, 3, 0, [⟨7, r, sup, []⟩], []⟩ } }

theorem wit_repeat : (∀ op ∈ [0x00, 0x30, 0xA2], ∃ n, n < 4 ∧ lenAllowed op (n + 3) = true ∧
      (holds none false).admits hd op (List.replicate n 0)) ∧
    (((holds none true).arrived hd).chan hd.chan).expect = some 8 ∧ 2 ^ 32 - 64 ≤ (hd.seq - 8).toNat ∧
    ((((holds (some [1]) false).arrived hd).chan hd.chan).nos.find? (fun m => m.seq == hd.seq)) = some ⟨7, some [1], false, []⟩ ∧
    ((((holds none true).arrived hd).chan hd.chan).nos.find? (fun m => m.seq == hd.seq)) = some ⟨7, none, true, []⟩ ∧
    ((((holds none false).arrived hd).chan hd.chan).nos.find? (fun m => m.seq == hd.seq)) = some ⟨7, none, false, []⟩ := by
  unfold State.admits; decide +kernel

theorem wit_bad_length : ∀ op ∈ arrivals.map (·.1), up.admits hd op [] ∧ lenAllowed op 1025 = false := by
  unfold State.admits; decide +kernel

/-- 64 commands outstanding on the SPI channel, number 7 expected. -/
def full : State := { up with host := { up.host with
  chSpi := ⟨some 7, 0, 0, [], []⟩
  cmds := List.replicate 64 ⟨0x40, [1], 2000, 50, .host .spi ⟨0, 0, []⟩, 1, false, false, false⟩ } }

theorem wit_busy : full.admits hd 0x30 [0, 0, 0] ∧ lenAllowed 0x30 6 = true ∧ full.expects hd ∧
    ((full.arrived hd).chan hd.chan).expect ≠ none ∧ 64 ≤ (full.arrived hd).outstanding hd.chan := by
  unfold State.admits State.expects; decide +kernel

def halted : State := { up with sys := { up.sys with phase := .halted } }

def one : State := { up with host := { up.host with cmds := [⟨0x40, [1], 1000, 50, .host .spi ⟨0, 0, []⟩, 1, false, false, true⟩] } }

theorem wit_final : one.host.cmds = [⟨0x40, [1], 1000, 50, .host .spi ⟨0, 0, []⟩, 1, false, false, true⟩] ∧
    one.sys.phase ≠ .halted ∧ (applyAny 0x40 [1] one).status = 0 ∧
    (∀ op ∈ arrivals.map (·.1), answeredHalted op = false →
      ∃ n, n < 64 ∧ lenAllowed op (n + 3) = true ∧ halted.admits hd op (List.replicate n 0)) ∧
    halted.expects hd ∧ (halted.arrived hd).outstanding hd.chan < 64 ∧ halted.sys.phase = .halted ∧ halted.solo = true := by
  unfold State.admits State.expects; decide +kernel

/-! ## 19: rings, interrupts and registers -/

/-- CMD_RPTR 0xFFF0 with three commands, RPL_RPTR 5 of 9 replies, EVT_RPTR 10 of 12 events. -/
def rings : State := { up with host := { up.host with cmdR := 0xFFF0, cmdW := 0xFFF3, rplR := 5, rplW := 9, evtR := 10, evtW := 12 } }

/-- 19 R516 at its boundaries. -/
theorem wit_pointers : rings.sys.hostSel = true ∧ rings.host.perst = false ∧
    ((0xFFF1 : W16) - rings.host.cmdR).toNat = 1 ∧ ((0x0030 : W16) - rings.host.cmdR).toNat = 64 ∧
    ((0x0031 : W16) - rings.host.cmdR).toNat = 65 ∧ ((0xFFF0 : W16) - rings.host.cmdR).toNat = 0 ∧
    (rings.host.rplW - 9).toNat ≤ 64 ∧ ((9 : W16) - rings.host.rplR).toNat < 2 ^ 15 ∧
    ¬((rings.host.rplW - 10).toNat ≤ 64) ∧ ¬(((4 : W16) - rings.host.rplR).toNat < 2 ^ 15) ∧
    2 ^ 15 ≤ ((9 : W16) - rings.host.evtR).toNat ∧ (rings.host.evtW - 12).toNat ≤ 256 ∧
    256 < (rings.host.evtW - 13).toNat := by decide +kernel

theorem test_cmd_wptr_past : (match execCmdWptrWrite 0x31 [] rings with
    | .next t => t.unpred == [.pcie]
    | _ => false) = true := by decide +kernel

theorem wit_registers : up.sys.phase ≠ .boot ∧ up.sys.hostSel = true ∧ up.host.perst = false ∧
    (∀ k ∈ [0, 8, 16, 24], fld (0x2F2F2F2F : W32) (k + 5) k < 48) ∧ (∃ k ∈ [0, 8, 16, 24], 48 ≤ fld (0x00300000 : W32) (k + 5) k) ∧
    (0x0104 ∉ [0x0100, 0x010C, 0x0114, 0x0200, 0x0204, 0x0208, 0x0600] ∧ 0x0104 < 0x8000) := by decide +kernel

theorem test_qfc_map : (match execQfcMapWrite 0x00300000 up with
    | .next t => t.host.qfcMap == 0x00300000 || t.unpred == [.conduit]
    | _ => false) = true := by decide +kernel

def linked : State := { up with host := { up.host with linkUp := true } }

theorem wit_link : linked.sys.hostSel = true ∧ linked.host.linkUp = true ∧ up.host.linkUp = false ∧ up.host.heldRpl = [] := by
  decide +kernel

/-- A NOP stands in slot 0 of the command ring. -/
def ringed : State := { linked with host := { linked.host with cmdW := 1, cmdSlots := [(0, [0x00000003, 7, 0])] } }

theorem wit_ring : ringed.serviced = true ∧ ringed.ringsUp = true ∧ ringed.host.cmdR ≠ ringed.host.cmdW ∧ ringed.rplFull = false ∧
    ringed.host.heldRpl = [] ∧ kget ringed.host.cmdSlots (ringed.host.cmdR.toNat % 64) = some [0x00000003, 7, 0] ∧
    2 ≤ fld (([0x00000003, 7, 0] : List W32).headD 0) 15 0 ∧ fld (([0x00000003, 7, 0] : List W32).headD 0) 15 0 = 3 ∧
    up.slotIsHost 63 = true ∧ up.host.cmdR = up.host.cmdW ∧ ((64 : W16) - up.host.cmdR).toNat ≤ 64 := by decide +kernel

/-- A full event ring and a full reply ring. -/
def fullRings : State := { linked with host := { linked.host with rplW := 64, evtW := 256, heldRpl := [[1]] } }

theorem wit_rings : linked.ringsUp = true ∧ linked.host.rplW - linked.host.rplR ≠ 64 ∧ fullRings.ringsUp = true ∧
    fullRings.host.rplW - fullRings.host.rplR = 64 ∧ fullRings.host.evtW - fullRings.host.evtR = 256 := by decide +kernel

theorem test_nop_ring : (match execCommandRingTake 10 ringed with
    | .next t => kget t.host.rplSlots 0 == some [4, 7, 0, 1000] && t.host.cmdR == 1
    | _ => false) = true := by decide +kernel

/-! ## 02, 17: SPI and downloads -/

def spiOne : State := { up with host := { up.host with spiWait := [⟨true, [4, 7, 0, 1000]⟩], spiRead := true } }

def booting (sel : Nat) : State := { up with sys := { up.sys with phase := .boot, bootSel := sel } }

theorem wit_spi : spiOne.sys.phase ≠ .reset ∧ spiOne.sys.phase ≠ .boot ∧ (∀ p ∈ spiOne.host.spiWait, p.words.length < 65536) ∧
    (if (false : Bool) = true ∧ spiOne.host.spiRead = true then spiOne.host.spiWait.drop 1 else spiOne.host.spiWait) =
      [⟨true, [4, 7, 0, 1000]⟩] ∧
    spiOne.host.spiWait.length ≤ 1 ∧ up.host.spiWait = [] ∧ spiOne.serviced = true ∧ spiOne.cmdReady = true ∧
    fld (([3, 7, 0] : List W32).headD 0) 15 0 + 1 = ([3, 7, 0] : List W32).length + 1 ∧
    crc32cBE ([3, 7, 0] : List W32) = crc32cBE [3, 7, 0] ∧ 0 ≠ crc32cBE [3, 7, 0] ∧ crc32cBE [w32 0x0204, 5] ≠ 0 := by decide +kernel

theorem wit_download : (booting 2).spiDownload = true ∧ (booting 2).sys.dlBytes = none ∧
    (booting 2).sys.dlWords + ([1, 2] : List W32).length ≤ 0x300000 ∧ (booting 1).pcieDownload = true ∧
    (booting 1).host.perst = false ∧ (booting 1).sys.dlBytes = none := by decide +kernel

/-! ## 06: bundles on a core -/

/-- Core 5 at pc 10 in its strip phase; A1 points to local word 0x100, A2 to an odd address; one loop level and the given
branch, results in flight and handler. -/
def at10 (infl : List InFlight) (br : Option Branch) (h : Option Nat) : State :=
  up.setCore 5 { Core.init with
    st := .running, ph := .strip, pc := 10, cyc := 100, br := br, infl := infl, handler := h, retPc := 30
    main := { RegSet.init with
      d := (List.range 32).map w32, a := [0, 0x100, 0x101, 0, 0, 0, 0, 0], loops := [⟨4, 20, 3⟩]
      lock := [false, true, false, false] } }

def run10 : State := at10 [] none none

theorem wit_bundles : ventBundle (.vMnop 5 bare) = some (5, bare.bundle .mnop) ∧ (up.core 5).active = false ∧
    run10.issues 5 (bare.bundle .mnop) ∧ (run10.core 5).active = true ∧
    (run10.seen 5).1.trapOf 5 (bareLs.bundle (.ldw 3 2 .plain)) ((run10.seen 5).1.core 5) ≠ none ∧
    run10.classNow 0x04 0x1C = 2 ∧ bare.yields = false ∧ bareLs.yields = false := by
  unfold State.issues; decide +kernel

theorem wit_alu : (∀ e ∈ aluRows, run10.issues 5 (bare.bundle (.alu e.1 1 2 3 true)) ∧
      run10.issues 5 (bare.bundle (.alu e.1 1 2 3 false))) ∧
    run10.issues 5 (bare.bundle (.abs 1 2)) ∧ run10.issues 5 (bare.bundle (.cmp 1 2 true)) ∧
    run10.issues 5 (bare.bundle (.movfx 1 7)) ∧ run10.issues 5 (bare.bundle (.movfx 1 8)) ∧
    run10.issues 5 (bare.bundle (.movtx 7 1)) ∧ run10.issues 5 (bare.bundle (.movtx 8 1)) := by
  unfold State.issues; decide +kernel

theorem wit_mac : (∀ op ∈ [QuadOp.mac, .msu, .mpy, .mpyn, .macs, .msus], run10.issues 5 (bare.bundle (.quad op 5 2 0b1000 0))) ∧
    (0b1000 : BitVec 4).getLsbD 2 = false ∧ run10.issues 5 (bare.bundle (.aclr 0b0101)) ∧
    run10.issues 5 (bare.bundle (.acsh 0 3 16)) ∧ run10.issues 5 (bare.bundle (.acadd 0 3 15)) ∧
    run10.issues 5 (bare.bundle (.acsub 0 3 0)) ∧ run10.issues 5 (bare.bundle (.acwr 1 7)) ∧
    run10.issues 5 (bare.bundle (.acrd 1 7)) ∧ run10.issues 5 (bare.bundle (.acrnd 1 31 4)) := by
  unfold State.issues; decide +kernel

/-- A result in flight: due in the next bundle, due now; of every kind, with the lock of AC1 held and that of AC0 not. -/
theorem wit_retire : ∀ f ∈ [(⟨101, 0, 0, false, false, .wrD 3 7⟩ : InFlight), ⟨100, 0, 0, false, false, .wrD 3 7⟩,
      ⟨100, 0, 0, false, false, .flags true false none none⟩, ⟨99, 0, 0, false, false, .acSet 2 (2 ^ 79) 9⟩,
      ⟨100, 0, 0, false, false, .acAdd 1 5 9⟩, ⟨100, 0, 0, false, false, .acAdd 0 (2 ^ 79 - 1) 9⟩],
    ((at10 [f] none none).core 5).active = true ∧ ((at10 [f] none none).core 5).infl = [f] ∧ f.stalled = false := by decide +kernel

theorem wit_lock : ((run10.core 5).setOf false).lock.getD 1 false = true ∧ ((run10.core 5).setOf false).lock.getD 0 false = false := by
  decide +kernel

theorem wit_loads : isLocal (effAddr (run10.seenRegs 5) 1 .postInc 2).1.toNat = true ∧
    isLocal (effAddr (run10.seenRegs 5) 1 .plain 3).1.toNat = true ∧
    run10.issues 5 (bareLs.bundle (.ldw 3 1 .postInc)) ∧ run10.issues 5 (bareLs.bundle (.ldx 8 1 .postInc)) ∧
    run10.issues 5 (bareLs.bundle (.stw 3 1 .postInc)) ∧ run10.issues 5 (bareLs.bundle (.stx 7 1 .postInc)) ∧
    run10.issues 5 (bareLs.bundle (.stac 1 3 1 .postInc)) ∧ run10.issues 5 (bareLs.bundle (.ldl 15 1 .plain)) ∧
    run10.issues 5 (bareLs.bundle (.stl 15 1 .plain)) ∧ run10.issues 5 (.lit .mnop (.md 7) 5) := by
  unfold State.issues; decide +kernel

/-- 06 R172: the smallest and the largest block, linear and bit-reversed. -/
theorem wit_wrap : fld (0x00030004 : W32) 20 16 = 3 ∧ fld (0x00120004 : W32) 20 16 = 18 ∧ bit (0x00030004 : W32) 21 = false ∧
    fld (0x00230004 : W32) 20 16 = 3 ∧ bit (0x00230004 : W32) 21 = true ∧ fld (0x00320004 : W32) 20 16 = 18 := by decide +kernel

/-- 06 R172: in a block of 8 bytes, 4 after the last word is the first word; bit reversal of a block of 16 bytes. -/
theorem test_wrap : wrapAddr 0x00030004 2 0x104 4 = 0x100 ∧ wrapAddr 0x00240004 2 0x100 8 = 0x108 := by decide +kernel

theorem wit_control : run10.issues 5 (bareLong.bundle (.br .al 0x123)) ∧ run10.issues 5 (bareLong.bundle (.call 0x10 31)) ∧
    run10.issues 5 (bareShort.bundle (.jr 3)) ∧ run10.issues 5 (bareLong.bundle (.loopi 4 15)) ∧
    run10.issues 5 (bareLong.bundle (.loopr 3 15)) ∧ (run10.seenRegs 5).rd 3 ≠ 0 ∧
    run10.issues 5 (bareLong.bundle (.lda 1 0x100)) ∧ run10.issues 5 (bareShort.bundle .lexit) ∧
    (run10.core 5).regs.loops = [⟨4, 20, 3⟩] ∧ (∀ x ∈ (run10.core 5).regs.loops, x.last ≠ (run10.core 5).pc) ∧
    run10.issues 5 (bareShort.bundle .yield) ∧ (at10 [] none (some 0)).issues 5 (bareShort.bundle .reti) ∧
    run10.issues 5 (bareShort.bundle .cnop) ∧ (run10.core 5).br = none ∧
    (at10 [] (some ⟨50, 2, true⟩) none).issues 5 (bareShort.bundle .cnop) ∧
    (at10 [] (some ⟨50, 1, false⟩) none).issues 5 (bareShort.bundle .cnop) := by
  unfold State.issues; decide +kernel

theorem wit_nest : (∀ x ∈ ([⟨4, 11, 2⟩] : List Loop), x.last ≠ 10) ∧ (⟨2, 10, 1⟩ : Loop).last = 10 ∧ (⟨2, 10, 2⟩ : Loop).last = 10 := by
  decide +kernel

theorem wit_frame : clearOfTop (bareLs.bundle (.stw 3 1 .plain)) (run10.seenRegs 5) ∧ (run10.core 5).storesLocal ∧
    (match exec (.vStw 5 3 1 .plain bareLs) run10 with
     | .next t => !t.unpred.contains (.core 5)
     | _ => false) = true := by
  refine ⟨by unfold clearOfTop; decide +kernel, ?_, by decide +kernel⟩
  intro f hf
  have h : (run10.core 5).infl = [] := by decide +kernel
  rw [h] at hf
  cases hf

theorem wit_wf_bundle : Bundle.wf (.full (.quad .mac 5 2 0 0) .nop .nop .cnop) = true ∧
    (decodeBundle 0x0000000000000100).isSome = true := by decide +kernel

/-- 06 Table 6-4: ADDS saturates, ASR shifts by the low five bits, MIN is signed. -/
theorem test_alu : (aluResult .adds 0x7FFFFFFF 1).1 = 0x7FFFFFFF ∧ (aluResult .asr 0x80000000 33).1 = 0xC0000000 ∧
    (aluResult .min 0xFFFFFFFF 1).1 = 0xFFFFFFFF ∧ (aluResult .sub 0 1).2.c = some false := by decide +kernel

/-! ## 05: the tick of a core and its commands -/

def withCore (f : Core → Core) : State := up.setCore 5 (f { Core.init with st := .running })

theorem wit_phases : up.back = none ∧ ((withCore id).core 5).st = .running ∧ ((withCore id).core 5).handler = none ∧
    (((withCore id).core 5).intPend &&& ((withCore id).core 5).intEn &&& 7) = 0 ∧
    ((withCore fun c => { c with ph := .waitStrip }).goto 3000).inputsReady 5 false = true ∧
    ((withCore fun c => { c with ph := .waitPost }).goto 3000).inputsReady 5 true = true := by decide +kernel

theorem wit_interrupts : ∀ p ∈ [1, 2, 4, 7], (p &&& 7 &&& 7) ≠ 0 ∧
    ((withCore fun c => { c with intPend := p, intEn := 7 }).core 5).br = none ∧
    5 < (withCore fun c => { c with intPend := p, intEn := 7 }).vent.cores.length ∧
    3 < ((withCore fun c => { c with intPend := p, intEn := 7 }).core 5).xfers.length := by decide +kernel

/-- Two words from the Basin to local word 0x40, with an interrupt. -/
def moving : Xfer := ⟨0x40, 0x20000000, 0x40020000, true, false⟩

theorem wit_transfer : moving.busy = true ∧ moving.bad = false ∧ bit moving.ctl 31 = false ∧ moving.words = 2 ∧
    ((withCore fun c => { c with xfers := [moving] ++ c.xfers.drop 1 }).goto 3000).permits (coreMaster 5) moving.remote false = true ∧
    ((withCore fun c => { c with xfers := [moving] ++ c.xfers.drop 1 }).goto 3000).permits (coreMaster 5)
      (moving.remote + 4 * moving.words - 4) false = true := by decide +kernel

/-- Core 5 is late in its strip phase or in its post phase, FAULT_REACTION as reset has it or making 0x1B corrected. -/
def late (ph : CorePhase) (corrected : Bool) : State :=
  let s := withCore fun c => { c with ph := ph }
  { s with aud := { s.aud with cut := true }, flt := { s.flt with reacts := if corrected then [⟨4, 0x1B, 1, false, true, false⟩] else [] } }

theorem core_beyond {s : State} (h : s.vent.cores.length = 64) {m : Nat} (hm : 64 ≤ m) : s.core m = Core.init := by
  unfold State.core
  simp only [List.getD_eq_getElem?_getD]
  rw [List.getElem?_eq_none (by omega)]
  rfl

/-- No other core is late. -/
theorem wit_others {post : Bool} {ph : CorePhase} {c : Bool} (h : ∀ m, m < 64 → m ≠ 5 → ((late ph c).core m).late post = false)
    (hl : (late ph c).vent.cores.length = 64) : ∀ m, m ≠ 5 → ((late ph c).core m).late post = false := by
  intro m hm
  by_cases h64 : m < 64
  · exact h m h64 hm
  · rw [core_beyond hl (by omega)]
    cases post <;> rfl

theorem wit_deadlines : (late .strip false).sys.phase ≠ .reset ∧ (late .strip false).aud.cut = true ∧
    ((late .strip false).core 5).late false = true ∧ (∀ m, m < 64 → m ≠ 5 → ((late .strip false).core m).late false = false) ∧
    (late .strip false).classNow 0x04 0x1B ≠ 1 ∧ (late .strip true).classNow 0x04 0x1B = 1 ∧
    ((late .post false).core 5).late true = true ∧ (∀ m, m < 64 → m ≠ 5 → ((late .post true).core m).late true = false) ∧
    (∀ m, m < 64 → ((late .post false).core m).late false = false) ∧ up.aud.cut = false := by decide +kernel

/-- The word that names core 5 alone. -/
def range5 (b : Nat) : W32 := pack [(b, 31), (5, 8), (5, 0)]

theorem wit_vent : 5 < up.vent.cores.length ∧ up.islandOn (coreIsland 5) = true ∧ fld (range5 1) 13 8 = 5 ∧ fld (range5 0) 5 0 = 5 ∧
    fld (range5 1) 30 14 = 0 ∧ fld (range5 1) 7 6 = 0 ∧ bit (range5 1) 31 = true ∧ bit (range5 0) 31 = false ∧
    (up.core 5).shown = .empty ∧ ((withCore id).core 5).shown = .running ∧
    ((withCore fun c => { c with st := .stopped }).core 5).shown = .stopped ∧
    ((withCore fun c => { c with st := .halted }).core 5).shown = .halted ∧
    (0x36FFC : W32).toNat + 4 * ([9] : List W32).length ≤ 0x37000 ∧ (0xFFF8 : W32).toNat + 4 * ([1, 2] : List W32).length ≤ 0x10000 ∧
    (0x36FFC : W32).toNat % 4 = 0 ∧ (0xFFF8 : W32).toNat % 8 = 0 ∧
    ((withCore fun c => { c with paramWords := (1000, 4095) }).core 5).paramWords = (1000, 4095) ∧ up.time.tick = 1000 := by decide +kernel

theorem wit_vent_map : let e := pack [(1, 31), (5, 22), (3, 14), (1, 28), (7, 0)]
    fld e 27 22 = 5 ∧ fld e 12 11 = 0 ∧ fld e 29 28 < 3 ∧ mapFits (setSlot up.vent.vmap (mapWord e)) = true ∧
    ({ up with vent := { up.vent with vmap := setSlot up.vent.vmap (mapWord e) } } : State).changedSinks up = [] ∧
    up.routesFit (up.route.resetSinks up.sinkDomain []) = true := by decide +kernel

theorem wit_memory : up.memOk = true ∧ (match step up with | .next t => t.memOk | _ => false) = true := by decide +kernel

/-! ## 03: routing -/

/-- No external memory and a delayed route: nothing more fits. -/
def noMem : State := { up with
  sys := { up.sys with extGiB := 0 }
  route := { up.route with
    entries := [⟨0x9001, 0, false, 8, 5, some 0, some 1, false⟩], slots := [⟨0, 0x9001, []⟩]
    bridges := [⟨0x0003, 2, true⟩] } }

theorem wit_route : (⟨0x9000, 0xB001, 0x00100005⟩ : RouteWords).bad false = false ∧ (0xB001 : Nat) ≠ 0xFFFF ∧
    (∀ d ∈ [0, 5], ({ up with route := up.route.setEntry (up.sinkDomain 0x9000) 0x9000 0xB001 false 4 d } : State).routesFit
      (up.route.setEntry (up.sinkDomain 0x9000) 0x9000 0xB001 false 4 d) = true) ∧
    ({ noMem with route := noMem.route.setEntry (noMem.sinkDomain 0x9000) 0x9000 0xB001 false 4 5 } : State).routesFit
      (noMem.route.setEntry (noMem.sinkDomain 0x9000) 0x9000 0xB001 false 4 5) = false ∧
    up.route.entry 0x9000 = none ∧ (up.sinkDomain 0x9000).isSome = true ∧ addrClass 0x9000 ≠ 10 ∧
    (noMem.route.entry 0x9001).map (fun y => (y.clearing, y.xfade)) = some (false, 8) := by decide +kernel

def armed : State := { up with gey := { up.gey with groups := up.gey.groups.set 3 { GGroup.init with st := .armed } } }

theorem wit_family : true ≠ up.route.family44 ∧ (∀ g ∈ up.gey.groups, g.st = .disarmed ∨ g.st = .fault) ∧
    (∃ g ∈ armed.gey.groups, g.st ≠ .disarmed ∧ g.st ≠ .fault) := by decide +kernel

def netRx : RxSlot := { RxSlot.init with st := .wait, cfg := { StreamCfg.blank with domain := 1, chans := 8, base := 0 } }

def netIn : State := { up with strm := { up.strm with rx := up.strm.rx.set 0 netRx } }

theorem wit_bridge : let w := pack [(1, 31), (2, 28), (3, 0)]
    bit w 30 = false ∧ fld w 27 16 = 0 ∧ fld w 29 28 ≠ 3 ∧ isSourceClass (addrClass (fld w 15 0)) = true ∧ addrOk (fld w 15 0) = true ∧
    netIn.srcDomain (fld w 15 0) ≠ some (fld w 29 28) ∧ (∀ b ∈ netIn.route.bridges, ¬(b.src = fld w 15 0 ∧ b.target = fld w 29 28)) ∧
    netIn.routesFit { netIn.route with bridges := netIn.route.bridges ++ [⟨3, 2, true⟩] } = true ∧
    ({ noMem with route := { noMem.route with bridges := [] } } : State).routesFit
      { noMem.route with bridges := [⟨3, 2, true⟩] } = false ∧
    (∃ b ∈ noMem.route.bridges, b.src = 3 ∧ b.target = 2) ∧
    ({ netIn with route := { netIn.route with bridges := [⟨3, 2, true⟩] } } : State).routesFit
      { netIn.route with bridges := [⟨3, 2, false⟩] } = true := by decide +kernel

theorem wit_tracker : up.route.trackers.length = 16 ∧ 8000 * 6 ≤ 4 * domainRate up.route.family44 0 * 1 ∧
    domainRate up.route.family44 0 * 9 ≤ 216000 * 2 ∧ (∀ e ∈ up.route.asrc, e.2.tracker ≠ 15) := by decide +kernel

/-- Tracker 0 enabled and locked. -/
def tracking : State := { up with route := { up.route with trackers := up.route.trackers.set 0 ⟨true, .locked, 2, 0, 1, 1⟩ } }

theorem wit_asrc : isSourceClass (0x2003 / 4096) = true ∧ (tracking.route.trackers.getD 0 Tracker.init).enable = true ∧
    kget tracking.route.asrc 63 = none ∧
    ({ tracking with route := { tracking.route with asrc := kset tracking.route.asrc 63 ⟨0x2003, 0, 2, some (true, 0)⟩ } } : State).routesFit
      { tracking.route with asrc := kset tracking.route.asrc 63 ⟨0x2003, 0, 2, some (true, 0)⟩ } = true ∧
    (tracking.route.trackers.getD 0 Tracker.init).st = .locked ∧ (tracking.route.trackers.getD 1 Tracker.init).st ≠ .acquire ∧
    (({ tracking with route := { tracking.route with trackers := tracking.route.trackers.set 1 ⟨true, .acquire, 2, 0, 1, 1⟩ } } : State).route.trackers.getD
      1 Tracker.init).st = .acquire := by decide +kernel

def fading (k : Nat) : State := { up with route := { up.route with fades := [⟨0x9000, [], 4, k⟩], famMute := some 1000 } }

theorem wit_fades : up.back = none ∧ (∃ f ∈ (fading 4).route.fades, f.sink = 0x9000 ∧ f.len ≤ f.k) ∧
    (∀ f ∈ (fading 3).route.fades, f.sink = 0x9000 → f.k < f.len) ∧ (fading 3).route.famMute = some 1000 ∧
    1000 ≤ (fading 3).time.tick := by decide +kernel

/-! ## 04: the Caldera -/

/-- Shape 1, nothing locked. -/
def mixing : State := { up with cald := { up.cald with shape := 1 } }

theorem wit_shape : up.islandOn 8 = true ∧ up.cald.shape = 0 ∧ mixing.islandOn 8 = true ∧
    mixing.routesFit (mixing.route.resetSinks mixing.sinkDomain (mixing.changedSinks up)) = true ∧
    (let t : State := { noMem with cald := { noMem.cald with shape := 1 } }
     t.routesFit (t.route.resetSinks t.sinkDomain (t.changedSinks noMem))) = false ∧ noMem.islandOn 8 = true := by decide +kernel

theorem wit_xpoint : mixing.cald.shape ≠ 0 ∧ (mixing.cald.settle mixing.time.tick).lockEnd = none ∧
    2047 + 1 ≤ shapeInputs 1 ∧ 0 + 2038 ≤ shapeInputs 1 ∧ ([0x12340000] : List W32).length = (1 + 1) / 2 ∧
    fld (([0x12340000] : List W32).getLastD 0) 15 0 = 0 := by decide +kernel

theorem wit_gain : (∀ a ∈ [0x5000, 0x57FF, 0x6000, 0x60FF], addrOk a = true ∧ (addrClass a = 5 ∨ addrClass a = 6)) ∧
    (-14400 : Int) ≤ (0xC7C0 : W16).toInt ∧ (0xC7C0 : W16).toInt = -14400 ∧ (0x0960 : W16).toInt = 2400 ∧
    shapeInputs 3 ≤ addrIndex 0x57FF ∧ addrIndex 0x5000 < shapeInputs 3 := by decide +kernel

def locked : State := { mixing with cald := { mixing.cald with lockEnd := some 1002 } }

theorem wit_lock_end : (locked.cald.settle locked.time.tick).lockEnd.isSome = true ∧ locked.cald.lockEnd = some 1002 ∧
    locked.time.tick < 1002 ∧ (mixing.cald.lockEnd = none) ∧ 1000 ≤ mixing.time.tick := by decide +kernel

theorem wit_tick : up.sys.phase ≠ .reset ∧ State.reset.sys.phase = .reset ∧ up.aud.cut = false ∧
    (late .strip false).aud.cut = true ∧ up.back = none ∧ mixing.cald.done = false ∧ (mixing.goto 30000).caldReady = true := by decide +kernel

def changing (waited : Nat) : State :=
  let g : GainSt := ⟨0xFF38, false, 134217728, some ⟨106613000, 960, waited, none⟩, 5⟩
  { mixing with cald := { mixing.cald with inG := [(7, g)], busG := [(7, g)] } }

theorem wit_timeout : ((kget (changing 960).cald.inG 7).bind (·.change)).map (fun c => (c.ramp.isNone, decide (c.wait ≤ c.waited))) = some (true, true) ∧
    ((kget (changing 959).cald.inG 7).bind (·.change)).map (fun c => (c.ramp.isNone, decide (c.waited < c.wait))) = some (true, true) ∧
    ((kget (changing 960).cald.busG 7).bind (·.change)).map (fun c => (c.ramp.isNone, decide (c.wait ≤ c.waited))) = some (true, true) := by
  decide +kernel

theorem wit_zero_cross : zeroCross (-1) 5 = true ∧ zeroCross 6 5 = false := by decide +kernel

def publishing : State := { up with meter := { up.meter with due := some ⟨999, [], [], []⟩ } }

theorem wit_publication : publishing.meter.due = some ⟨999, [], [], []⟩ ∧ publishing.islandOn 8 = true ∧
    ({ publishing with sys := { publishing.sys with islands := publishing.sys.islands.set 8 ⟨.off, 0, none⟩ } } : State).islandOn 8 = false := by
  decide +kernel

/-- 04 R102: code 0x0001 is 1, the largest code 4,095 x 2^14 in units of 2^-23. -/
theorem test_coef : coefValue 0x0001 = 1 ∧ coefValue 0x7FFF = 4095 * 2 ^ 14 ∧ coefValue 0x8801 = -2049 := by decide +kernel

/-! ## 07: decimators -/

/-- Context 4 enabled with everything on. -/
def decCtx : DecCtx := { DecCtx.init with
  enable := true, det := true, stuckEn := true, skipBlock := false, block := [(0, 5), (1, -5)], settle := some 1000, settling := true }

def decOn (f : DecCtx → DecCtx) : State := { up with
  time := { up.time with tick := 1008 }
  dec := { up.dec with ctxs := up.dec.ctxs.set 4 (f decCtx), clk := [1, 2, 0, 0], syncInEn := true, syncs := [1008] } }

theorem wit_dec_config : up.islandOn 13 = true ∧ up.dec.ctxs.length = 560 ∧ up.dec.lanes.length = 24 ∧
    [(0x80000000 : W32), 0x98030D40].all (fun w => fld w 30 29 != 3 && fld w 26 25 != 3 && fld w 24 18 == 0 &&
      ((up.mapCtxs (span 500 511) (fun c => c.configure up.time.tick w)).reassign up).status == 0) = true ∧
    fld (0x80000000 : W32) 28 27 = 0 ∧ fld (0x80000000 : W32) 17 0 = 0 ∧ fld (0x98030D40 : W32) 28 27 = 3 ∧
    8000 ≤ fld (0x98030D40 : W32) 17 0 ∧ fld (0x98030D40 : W32) 17 0 ≤ 200000 := by decide +kernel

theorem wit_dec : (decOn id).islandOn 13 = true ∧ (decOn id).dec.ctxs.length = 560 ∧ (∀ k ∈ [0, 1, 2, 0], k < 3) ∧
    (∀ i, i < 512 → 511 ≤ i → 100 * 21600 ≤ 45 * ((decOn id).dctx i).preRate) ∧ (decOn id).follows = false ∧ up.dec.syncInEn = false ∧
    (decOn id).dec.syncs = [1008] ∧ 1008 ≤ (decOn id).time.tick ∧
    ((decOn id).dctx 4).settle = some 1000 ∧ ((decOn id).dctx 4).settling = true ∧ ((decOn id).dctx 4).fade = none ∧
    ((decOn id).dctx 4).enable = true ∧ ((decOn id).dctx 4).det = true ∧ (decOn id).time.tick % ((decOn id).dctx 4).detBlock = 0 ∧
    ((decOn id).dctx 4).block ≠ [] ∧ ((decOn id).dctx 4).skipBlock = false ∧
    ((decOn fun c => { c with skipBlock := true }).dctx 4).skipBlock = true ∧
    ((decOn fun c => { c with settle := some 1009 }).dctx 4).settle = some 1009 ∧
    ((decOn id).dctx 4).stuckEn = true ∧ (decOn id).decClocked 4 = true ∧ ((decOn id).dctx 4).stuck ≠ some true := by decide +kernel

def laneAt (st : LaneMode) (v b : Nat) : State := { up with dec := { up.dec with lanes := up.dec.lanes.set 2 { Lane.init with st := st, valid := v, bad := b } } }

/-- The status words of the witnesses: one whose CRC-8 is right, one whose is not. -/
def goodStatus : W32 := 0xB2000000 ||| w32 ((List.range 256).find? (fun k => statusValid (0xB2000000 ||| w32 k)) |>.getD 0)

theorem wit_lanes : (up.lane 2).st = .off ∧ statusValid goodStatus = true ∧ statusValid (goodStatus ^^^ 1) = false ∧
    ((laneAt .hunt 2 0).lane 2).st = .hunt ∧ ((laneAt .hunt 2 0).lane 2).valid < 3 ∧ ((laneAt .hunt 3 0).lane 2).valid = 3 ∧
    ((laneAt .locked 0 2).lane 2).st = .locked ∧ ((laneAt .locked 0 2).lane 2).bad < 3 ∧ ((laneAt .locked 0 3).lane 2).bad = 3 ∧
    (laneAt .locked 0 3).classNow 0x0B 0x10 < 4 ∧ (laneAt .locked 0 3).dec.lanes.length = 24 := by decide +kernel

/-! ## 08: the Geyser -/

/-- Group 3 (channels 24 to 31) in a state, its lane LOCKED with PS_OK, at tick 1000; channel 25 in a state. -/
def group (f : GGroup → GGroup) (c : GChan → GChan) : State := { up with
  time := { up.time with tick := 300000 }
  gey := { groups := up.gey.groups.set 3 (f GGroup.init), chans := up.gey.chans.set 25 (c GChan.init) }
  dec := { up.dec with lanes := up.dec.lanes.set 3 { Lane.init with st := .locked, psOk := true } } }

theorem wit_geyser : up.islandOn 12 = true ∧ up.islandOn 13 = true ∧ up.gey.groups.length = 24 ∧ up.gey.chans.length = 192 ∧ up.follows = false ∧
    (group (fun g => { g with st := .armed }) id).gey.groups.length = 24 ∧ (group id fun c => { c with st := .play }).gey.chans.length = 192 ∧
    (2 ^ 23 : Nat).testBit 23 = true ∧ ((group (fun g => { g with st := .armed }) id).ggroup 3).st.live = true ∧ (8 : Nat).testBit 3 = true ∧
    (∀ g, g < 24 → (8 : Nat).testBit g = true → ((group id id).ggroup g).st.live = false ∧ ((group id id).lane g).st ≠ .off) ∧
    (up.lane 3).st = .off := by decide +kernel

/-- MOD_CONFIG at the ends of its ranges. -/
theorem wit_mod_config : let w4 : W32 := pack [(2, 30), (2, 28), (1000, 10)]
    let w6 : W32 := pack [(200, 20), (50, 12)]
    fld w4 31 30 ≠ 3 ∧ fld w4 29 28 ≠ 3 ∧ 500 ≤ fld w4 19 10 ∧ fld w4 19 10 ≤ 1000 ∧ fld w4 9 0 = 0 ∧ 0 < fld (0x00010000 : W32) 31 16 ∧
    fld (0x00010000 : W32) 15 0 = 0 ∧ 200 ≤ fld w6 31 20 ∧ fld w6 31 20 ≤ 1000 ∧ 50 ≤ fld w6 19 12 ∧ fld w6 19 12 ≤ 200 ∧ fld w6 11 0 = 0 ∧
    ((up.setGroups (groupMask (w32 8)) (fun x => { x with domain := 2, vref := 1 })).reassign up).status = 0 := by decide +kernel

theorem wit_protect_boost : 0 < fld (0x01100000 : W32) 31 24 ∧ 0 < fld (0x01100000 : W32) 23 20 ∧ fld (0x01100000 : W32) 18 0 = 0 ∧
    fld (0x000064C8 : W32) 15 8 ≤ 100 ∧ fld (0x000064C8 : W32) 7 0 ≤ 200 ∧ fld (0xC00787D0 : W32) 30 24 ≤ 64 ∧ fld (0xC00787D0 : W32) 21 12 ≤ 120 ∧
    bit (0xC00787D0 : W32) 11 = false ∧ 0 < fld (0xC00787D0 : W32) 10 0 ∧ fld (0xC00787D0 : W32) 10 0 ≤ 2000 := by decide +kernel

theorem wit_disarm_diag : (∀ st ∈ [GMode.disarmed, .stage, .diag, .rampUp, .armed, .rampDown, .fault],
      ((group (fun g => { g with st := st }) id).ggroup 3).st = st) ∧
    (∀ st ∈ [CMode.off, .latched, .play], ((group (fun g => { g with st := .armed }) fun c => { c with st := st }).gch 25).st = st) := by decide +kernel

def staged (since : Nat) : State := group (fun g => { g with st := .stage, since := since }) id

theorem wit_stage : ((staged 298800).ggroup 3).since < (staged 298800).time.tick ∧ ((staged 298800).lane 3).st = .locked ∧
    ((staged 298800).lane 3).psOk = true ∧ ((staged 298800).ggroup 3).psFlt = false ∧
    ((staged 298800).ggroup 3).since + 1200 ≤ (staged 298800).time.tick ∧ (staged 298801).time.tick < ((staged 298801).ggroup 3).since + 1200 ∧
    (up.lane 3).psOk = false := by decide +kernel

def diagnosing (step : Nat) : State := group (fun g => { g with st := .diag, since := 299424 })
  (fun c => { c with diag := some { DiagSt.start 299808 with step := step } })

theorem wit_diag : (∀ k ∈ [1, 2, 3], (((diagnosing k).gch 25).diag.map (fun d => (d.step, d.trip.isNone, decide (d.since + 192 ≤ (diagnosing k).time.tick)))) = some (k, true, true)) ∧
    ((diagnosing 1).ggroup 3).since + 576 ≤ (diagnosing 1).time.tick ∧ ((diagnosing 1).ggroup 3).diagRun = [] ∧
    (∃ n ∈ chansOf 3, ((diagnosing 1).gch n).diag.isSome = true) := by decide +kernel

def ramping (st : GMode) (fading : Bool) (ticks : Nat) : State := group (fun g => { g with st := st, since := 299000, rampTicks := ticks, fading := fading }) id

theorem wit_ramps : ((ramping .rampUp false 1000).ggroup 3).since + ((ramping .rampUp false 1000).ggroup 3).rampTicks ≤ 300000 ∧
    300000 < ((ramping .rampUp false 1001).ggroup 3).since + ((ramping .rampUp false 1001).ggroup 3).rampTicks ∧
    ((ramping .rampDown true 5).ggroup 3).since + (ramping .rampDown true 5).groupFade 3 ≤ 300000 ∧
    ((ramping .rampDown true 5).ggroup 3).fading = true ∧ ((ramping .rampDown false 1000).ggroup 3).fading = false := by decide +kernel

theorem wit_stage_faults : ((group (fun g => { g with st := .armed, psSince := some 297600 }) id).ggroup 3).psSince = some 297600 ∧
    297600 + 2400 ≤ (group id id).time.tick ∧ ((group id id).ggroup 3).psSince = none ∧
    ((group (fun g => { g with st := .armed }) id).ggroup 3).st.fromDiag = true ∧ ((group (fun g => { g with st := .armed }) id).lane 3).st = .locked ∧
    (up.lane 3).st ≠ .locked := by decide +kernel

def channel (f : GChan → GChan) : State := group (fun g => { g with st := .armed }) f

theorem wit_channels : ((channel fun c => { c with st := .play, fails := 2 }).gch 25).diag = none ∧
    3 ≤ min 15 (((channel fun c => { c with st := .play, fails := 2 }).gch 25).fails + 1) ∧
    ((channel fun c => { c with st := .tripped, failTick := 297600 }).gch 25).failTick + ((channel id).ggroup 3).retryMs * 240 ≤ 300000 ∧
    300000 < ((channel fun c => { c with st := .tripped, failTick := 297601 }).gch 25).failTick + ((channel id).ggroup 3).retryMs * 240 ∧
    ((channel fun c => { c with st := .play, playSince := 60000 }).gch 25).playSince + 240000 ≤ 300000 ∧
    300000 < ((channel fun c => { c with st := .play, playSince := 60001 }).gch 25).playSince + 240000 ∧
    ((channel fun c => { c with st := .enter, since := 299000 }).gch 25).since + 240 +
      fadeTicks up.route.family44 ((channel id).ggroup 3).domain (299000 + 240) ≤ 300000 ∧
    ((channel fun c => { c with st := .leave, since := 299000 }).gch 25).since + fadeTicks up.route.family44 ((channel id).ggroup 3).domain 299000 + 240 ≤ 300000 := by
  decide +kernel

/-! ## 09: TDM -/

def tdmAt (f : TGroup → TGroup) : State := { up with tdm := { up.tdm with groups := up.tdm.groups.set 2 (f { TGroup.init with enable := true }) } }

/-- Group 2: slave of BCLK and FS, x1 family rate, 512 bits; 16 slots of 32 bits on port 8. -/
theorem wit_tdm_config : up.islandOn 14 = true ∧ up.tdm.groups.length = 8 ∧ up.tdm.ports.length = 32 ∧
    (let w : W32 := pack [(1, 31), (1, 29), (0, 27), (512, 0)]
     let n : TGroup := { up.tgroup 2 with enable := true, sync := 1, domain := 0, frameBits := 512 }
     fld w 19 11 = 0 ∧ masterClash n = false ∧ (∀ p ∈ up.groupPorts 2, portClash n (up.tport p) = false) ∧ (applyTdmConfig [w32 2, w] up).status = 0) ∧
    (let w : W32 := pack [(1, 31), (1, 30), (2, 27), (16, 21), (2, 19), (2, 17)]
     let n : TPort := { up.tport 8 with inEn := true, outEn := true, group := 2, slots := 16, width := 2, data := 2, pack3 := false }
     fld w 15 0 = 0 ∧ tdmBits n.data ≤ tdmBits n.width ∧ portClash (up.tgroup 2) n = false ∧ (applyTdmConfig [pack [(1, 30), (8, 0)], w] up).status = 0 ∧
     n ≠ up.tport 8) := by decide +kernel

theorem wit_tdm_groups : (up.tgroup 2).st = .off ∧ ((tdmAt fun g => { g with st := .search, sync := 2, goodFrames := 7 }).tgroup 2).st = .search ∧
    ((tdmAt fun g => { g with st := .run }).tgroup 2).sync = 0 ∧ ((tdmAt fun g => { g with st := .search, qualified := true, sync := 1 }).tgroup 2).qualified = true ∧
    ((tdmAt fun g => { g with st := .run, sync := 1, badRun := 2 }).tgroup 2).badRun = 2 ∧
    (tdmAt fun g => { g with st := .run, sync := 1 }).classNow 0x0A 0x0D < 4 ∧ (tdmAt id).follows = false ∧
    rateNear (domainRate false 1) 9600000 = true ∧ rateNear (domainRate false 1) 9500000 = false ∧
    (up.tport 8).restart = false ∧ (up.tport 8).inPendAt = none := by decide +kernel

/-! ## 10: network ports -/

def netUp (f : Port → Port) : State := { up with net := { up.net with ports := up.net.ports.set 2 (f { Port.init 2 with linkUp := true }) } }

theorem wit_port_config : up.net.ports.length = 3 ∧ (∀ i, i < 3 → (up.port i).rxq.length = 8 ∧ (up.port i).txq.length = 8 ∧ (up.port i).counters.length = 48) ∧
    (let n : Port := { up.port 0 with enable := true, speed := 1, fec := 1, mtu := 9000 }
     n.fec ≠ 3 ∧ n.speed ≠ (up.port 0).speed ∧ up.portFits 0 n = true) ∧ fld (0x50002328 : W32) 13 0 = 9000 ∧ fld (0x50002328 : W32) 23 14 = 0 := by decide +kernel

/-- A gate list of one entry fits while no stream is open; one whose queue 7 is shut does not fit a stream's packets. -/
def sending : State :=
  let c : StreamCfg := { StreamCfg.blank with trunk := true, useA := true, useB := true, domain := 1, chans := 8 }
  { up with strm := { up.strm with tx := up.strm.tx.set 0 { TxSlot.init with st := .send, cfg := c } } }

theorem wit_gates : fld (0xFF004000 : W32) 23 19 = 0 ∧ 64 ≤ fld (0xFF004000 : W32) 18 0 ∧ fld (0xFF004000 : W32) 18 0 ≤ 393216 ∧
    (([0xFF004000] : List W32).map (fun w => fld w 18 0)).sum = 1 * 16384 ∧
    up.portFits 0 { up.port 0 with gatesNext := some ⟨1, [(0xFF, 16384)]⟩ } = true ∧
    sending.portFits 0 { sending.port 0 with gatesNext := some ⟨1, [(0x7F, 16384)]⟩ } = false ∧ sending.net.ports.length = 3 := by decide +kernel

theorem wit_flow : let rx := (List.range 8).map (fun q => pack [(75, 16), (50, 8), (Port.rxSize 2 q, 0)])
    let tx := (List.range 8).map (fun q => pack [(Port.txSize 2 q, 0)])
    rx.all (fun w => fld w 31 24 == 0 && decide (0 < fld w 23 16 ∧ fld w 23 16 ≤ 100 ∧ fld w 15 8 < fld w 23 16)) = true ∧
    tx.all (fun w => fld w 31 8 == 0) = true ∧ (rx.map (fun w => fld w 7 0)).sum + (tx.map (fun w => fld w 7 0)).sum = 64 ∧
    (up.port 2).enable = true ∧ (up.port 0).enable = false ∧ up.net.mcast.length = 64 := by decide +kernel

def shortFrame (n : Nat) (e : Nat) : Frame := ⟨0xFFFFFFFFFFFF, 2, none, e, List.replicate n 1, true, false⟩

theorem wit_frames : ((netUp id).port 2).enable = true ∧ ((netUp id).port 2).linkUp = true ∧ (shortFrame 45 0x1234).len < 64 ∧ (shortFrame 46 0x1234).len = 64 ∧
    ((netUp id).port 2).mtu + 22 < (shortFrame 1505 0x1234).len ∧ (shortFrame 1504 0x1234).len ≤ ((netUp id).port 2).mtu + 22 ∧
    (netUp id).addrPasses 2 { shortFrame 46 0x1234 with dst := 0x021122334455 } = false ∧ (netUp id).addrPasses 2 (shortFrame 46 0x1234) = true ∧
    parseUdp (shortFrame 46 0x1234) = none ∧ byteAt (0 :: 1 :: 0 :: 5 :: List.replicate 42 0) 0 2 = 1 ∧ 0 < byteAt (0 :: 1 :: 0 :: 5 :: List.replicate 42 0) 2 2 ∧
    ((netUp id).port 2).mode = 1 ∧ (∀ x ∈ ((netUp id).port 2).pauses, x.unit ≠ 8) ∧
    (let y := ((netUp id).port 2).rxq.getD 0 (Queue.init 0 75 50); y.level + (shortFrame 46 0x1234).rxWords.length ≤ y.words) ∧
    (let y : Queue := { ((netUp id).port 2).rxq.getD 0 (Queue.init 0 75 50) with size := 0 }; y.words < y.level + (shortFrame 46 0x1234).rxWords.length) ∧
    (up.port 0).linkUp = false := by decide +kernel

def paused (since : Nat) : State := netUp fun p => { p with pausing := [8], pauses := [⟨8, 5000, since, none⟩], wdLimit := 20 }

theorem wit_pauses : ∃ x ∈ ((paused 0).port 2).pauses, x.unit = 8 ∧ x.ignoring = none ∧
    x.since + ((paused 0).port 2).wdLimit * 100000 ≤ ({ paused 0 with time := { up.time with mono := 2000000 } } : State).time.mono := by decide +kernel

theorem wit_pauses_short : (∀ x ∈ ((paused 0).port 2).pauses, x.unit = 8 → x.ignoring = none → (paused 0).time.mono < x.since + ((paused 0).port 2).wdLimit * 100000) ∧
    8 ∈ ((paused 0).port 2).pausing ∧ 3 ∉ ((paused 0).port 2).pausing := by decide +kernel

def queued : State := netUp fun p => { p with txq := p.txq.set 3 { p.txq.getD 3 (Queue.init 0 75 50) with pkts := [⟨[1, 2], [shortFrame 46 0x1234], false⟩] } }

theorem wit_transmit : (queued.port 2).wire = none ∧ (queued.port 2).pauses = [] ∧ (queued.port 2).gates = ⟨1, [(0xFF, 16384)]⟩ ∧ (queued.port 2).gatesNext = none ∧
    ((queued.port 2).txq.getD 3 (Queue.init 0 75 50)).pkts.head? = some ⟨[1, 2], [shortFrame 46 0x1234], false⟩ ∧
    (∀ k, k < 8 → 3 < k → ((queued.port 2).txq.getD k (Queue.init 0 75 50)).pkts = []) ∧
    ((shortFrame 46 0x1234).len + 20) * (queued.port 2).byteTime 2 ≤ perTick := by decide +kernel

/-! ## 15: queues and the Conduit -/

/-- Port 2's queues: receive queue 0 (number 32) with a packet of two words, transmit queue 0 (40) in a state. -/
def ports (tx : Queue → Queue) : State := netUp fun p => { p with
  rxq := p.rxq.set 0 { p.rxq.getD 0 (Queue.init 0 75 50) with pkts := [⟨[1, 2], [], false⟩] }
  txq := p.txq.set 0 (tx (p.txq.getD 0 (Queue.init 0 75 50))) }

/-- An untagged frame of 46 bytes of payload, as 15 lays its header out. -/
theorem wit_queues : (ports id).net.ports.length = 3 ∧ (∀ p ∈ (ports id).net.ports, p.rxq.length = 8 ∧ p.txq.length = 8) ∧
    (ports id).queueOpen 0 32 false = true ∧ qIsTx 32 = false ∧ ((ports id).queue 32).truncated = false ∧ ((ports id).queue 33).pkts = [] ∧
    ((ports id).queue 32).pkts = [⟨[1, 2], [], false⟩] ∧ ([1, 2] : List W32)[((ports id).queue 32).read]? = some 1 ∧
    (ports id).queueOpen 0 40 true = true ∧ qIsTx 40 = true ∧ ((ports id).queue 40).discard = false ∧
    ((ports id).queue 40).level + 1 ≤ ((ports id).queue 40).words ∧
    ((ports fun q => { q with size := 0 }).queue 40).words < ((ports fun q => { q with size := 0 }).queue 40).level + 1 ∧
    ((ports fun q => { q with discard := true }).queue 40).discard = true ∧ (ports id).queueOpen 2 38 false = false := by decide +kernel

def bus (r : BusReq) : State := { up with time := { up.time with mono := 20000 }, cond := { up.cond with reqs := [r] } }

def rdReq (g : Option Nat) (stamp : Nat) : BusReq := ⟨2, 9, 0x20000000, .rd 8, stamp, g, false, true, false, 7, false⟩

theorem wit_conduit : up.target 0x20000000 = 2 ∧ up.permits 9 0x20000000 true = true ∧ up.permits 2 0x7F000000 true = false ∧
    (∀ i, masterIsland 2 = some i → up.islandOn i = true) ∧ 7 ∉ up.cond.broken ∧
    (bus (rdReq (some 3616) 10)).grantedAt 2 = some (rdReq (some 3616) 10) ∧ isQueueBlock 0x20000000 = false ∧
    (rdReq (some 3616) 10).granted.getD 0 + 16384 ≤ (bus (rdReq (some 3616) 10)).time.mono ∧
    (bus (rdReq (some 3617) 10)).time.mono < (rdReq (some 3617) 10).granted.getD 0 + 16384 ∧
    (bus (rdReq none 15903)).cond.reqs = [rdReq none 15903] ∧ (bus (rdReq none 15903)).cond.starve < 20000 - 15903 ∧
    20000 - 15904 ≤ (bus (rdReq none 15904)).cond.starve ∧ (∀ l ∈ up.cond.locks, l.target ≠ 2) := by decide +kernel

def lockedBus (since : Nat) : State := { up with time := { up.time with mono := 70000 }, cond := { up.cond with locks := [⟨1, 7, 2, since⟩] } }

theorem wit_lock_watchdog : 4464 + (lockedBus 4464).cond.lockWd ≤ (lockedBus 4464).time.mono ∧
    (lockedBus 4465).time.mono < 4465 + (lockedBus 4465).cond.lockWd := by decide +kernel

theorem wit_window_config : (⟨true, true, true, 0x4, 12, 0x20000 * 4096, 0⟩ : Window).badFor up = false ∧ 0x20000 % 2 ^ (12 - 12) = 0 ∧
    (⟨true, true, false, 0xFD, 40, 0, 0⟩ : Window).badFor up = false ∧ fld (0x03FFFFFF : W32) 31 26 = 0 := by decide +kernel

/-! ## 15: DMA -/

/-- Channel 5 in a state, its last descriptor (64 bytes from 0x20000100 to 0x20001000) at 0x20000000. -/
def dmaAt (f : DmaChan → DmaChan) : State := { up with
  dma := up.dma.set 5 (f { DmaChan.init with descAddr := 0x20000000 })
  mem := memWrites [] 0x20000000 ([0x80000000, 64, 0x20000100, 0x20001000, 0, 0, 0, 0].flatMap wordBytes) }

theorem wit_dma : up.dma.length = 32 ∧ up.memOk = true ∧ (up.chanD 5).st = .idle ∧ (up.chanD 5).buf = 2 ∧
    ((List.range 32).map (fun k => if k = 5 then 2 else if (up.chanD k).enable then (up.chanD k).buf else 0)).sum = 64 ∧
    ((dmaAt fun c => { c with st := .run }).chanD 5).st = .run ∧ ((dmaAt fun c => { c with st := .halted }).chanD 5).st = .halted ∧
    (dmaAt id).permits 2 0x20000000 false = true ∧ (dmaAt id).permits 2 0x7F000000 false = false ∧ (dmaAt id).classNow 0x06 0x07 < 4 := by decide +kernel

theorem wit_descriptor : let w := (dmaAt id).descWords 0x20000000
    let d := descOf w
    descBad w = false ∧ d = ⟨true, false, false, 0, 0, 64, 0x20000100, 0x20001000, 0, 0⟩ ∧ (dmaAt id).firstRefused 2 d.src d.length false = none ∧
    (dmaAt id).firstRefused 3 d.dst d.length true = none := by decide +kernel

/-! ## 11: streams -/

/-- Receive slot 9 in a state, its trunk stream of 64 channels at base 512 on both paths; transmit slot 8 in a state. -/
def trunk9 : StreamCfg := { StreamCfg.blank with trunk := true, useA := true, useB := true, domain := 1, chans := 64, base := 512, depth := 4, port := 5004, id := 77 }

def slot (f : RxSlot → RxSlot) (g : TxSlot → TxSlot) : State := { up with
  strm := { up.strm with rx := up.strm.rx.set 9 (f { RxSlot.init with cfg := trunk9 }), tx := up.strm.tx.set 8 (g { TxSlot.init with cfg := trunk9 }) } }

/-- The words of a command that opens a trunk of 64 channels, and of one that opens an AES67 stream of 8. -/
def openTrunk (tx : Bool) : List W32 := [pack [(1, 31), (1, 30), (1, 29), (1, 27), (9, 16), (64, 0)], pack [(512, 20), (if tx then 0 else 4, 6)], w32 0xEF010203,
  pack [(5004, 16), (64, 8), (46, 2)], 77, 0, pack [(6, 29)], 0, 0]

def openAes (tx : Bool) : List W32 := [pack [(1, 30), (0, 27), (1, 24), (9, 16), (8, 0)], pack [(512, 20), (6, 6)], w32 0xEF010203, pack [(5004, 16), (64, 8), (34, 2)], 77, 0,
  pack [(97, 0)], 0, if tx then 100 else 0]

theorem wit_streams_open : [true, false].all (fun tx => !streamBad (openTrunk tx) tx && !streamBad (openAes tx) tx) = true ∧ (openTrunk true).length = 9 ∧ (openAes true).length = 9 ∧
    (streamCfg (openTrunk true) true).offset = 2 ∧ (streamCfg (openAes true) true).seq0 = 100 ∧ up.strm.rx.length = 256 ∧ up.strm.tx.length = 256 ∧
    (up.rxSlot 9).st = .closed ∧ ((slot (fun x => { x with st := .wait }) id).rxSlot 9).st = .wait ∧ 4032 + 64 ≤ 4096 ∧
    ((slot id fun x => { x with st := .send }).txSlot 8).st = .send := by decide +kernel

/-- The routes fit with the stream open, and the packets fit the ports' MTU. -/
theorem wit_streams_fit : (let z := up.setRx 9 { RxSlot.init with st := .wait, cfg := streamCfg (openTrunk false) false, openTick := 1000 };
      z.routesFit (z.route.resetSinks z.sinkDomain (z.changedSinks up)) = true) ∧
    (let z := up.setTx 9 { TxSlot.init with st := .send, cfg := streamCfg (openAes true) true, openTick := 1000, seq := 100 };
      z.routesFit (z.route.resetSinks z.sinkDomain (z.changedSinks up)) = true ∧ z.portFits 0 (up.port 0) = true) ∧ 8 * (6 * 2) * 3 + 40 ≤ (up.port 0).mtu ∧
    (up.port 0).mtu < 64 + 4 * 256 * 4 := by decide +kernel

theorem wit_path_loss : (let x := (slot (fun x => { x with st := .run, pathA := true, lastA := 40666667, lastOn := 900 }) id).rxSlot 9
      x.st = .run ∧ x.pathA = true ∧ x.pathB = false ∧ 3 * x.lastA + 125000 * max 24 (2 * x.packetTicks) ≤ 3 * up.now ∧
      3 * up.now < 3 * (x.lastA + 1) + 125000 * max 24 (2 * x.packetTicks) ∧
      x.lastOn + max 24 (2 * x.packetTicks) ≤ 924) ∧ (slot id id).aud.dataTick < 24 ∧ (up.queue 7).pkts = [] ∧ (up.queue 23).pkts = [] := by decide +kernel

theorem wit_concealment : ([0, 1, 64] : List Nat).all (fun g => g ≤ 64) = true ∧ (0 : Nat) < trunk9.chans ∧ ([[5, 6, 7, 8]] : List (List Sample)).headD [] = [5, 6, 7, 8] ∧
    
    (let x : RxSlot := { RxSlot.init with st := .lost, cfg := trunk9, consec := 1, taken := [(999, 999)] }
     2 ≤ (x.use 1000 [1000]).consec ∧ ({ x with consec := 0 }.use 1000 []).consec < 2) := by decide +kernel

/-- Data tick 997 of 64 channels at 96 kHz. -/
theorem wit_trunk_packet : tickSamples false 1 1000 = 4 ∧ (List.replicate 64 (List.replicate 4 (-5 : Sample))).length = 64 ∧ (1000 : Nat) ≤ 1002 + 2 ^ 30 := by decide +kernel

/-! ## 12: references -/

/-- Reference 3 in a state and DPLL 0 in a state, at elapsed 9 s, tick 1000. -/
def refAt (f : RefSt → RefSt) (g : Dpll → Dpll) : State := { up with
  time := { up.time with mono := 9000000000 }
  ref := { up.ref with refs := up.ref.refs.set 3 (f (RefSt.init 3)), dplls := [g Dpll.init, Dpll.init] } }

theorem wit_references : up.ref.refs.length = 9 ∧ up.ref.dplls.length = 2 ∧ up.time.bases.length = 8 ∧ up.solo = true ∧ monitored 3 3 = true ∧ monitored 3 4 = false ∧
    ((refAt (fun r => { r with q := .qualifying, since := 7000000000, requal := 20 }) id).rfc 3).since + 20 * 100000000 ≤ 9000000000 ∧
    9000000000 < 7000000001 + 20 * 100000000 ∧ ((refAt (fun r => { r with q := .blocked }) id).rfc 3).q = .blocked ∧ ((refAt id id).rfc 3).q = .absent ∧
    ((refAt (fun r => { r with q := .qualified }) fun d => { d with st := .locked, source := some 3 }).dpll 0).source = some 3 ∧
    ((refAt (fun r => { r with q := .qualified }) fun d => { d with st := .switch, source := some 3 }).dpll 0).st = .switch ∧ (refAt id id).blockedRef 3 = false := by decide +kernel

theorem wit_dpll_moves : (let s := refAt (fun r => { r with q := .qualified }) fun d => { d with st := .acquire, source := some 3, select := 3 }
      (s.dpll 0).st = .acquire ∧ (s.dpll 0).source = some 3 ∧ (s.rfc 3).q = .qualified ∧ (s.dpll 0).select = 3) ∧ carriesTime 3 = false ∧ carriesTime 4 = true ∧
    (0 : Int) ≤ ((refAt id id).base 1).val ∧ (up.base 0).stepped = false := by decide +kernel

/-! ## 13: time, PTP and triggers -/

def timeAt (f : TimeBase → TimeBase) (m : Option Nat) : State := { up with time := { up.time with mute := m, bases := up.time.bases.set 1 (f (TimeBase.init 1)) } }

theorem wit_time : up.time.bases.length = 8 ∧ 0 ≤ (up.base 1).val ∧ (up.base 2).enable = false ∧ (up.base 0).enable = true ∧
    ({ up with time := { up.time with bases := up.time.bases.set 2 { TimeBase.init 2 with source := 0 } } }).baseTarget { TimeBase.init 2 with source := 0 } = some ((up.now : Int) * 1000000) ∧
    (let z := (timeAt (fun b => { b with steering := true, err := -10000 }) none).goto 5
     (z.base 1).steering = true ∧ (z.base 1).err.natAbs ≤ 10000) ∧ (∀ r, (up.dpll 1).source = some r → r ≤ 8) ∧
    (timeAt (fun b => { b with steering := true, err := 10001 }) none).time.mute = none ∧ (timeAt id (some 1000)).time.mute = some 1000 ∧
    (timeAt id (some 1001)).time.tick < 1001 ∧ (up.goto 5).now / 2 ^ 32 = up.time.epoch ∧
    ({ up with time := { up.time with epoch := 1 } }).now / 2 ^ 32 ≠ 1 := by decide +kernel

/-- A master that port 1 hears, and PTP instance 0 in a state. -/
def gmA : PtpMaster := ⟨128, 6, 0x21, 0x4E5D, 128, 0xA, 0, 0xA1, 1⟩

def ptpAt (f : PtpInst → PtpInst) : State := { up with time := { up.time with mono := 9000000000, insts := up.time.insts.set 0 (f (PtpInst.init false)) } }

theorem wit_ptp : up.time.insts.length = 2 ∧ up.time.cals.length = 3 ∧ up.ref.refs.length = 9 ∧ up.net.ports.length = 3 ∧ (∀ p ∈ up.net.ports, p.rxq.length = 8) ∧
    (up.inst 0).st = .listening ∧ (up.inst 1).st = .disabled ∧ (up.inst 0).ports.testBit 1 = true ∧ (up.inst 0).ports.testBit 2 = false ∧ (up.inst 0).masters = [] ∧ (up.inst 0).slaveOnly = true ∧
    ((ptpAt fun x => { x with st := .slave, gm := some gmA, masters := [gmA] }).inst 0).masters = [gmA] ∧ gmA.port = 1 ∧
    ((ptpAt fun x => { x with pendSync := some (5, 70) }).inst 0).pendSync = some (5, 70) ∧
    ((ptpAt fun x => { x with reqTx := some (5, 70), syncAt := some (40, 60), pendPdelay := some (5, 80, 90) }).inst 0).syncAt = some (40, 60) ∧
    ((ptpAt fun x => { x with st := .uncalibrated, good := 16 }).inst 0).good = 16 ∧ (up.rfc 0).q ≠ .blocked ∧
    (PtpInst.init false).lastAnn + 3 * logNs 1 ≤ (ptpAt id).time.mono ∧ 3 * logNs (-3) ≤ (ptpAt id).time.mono ∧ up.time.mono < 3 * logNs 1 ∧
    ((ptpAt fun x => { x with st := .slave, gm := some gmA, masters := [gmA, { gmA with port := 0 }], offsets := [(1, 50000), (0, 60000)] }).inst 0).offsets = [(1, 50000), (0, 60000)] ∧
    (∀ p, p < 3 → (up.inst 0).ports.testBit p = true → (up.port p).linkUp = false) ∧ ((netUp id).port 2).linkUp = true ∧
    ((ptpAt fun x => { x with slaveOnly := false }).inst 0).st = .listening ∧ ((ptpAt fun x => { x with slaveOnly := false }).inst 0).slaveOnly = false ∧ (ptpAt id).isStandby = false := by decide +kernel

/-- A lone instance that may be master, in LISTENING: Table 13-5 with log 25. -/
theorem test_ptp_own_master : (match exec (.ptpDomainLost 0 0 1) (ptpAt fun x => { x with slaveOnly := false }) with
    | .next u => ((u.inst 0).st, (u.inst 1).st)
    | _ => (.disabled, .disabled)) = (.master, .disabled) := by decide +kernel

/-- Trigger 6 in a state, its time base at 20000000 ns. -/
def trigAt (f : Trig → Trig) : State := { up with
  time := { up.time with tick := 480, bases := up.time.bases.set 1 { TimeBase.init 1 with val := 10000000000000 }, trigs := up.time.trigs.set 6 (f { Trig.init with armed := true, tb := 1 }) } }

theorem wit_triggers : up.time.trigs.length = 16 ∧ up.vent.cores.length = 64 ∧ up.time.trigIn.length = 4 ∧ targetBad 3 (pack [(5, 8), (9, 0)]) = false ∧ targetBad 0 0 = false ∧
    ((trigAt fun x => { x with start := 3 }).trig 6).start = 2 + 1 ∧ ((trigAt fun x => { x with due := some 9999999 }).trig 6).due = some 9999999 ∧
    9999999 ≤ (trigAt id).baseNs 1 ∧ (trigAt id).baseNs 1 < 10000001 ∧ (trigAt id).time.sub = 0 ∧ (trigAt id).follows = false ∧ up.leads = false ∧
    ((trigAt fun x => { x with action := 3, due := some 9999999, target := pack [(5, 8), (9, 0)], loadTick := 478 }).trig 6).loadTick + 2 ≤ (trigAt id).time.tick ∧
    (∀ k, k < 16 → k ≠ 6 → ((trigAt id).trig k).bound = none) ∧ ((trigAt id).goto 5).time.sub ≠ 0 := by decide +kernel

/-! ## 14: the pair -/

/-- A standby or active, its pair engine in a state. -/
def pairAt (s : State) (f : PairBlk → PairBlk) : State := { s with
  time := { s.time with mono := 70000000000 }
  pair := f { s.pair with calibrated := true } }

theorem wit_pair : (∀ k ∈ [0x17, 0x18, 0x19, 0x1A], first.classNow 0x10 k < 3) ∧ (∀ k ∈ [0x17, 0x18, 0x19, 0x1A], second.classNow 0x10 k < 3) ∧ first.classNow 0x0E 0x13 < 3 ∧ up.solo = true ∧ first.solo = false ∧
    (pairAt first fun p => { p with partner := some ⟨4, false, 0, true⟩ }).handoverOk = true ∧ (pairAt first id).pair.phase = 0 ∧ (pairAt first id).pair.hand = none ∧ (pairAt first id).pair.owner = true ∧
    (pairAt second id).pair.st = .standby ∧ (pairAt second fun p => { p with st := .cold }).pair.st = .cold ∧ first.pair.hb = true ∧ up.pair.hb = false ∧
    (pairAt second fun p => { p with missing := 2, kaLost := true }).pair.slotSeen ≠ some 7 ∧ (pairAt second fun p => { p with fatalSinceKa := true }).sys.phase ≠ .halted ∧
    (pairAt second id).pair.lastKa.getD (pairAt second id).pair.startSince + 2000 ≤ (pairAt second id).time.mono ∧ second.time.mono < second.pair.lastKa.getD second.pair.startSince + 2000 ∧
    (pairAt first fun p => { p with kaStopped := some 69999999000 }).time.mono = 69999999000 + 1000 ∧
    (pairAt second fun p => { p with st := .start, linkUp := false }).starting = true ∧ 400000000 ≤ (pairAt second id).time.mono ∧ (second.setPair { second.pair with linkUp := false }).pair.linkUp = false ∧
    (pairAt second fun p => { p with st := .cold, failedAt := some 10000000000 }).time.mono = 10000000000 + 60000000000 ∧
    (let s := pairAt second fun p => { p with st := .active, owner := true, holdFrom := some 68000000000 }
     s.sys.pairRole = 2 ∧ 68000000000 + s.pair.holdOff * 100000000 ≤ s.time.mono) ∧
    (handoverNs 999 ≤ second.now ∧ second.now < handoverNs 1000) ∧ second.now % 100000 ≠ 0 ∧ ({ first with time := { first.time with tick := 24 } }).now % 100000 = 0 := by decide +kernel

/-- The standby aligned on the partner's reference, and a cell's reception. -/
def alignedAt : State := { pairAt second id with
  ref := { up.ref with refs := up.ref.refs.set 8 { RefSt.init 8 with q := .qualified }, dplls := [{ Dpll.init with st := .locked, source := some 8, phase := 10 }, { Dpll.init with st := .locked, source := some 8, phase := -10 }] } }

theorem wit_aligned : alignedAt.pair.owner = false ∧ alignedAt.pair.calibrated = true ∧ (alignedAt.rfc 8).q = .qualified ∧
    (∀ i, i < 2 → (alignedAt.dpll i).st = .locked ∧ (alignedAt.dpll i).source = some 8 ∧ (alignedAt.dpll i).phase.natAbs ≤ 10) ∧
    second.pair.linkUp = true ∧ (second.setPair { second.pair with calibrated := false, cal := List.replicate 15 40 }).pair.calibrated = false ∧
    (41 :: List.replicate 15 40 : List Int).all (fun x => (41 :: List.replicate 15 40 : List Int).all fun y => x - y ≤ 20) = true ∧
    20 * ((1 : Nat) : Int) < (61 * ((1 : Nat) : Int) - 40).natAbs ∧ (60 * ((1 : Nat) : Int) - 40).natAbs ≤ 20 * ((1 : Nat) : Int) := by decide +kernel

theorem wit_union : ({ second with pair := { second.pair with notices := [⟨3, 5, 1002⟩] } }).pair.notices.contains ⟨3, 5, 1002⟩ = true ∧ second.pair.notices.contains ⟨9, 5, 1002⟩ = false ∧
    ((slot (fun x => { x with buf := [⟨1002, 5, 0, 30, [[1]]⟩] }) id).rxSlot 9).buf.find? (fun j => j.ptick == 1002 && j.seq == 5) = some ⟨1002, 5, 0, 30, [[1]]⟩ ∧
    boundaryNs (998 + 1) + 1600 ≤ second.now ∧ (kget second.pair.frozen 998).isSome = false ∧ ¬boundaryNs (999 + 1) + 1600 ≤ second.now ∧
    kget ({ second.pair with own := [(990, 7)], theirs := [(990, 7)] }).own 990 = some 7 ∧ kget ({ second.pair with own := [(990, 7)], theirs := [(990, 8)] }).theirs (990 % 2 ^ 32) ≠ some 7 ∧
    second.pair.matched = 0 ∧ ({ second.pair with st := .cold, phase := 4, matched := 23 }).phase = 4 ∧ second.inStep = true ∧ ({ second.pair with runLength := 7 }).runLength = 7 := by decide +kernel

/-! ## 16, 17: faults, store, resets and power -/

def entryA : ActEntry := { (default : ActEntry) with src := 0x0F, inst := 1, kind := 0x16 }

def faulty (l : List ActEntry) : State := { up with flt := { up.flt with active := l } }

theorem wit_fault_clear : up.store.regions.length = 4 ∧ up.store.sess.length = 4 ∧ fld (0x0F160100 : W32) 7 6 = 0 ∧ (faulty [entryA]).flt.active = [entryA] ∧
    entryA.src = fld (0x0F160100 : W32) 31 24 ∧ entryA.kind = fld (0x0F160100 : W32) 23 16 ∧ entryA.inst = fld (0x0F160100 : W32) 15 8 ∧
    (faulty [{ entryA with src := 0x0B, inst := 3, kind := 0x03 }]).reactOf 0x0B 0x03 = none := by decide +kernel

/-- A stream that is still lost keeps its fault's cause present. -/
theorem wit_cause_present : defaultClass 9 0x0C = 2 ∧ up.reactOf 9 0x0C = none ∧
    (slot (fun x => { x with st := .lost }) id).causePresent { entryA with src := 9, inst := 9, kind := 0x0C } = some 1000 ∧
    up.causePresent { entryA with src := 9, inst := 9, kind := 0x0C } = none := by decide +kernel

theorem wit_fault_reaction : (up.flt.reacts.filter (fun (e : ReactEntry) => !(e.src == 0x15 && e.kind == 0x1E)) ++ [(⟨0x15, 0x1E, 2, true, true, false⟩ : ReactEntry)]).filter ReactEntry.differs ≠ [] ∧
    ((up.flt.reacts ++ [(⟨0x15, 0x1E, 2, true, true, false⟩ : ReactEntry)]).filter ReactEntry.differs).length ≤ 64 ∧
    64 < ((List.replicate 65 (⟨0x15, 0x1E, 2, true, true, false⟩ : ReactEntry)).filter ReactEntry.differs).length ∧ (0x1F : Nat) ∈ [0x1F, 0x20, 0x21, 0x23, 0x24] := by decide +kernel

theorem wit_fault_message : (⟨9, 3, 0x0C, 5⟩ : FaultMsg).sendable = true ∧ (⟨0x16, 3, 0x0C, 5⟩ : FaultMsg).sendable = false ∧ (⟨9, 3, 0x0A, 5⟩ : FaultMsg).sendable = false ∧
    ((9 : Nat), (0x0C : Nat)) ∉ [(4, 1), (4, 2), (5, 2), (7, 1), (7, 2), (0x11, 2)] ∧ up.reactOf 9 0x0C = none ∧ up.flt.first = none ∧
    defaultClass 9 0x0C = 2 ∧ defaultClass 4 1 = 1 ∧ defaultClass 1 0x23 = 3 ∧ (⟨4, 63, 1, 0⟩ : FaultMsg).sendable = true ∧
    (⟨1, 0, 0x23, 0⟩ : FaultMsg).sendable = true ∧ 256 ≤ (List.replicate 256 entryA).length ∧
    ({ up.flt with firstOpen := true, firstAt := up.now - 200 }).firstAt + 200 ≤ (up.goto 0).now ∧ (up.goto 0).now < up.now - 199 + 200 ∧ up.flt.firstOpen = false := by decide +kernel

theorem wit_seq_query : up.admits hd 0x02 [1, 5] ∧ fld (1 : W32) 31 1 = 0 := by unfold State.admits; decide +kernel

theorem wit_mdio : up.takes hd 0x20 [0xA0001234, 0] ∧ bit (0xA0001234 : W32) 31 = true ∧ fld (0xA0001234 : W32) 28 26 = 0 ∧
    bit (0xA0001234 : W32) 29 = true ∧ up.mdio = [] := by unfold State.takes State.admits State.expects; decide +kernel

theorem wit_store_packets : up.takes hd 0xA2 [] ∧ up.takes hd 0xA0 [pack [(1, 28)], 0, 7] ∧ up.takes hd 0xA4 [pack [(1, 27)], 0, 7, 8] ∧
    up.takes hd 0xA1 [pack [(1, 28)], 4, 1018] := by unfold State.takes State.admits State.expects; decide +kernel

theorem wit_store_idle : up.store.ops = [] ∧ (up.sess 1).map (·.next) ≠ some 4 ∧ 4 * 1 ≤ bankCap 1 := by decide +kernel

/-- A bank with a payload of three words, and one whose check fails. -/
def bankA (r : Nat) (seq : W32) (ws : List W32) : Bank := ⟨bankMagic r, seq, w32 (4 * ws.length), headerCrc (bankMagic r) seq (w32 (4 * ws.length)) ws, ws⟩

def stored (r : Nat) (a b : Bank) : State := { up with store := { up.store with regions := up.store.regions.set r ⟨a, b⟩ } }

theorem wit_banks : (bankA 1 5 [1, 2, 3]).valid 1 = true ∧ ({ bankA 1 5 [1, 2, 3] with crc := 0 }).valid 1 = false ∧ Bank.erased.valid 1 = false ∧
    (bankA 1 6 [1, 2, 3]).valid 1 = true := by decide +kernel

/-- A store session of region 1 that has written four bytes, with its next chunk on the flash. -/
def flashing (fin : Bool) : State := { up with store := { up.store with sess := up.store.sess.set 1 (some ⟨true, 6, 4, 1000⟩)
                                                                        ops := [⟨.chunk 0xA0 1 4 [9] fin false, 0xA0, none, 7, false, 1000, true⟩] } }

theorem wit_flash : (flashing true).classNow 0x12 0x22 < 3 ∧ (flashing true).sys.ctrlAlive = true ∧ (flashing true).store.ops = [⟨.chunk 0xA0 1 4 [9] true false, 0xA0, none, 7, false, 1000, true⟩] ∧
    (flashing false).sess 1 = some ⟨true, 6, 4, 1000⟩ ∧ (up.sess 1) = none ∧
    (stored 1 (bankA 1 5 [0x02030000, 3, 4, 0, 0]) Bank.erased).store.record 2 3 = some (some [4, 0, 0]) ∧ up.time.tick < 1001 ∧
    (({ flashing true with time := { up.time with tick := 241000 } }).sess 1).map (fun (x : Session) => decide (x.lastTick + 240000 ≤ 241000)) = some true ∧ (1000 : Nat) < 1000 + 240000 := by decide +kernel

theorem wit_scene : (match scenePackets 0 (splitPackets 4 [pack [(0x40, 24), (4, 0)], 0, 0, 1]) up with
      | .inr _ => true
      | .inl _ => false) = true ∧
    (match scenePackets 0 (splitPackets 4 [pack [(0x51, 24), (4, 0)], 0, 0, 0]) up with
      | .inr _ => false
      | .inl _ => true) = true := by decide +kernel

theorem wit_block_reset : up.sys.islands.length = 16 ∧ up.sys.sensors.length = 8 ∧ up.sys.fuses.length = 19 ∧ (3 : Nat) < 63 ∧ 63 < blockCount 1 ∧ blockCount 2 ≤ 1 ∧
    (∀ i ∈ blockIslands 1 3 63, up.islandOn i = true) ∧ (∃ i ∈ blockIslands 9 0 0, up.islandOn i = false) ∧ blockCount 200 ≤ 5 := by decide +kernel

def islandAt (i : Nat) (x : Island) : State := { up with sys := { up.sys with islands := up.sys.islands.set i x } }

theorem wit_power : up.switchable 3 = false ∧ up.switchable 12 = true ∧ (∃ g ∈ (group (fun g => { g with st := .armed }) id).gey.groups, g.st ≠ .disarmed ∧ g.st ≠ .fault) ∧
    ¬(∃ g ∈ up.gey.groups, g.st ≠ .disarmed ∧ g.st ≠ .fault) ∧ (up.island 12).pwr = .on ∧ ((islandAt 12 ⟨.off, 0, none⟩).island 12).pwr = .off ∧
    ((islandAt 12 ⟨.starting, 0, none⟩).island 12).pwr = .starting ∧ ((islandAt 12 ⟨.draining, 0, none⟩).island 12).pwr = .draining ∧
    (up.cond.reqs.filter (fun r => r.ofIsland 12)).length = 0 ∧ boundaryNs 976 + 100000 ≤ up.now ∧ up.now < boundaryNs 998 + 100000 := by decide +kernel

theorem wit_resets : up.sys.pwrgd = true ∧ up.sys.phase ≠ .reset ∧ State.reset.sys.phase = .reset ∧ ({ up.sys with pwrgd := false }).pwrgd = false ∧
    ((({ up.sys with warmAt := some up.time.mono }).warmAt).map (fun a => decide (a ≤ up.time.mono))) = some true := by decide +kernel

/-- An engine in boot with an image of one section in bank A or B. -/
def image : List W32 := [0, 0x00010000, 0, 36, 0x10000000, 1, 0x10000000, 4, 0]

def imaged (a b : Bank) : State := { stored 0 a b with sys := { up.sys with phase := .boot } }

theorem wit_boot : (imaged Bank.erased Bank.erased).sys.phase = .boot ∧ (imaged Bank.erased Bank.erased).sys.bootSel = 0 ∧ (imaged Bank.erased Bank.erased).store.contentBank 0 = none ∧
    up.reactOf 0x12 0x23 = none ∧ (imaged (bankA 0 1 image) Bank.erased).store.contentBank 0 = some false ∧
    imageFails up.sys.fuses (bankCap 0) ((imaged (bankA 0 1 image) Bank.erased).bankImage false) = 0 ∧ up.classNow 0x12 0x22 < 3 ∧ up.classNow 0x0E 0x13 < 3 ∧
    (imaged (bankA 0 2 [1]) (bankA 0 1 image)).store.contentBank 0 = some false ∧ imageFails up.sys.fuses (bankCap 0) [1] = 1 ∧ (bankA 0 1 image).valid 0 = true ∧ Bank.erased.valid 0 = false ∧
    up.pcieDownload = false ∧ ({ imaged Bank.erased Bank.erased with sys := { up.sys with phase := .boot, bootSel := 1, hostSel := true } }).pcieDownload = true ∧ up.sys.dlBytes = none := by decide +kernel

theorem wit_monitors : 69000 ≤ 100 * 690 ∧ 100 * 689 < 69000 ∧ 93 * up.sys.vddioA ≤ 100 * 1800 ∧ up.reactOf 0x14 0x20 = none ∧ up.reactOf 0x15 0x1F = none ∧ up.reactOf 1 0x21 = none ∧
    up.sys.ctrlAlive = true ∧ ([0, 0, 0, 950, 949, 900, 1100, 1099] : List Int).length = 8 ∧ bit (up.sys.fuses.getD 18 0) 3 = false ∧ bit ((List.replicate 18 0 ++ [8] : List W32).getD 18 0) 3 = true := by decide +kernel

theorem wit_wf : (.nop hd [] : Instr).wf = true ∧ (.frameTransmit 0 2 : Instr).wf = true ∧ (.vLoopi 63 65535 8191 default : Instr).wf = true ∧ 64 ≤ 64 := by decide +kernel

end Sys2Proof.Tests
end

/-! # The command protocol (02)

What the command service does with packets, numbers, ticks, rings and SPI transactions. -/

namespace Sys2Proof.Machine
open Sys2Proof

/-! ## What a delivered packet leaves

A reply or an event that is delivered moves rings, queues, interrupts and port counters; the channels' numbers, the
pending commands, the Fumarole and the pair stay as they are. -/

/-- The part of the engine that a delivery leaves, beside what quiet holds. -/
structure Desk where
  chan : ChanId → ChanSt
  cmds : List Pend
  flt : FltSt
  pair : PairBlk

def State.desk (s : State) : Desk := ⟨s.chan, s.host.cmds, s.flt, s.pair⟩

@[simp] theorem State.emit_desk (s : State) (o : Out) : (s.emit o).desk = s.desk := rfl

@[simp] theorem State.emitUdp_desk (s : State) (ip port : Nat) (ws tag : List W32) :
    (s.emitUdp ip port ws tag).desk = s.desk := by
  simp only [State.emitUdp]; split <;> rfl

@[simp] theorem State.sendVec_desk (s : State) (n : Nat) : (s.sendVec n).desk = s.desk := by
  simp only [State.sendVec]; split <;> rfl

@[simp] theorem State.setInt_desk (s : State) (n : Nat) : (s.setInt n).desk = s.desk := by
  simp only [State.setInt]
  split
  · rfl
  · split
    · rfl
    · rw [State.sendVec_desk]; rfl

@[simp] theorem State.ringReply_desk (s : State) (ws : List W32) : (s.ringReply ws).desk = s.desk := by
  simp only [State.ringReply, State.setInt_desk]; rfl

@[simp] theorem State.deliverReply_desk (s : State) (c : ChanId) (src : UdpSrc) (ws : List W32) :
    (s.deliverReply c src ws).desk = s.desk := by
  cases c
  case pcie =>
    simp only [State.deliverReply]; split
    · rfl
    · exact State.ringReply_desk ..
  case spi => rfl
  case udp => exact State.emitUdp_desk ..

theorem State.deliverReply_chan (s : State) (c d : ChanId) (src : UdpSrc) (ws : List W32) :
    (s.deliverReply c src ws).chan d = s.chan d :=
  congrFun (congrArg Desk.chan (State.deliverReply_desk s c src ws)) d

/-- The channel after a reply: the device counter has gone up, and a held reply stands with its number. -/
def ChanSt.replied (ch : ChanSt) (op status : Nat) (seq tick : W32) (data : List W32) (held : Bool) : ChanSt :=
  { ch with
    dev := ch.dev + 1
    nos := if held then ch.nos.map (fun n => if n.seq == seq then
        { n with reply := some (replyWords op status seq ch.dev tick data), copies := [] } else n) else ch.nos }

/-- But for the channel's numbers a reply is a matter of deliveries. -/
theorem State.sendReply_desk (s : State) (c : ChanId) (src : UdpSrc) (op st : Nat) (seq tick : W32) (d : List W32)
    (held : Bool) : (s.sendReply c src op st seq tick d held).desk =
      (s.setChan c ((s.chan c).replied op st seq tick d held)).desk := by
  simp only [State.sendReply]
  rw [foldl_keeps State.desk _ (fun _ _ => State.deliverReply_desk ..), State.deliverReply_desk]
  rfl

theorem State.sendReply_chan_same (s : State) (c : ChanId) (src : UdpSrc) (op st : Nat) (seq tick : W32) (d : List W32)
    (held : Bool) :
    (s.sendReply c src op st seq tick d held).chan c = (s.chan c).replied op st seq tick d held :=
  (congrFun (congrArg Desk.chan (State.sendReply_desk ..)) c).trans (State.chan_setChan ..)

theorem State.sendReply_chan_other (s : State) (c e : ChanId) (src : UdpSrc) (op st : Nat) (seq tick : W32)
    (d : List W32) (held : Bool) (h : e ≠ c) : (s.sendReply c src op st seq tick d held).chan e = s.chan e :=
  (congrFun (congrArg Desk.chan (State.sendReply_desk ..)) e).trans (State.chan_setChan_ne _ _ _ _ h)

theorem State.setChan_flt (s : State) (c : ChanId) (x : ChanSt) : (s.setChan c x).flt = s.flt := by cases c <;> rfl
theorem State.setChan_pair (s : State) (c : ChanId) (x : ChanSt) : (s.setChan c x).pair = s.pair := by cases c <;> rfl
theorem State.setChan_cmds (s : State) (c : ChanId) (x : ChanSt) : (s.setChan c x).host.cmds = s.host.cmds := by
  cases c <;> rfl

theorem State.sendReply_flt (s : State) (c : ChanId) (src : UdpSrc) (op st : Nat) (seq tick : W32) (d : List W32)
    (held : Bool) : (s.sendReply c src op st seq tick d held).flt = s.flt :=
  (congrArg Desk.flt (State.sendReply_desk ..)).trans (State.setChan_flt ..)

theorem State.sendReply_pair (s : State) (c : ChanId) (src : UdpSrc) (op st : Nat) (seq tick : W32) (d : List W32)
    (held : Bool) : (s.sendReply c src op st seq tick d held).pair = s.pair :=
  (congrArg Desk.pair (State.sendReply_desk ..)).trans (State.setChan_pair ..)

theorem State.sendReply_cmds (s : State) (c : ChanId) (src : UdpSrc) (op st : Nat) (seq tick : W32) (d : List W32)
    (held : Bool) : (s.sendReply c src op st seq tick d held).host.cmds = s.host.cmds :=
  (congrArg Desk.cmds (State.sendReply_desk ..)).trans (State.setChan_cmds ..)

/-- A refusal that leaves the numbers alone counts the reply and nothing else of the channel. -/
theorem State.repliesFree_chan (s : State) (h : CmdHead) (op st : Nat) :
    ((s.repliesFree h op st false).chan h.chan) = { s.chan h.chan with dev := (s.chan h.chan).dev + 1 } :=
  State.sendReply_chan_same ..

/-! ## The engine that has accepted a packet -/

/-- But for a key that comes into force, a packet that arrives only lets time pass. -/
theorem keyTurn_eq (s : State) (c : ChanId) :
    s.keyTurn c = { s with host := { s.host with key := (s.keyTurn c).host.key, keyNext := (s.keyTurn c).host.keyNext } } := by
  simp only [State.keyTurn]; split <;> (try split) <;> rfl

theorem keyTurn_quiet (s : State) (c : ChanId) : (s.keyTurn c).quiet = s.quiet := by rw [keyTurn_eq]; rfl
theorem keyTurn_desk (s : State) (c : ChanId) : (s.keyTurn c).desk = s.desk := by rw [keyTurn_eq]; rfl

theorem arrived_quiet (s : State) (h : CmdHead) : (s.arrived h).quiet = (s.goto h.t).quiet := keyTurn_quiet ..

/-- Time alone moves on. -/
theorem goto_eq (s : State) (t : Nat) : s.goto t = { s with time := (s.goto t).time } := by
  simp only [State.goto]; split <;> rfl

theorem goto_desk (s : State) (t : Nat) : (s.goto t).desk = s.desk := by
  simp only [State.goto]; split <;> rfl

theorem arrived_desk (s : State) (h : CmdHead) : (s.arrived h).desk = s.desk :=
  (keyTurn_desk ..).trans (goto_desk ..)

theorem arrived_chan (s : State) (h : CmdHead) (c : ChanId) : (s.arrived h).chan c = s.chan c :=
  congrFun (congrArg Desk.chan (arrived_desk s h)) c

theorem accepted_quiet (s : State) (h : CmdHead) : (s.accepted h).quiet = (s.goto h.t).quiet := by
  rw [State.accepted, State.setChan_quiet, arrived_quiet]

theorem accepted_pair (s : State) (h : CmdHead) : (s.accepted h).pair = s.pair :=
  (State.setChan_pair ..).trans (congrArg Desk.pair (arrived_desk s h))

theorem accepted_flt (s : State) (h : CmdHead) : (s.accepted h).flt = s.flt :=
  (State.setChan_flt ..).trans (congrArg Desk.flt (arrived_desk s h))

theorem accepted_cmds (s : State) (h : CmdHead) : (s.accepted h).host.cmds = s.host.cmds :=
  (State.setChan_cmds ..).trans (congrArg Desk.cmds (arrived_desk s h))

theorem accepted_tick32 (s : State) (h : CmdHead) : (s.accepted h).tick32 = s.tick32 := by
  have : (s.accepted h).time = (s.goto h.t).time := congrArg Quiet.time (accepted_quiet s h)
  simp [State.tick32, this]

theorem accepted_solo (s : State) (h : CmdHead) : (s.accepted h).solo = s.solo := by
  simp only [State.solo, accepted_sys]

theorem accepted_chan_same (s : State) (h : CmdHead) :
    (s.accepted h).chan h.chan = { (s.chan h.chan).hold h.seq with expect := some (h.seq + 1) } := by
  rw [State.accepted, State.chan_setChan, arrived_chan]

theorem accepted_chan_other (s : State) (h : CmdHead) (c : ChanId) (hc : c ≠ h.chan) :
    (s.accepted h).chan c = s.chan c := by
  rw [State.accepted, State.chan_setChan_ne _ _ _ _ hc, arrived_chan]

/-! ## The step -/

/-- Settles O1: the step takes the command at the front of the queue (the model's queue, log 1). -/
theorem stepRunsTheFrontCommand : Obligations.StepRunsTheFrontCommand := fun _ _ _ => rfl

/-! ## Queries -/

/-- Of a command without a gap the answer's own status goes out, whether it is OK or not. -/
theorem State.answerQuery_taken (s : State) (h : CmdHead) (op : Nat) (p : List W32) (r : OpRow)
    (run : List W32 → State → Ans) (h2 : op ≠ 0x02) :
    s.answerQuery (taken h op p r false) run =
      (run p s).s.sendReply h.chan h.src op (run p s).status h.seq s.tick32 (run p s).data true := by
  have hb : (op != 0x02) = true := bne_iff_ne.2 h2
  by_cases h0 : (run p s).status = 0 <;> simp [State.answerQuery, taken, doneStatus, h0, hb]

/-- Settles O3: a taken packet runs the query on the engine that has accepted it, and the answer's own status and data
go out. -/
theorem queriesAnswerWhenAccepted : Obligations.QueriesAnswerWhenAccepted := by
  intro e he h p s ht
  obtain ⟨r, hr, h2⟩ := opRow_queryRows e he
  rw [exec_queryRows e he, State.query, receive_takes _ hr h2 ht, State.answerQuery_taken _ _ _ _ _ _ h2]

/-- A number that is held stands in the channel with the reply given to it. -/
theorem ChanSt.replied_holds (ch : ChanSt) (op st : Nat) (seq tick : W32) (d : List W32) :
    (({ ch.hold seq with expect := some (seq + 1) } : ChanSt).replied op st seq tick d true).nos.any
      (fun n => n.seq == seq && n.reply == some (replyWords op st seq ch.dev tick d)) = true := by
  simp [ChanSt.replied, ChanSt.hold]

theorem nop_mem_queryRows : ((0x00 : Nat), Instr.nop, queryNop) ∈ queryRows := List.mem_cons_self

/-- Settles O4: the query operation of NOP leaves the accepted state as it is, so all that changes is what its reply
changes. -/
theorem nopIsAnsweredAndNumbered : Obligations.NopIsAnsweredAndNumbered := by
  intro h p s ht
  have hx := queriesAnswerWhenAccepted _ nop_mem_queryRows h p s ht
  have hq := (State.sendReply_quiet (s.accepted h) h.chan h.src 0x00 0 h.seq (s.accepted h).tick32 [] true).trans
    (accepted_quiet s h)
  refine ⟨_, hx, ?_⟩
  simp only [queryNop, Ans.ok, accepted_tick32] at hq ⊢
  refine ⟨?_, ?_, ?_, ?_, ?_⟩
  · rw [State.sendReply_chan_same, accepted_chan_same]; rfl
  · rw [State.sendReply_chan_same, accepted_chan_same]; rfl
  · intro d hd
    rw [State.sendReply_chan_other _ _ _ _ _ _ _ _ _ _ hd, accepted_chan_other _ _ _ hd]
  · rw [State.sendReply_chan_same, accepted_chan_same]
    exact ChanSt.replied_holds ..
  · have hpair := (State.sendReply_pair (s.accepted h) h.chan h.src 0x00 0 h.seq s.tick32 [] true).trans (accepted_pair s h)
    have hflt := (State.sendReply_flt (s.accepted h) h.chan h.src 0x00 0 h.seq s.tick32 [] true).trans (accepted_flt s h)
    have hcmds := (State.sendReply_cmds (s.accepted h) h.chan h.src 0x00 0 h.seq s.tick32 [] true).trans (accepted_cmds s h)
    rw [goto_eq] at hq
    have hk {β : Type} (f : Quiet → β) := congrArg f hq
    exact ⟨hk Quiet.sys, hflt, hk Quiet.route, hk Quiet.cald, hk Quiet.meter, hk Quiet.vent, hk Quiet.dec, hk Quiet.gey,
      hk Quiet.tdm, hk Quiet.strm, hpair, hk Quiet.cond, hk Quiet.dma, hk Quiet.store, hk Quiet.mem, hcmds, hk Quiet.time⟩

/-! ## Target ticks -/

theorem ceilDiv_le_iff (a m : Nat) {b : Nat} (hb : 0 < b) : ceilDiv a b ≤ m ↔ a ≤ b * m := by
  rw [ceilDiv, ← Nat.lt_succ_iff, Nat.div_lt_iff_lt_mul hb, Nat.succ_mul, Nat.mul_comm m b]
  omega

theorem firstTick_le_iff (stamp lead m : Nat) : firstTick stamp lead ≤ m ↔ 3 * (stamp + lead) ≤ 125000 * m :=
  ceilDiv_le_iff _ _ (by decide)

/-- The target of a named tick, by how far it lies ahead of the current one. -/
theorem resolveTick_named (stamp lead : Nat) {a : W32} (ha : a ≠ 0) :
    resolveTick stamp lead a =
      let d := (a - w32 (tickOf stamp)).toNat
      if d = 0 ∨ 2 ^ 31 ≤ d then some (firstTick stamp lead, true)
      else if 2 ^ 24 < d then none
      else if tickOf stamp + d < firstTick stamp lead then some (firstTick stamp lead, true)
      else some (tickOf stamp + d, false) := by
  rw [resolveTick, if_neg ha]; rfl

theorem w32_add_toNat_sub (n : Nat) (a : W32) : w32 (n + (a - w32 n).toNat) = a := by
  rw [w32, BitVec.ofNat_add, BitVec.ofNat_toNat, BitVec.setWidth_eq, ← w32, BitVec.add_comm, BitVec.sub_add_cancel]

/-- Settles O6: the target is least by division, and the clauses are the branches of the resolution. -/
theorem targetTicksAreEligible : Obligations.TargetTicksAreEligible := by
  intro stamp lead a
  refine ⟨firstTick_le_iff stamp lead, rfl, fun ha d hd => ?_⟩
  rw [resolveTick_named _ _ ha]
  simp only [← hd]
  refine ⟨fun h => if_pos h, fun h1 h2 => ?_, fun h0 h1 h2 => ⟨?_, ?_⟩, fun h0 h1 h2 => ?_⟩
  · rw [if_neg (by omega), if_pos h1]
  · rw [if_neg (by omega), if_neg (by omega), if_neg (by omega)]
  · rw [hd]; exact w32_add_toNat_sub _ a
  · rw [if_neg (by omega), if_neg (by omega), if_pos h2]

/-! ## State-changing packets -/

/-- A state-changing packet that is taken is scheduled, mirrored or forwarded by the engine that has accepted it. -/
theorem exec_setting_takes {e : Nat × (Stage → List W32 → Instr) × (List W32 → State → Ans)} (he : e ∈ settingRows)
    {h : CmdHead} {p : List W32} {s : State} (ht : s.takes h e.1 p) :
    ∃ r, opRow e.1 = some r ∧ r.kind = .state ∧
      exec (e.2.1 (.arrive h) p) s = .next ((s.accepted h).takeState (taken h e.1 p r false)) := by
  obtain ⟨r, hr, hk⟩ := opRow_settingRows e he
  have h2 : e.1 ≠ 0x02 := by
    intro h2
    rw [h2] at hr
    exact absurd (Option.some.inj hr ▸ hk) (by decide)
  exact ⟨r, hr, hk, by rw [exec_settingRows e he, State.command, receive_takes _ hr h2 ht]⟩

/-- A command with a target tick joins the pending commands, goes to the standby where it is shared, and is answered with
ACCEPTED where its tick is not the first eligible one. -/
theorem State.schedule_some {s : State} {o : Origin} {op : Nat} {applyTick : W32} {par : List W32} {seq : W32}
    {gap noReply share : Bool} {target : Nat} {late : Bool} (hop : op ≠ 0xA3)
    (ht : resolveTick s.now s.lead applyTick = some (target, late)) :
    s.schedule o op applyTick par seq gap noReply share =
      let t := { s with host := { s.host with cmds := s.host.cmds ++
        [(⟨op, par, target, s.now, o, seq, late, gap, noReply⟩ : Pend)] } }
      let u := if share then t.sendCell (.command op target par) else t
      if target = firstTick s.now s.lead ∨ noReply = true then u else u.answer o op 1 seq (w32 target) [] false := by
  simp [State.schedule, ht, hop]

/-- A command beyond the horizon is answered with RESOURCE. -/
theorem State.schedule_none {s : State} {o : Origin} {op : Nat} {applyTick : W32} {par : List W32} {seq : W32}
    {gap noReply share : Bool} (ht : resolveTick s.now s.lead applyTick = none) :
    s.schedule o op applyTick par seq gap noReply share = s.freeTick.2.answer o op stResource seq s.freeTick.1 [] true := by
  simp [State.schedule, ht]

/-- A mirrored opcode is no pair control opcode (02 Table 2-9). -/
theorem pairControl_of_mirroredOp {op : Nat} {par : List W32} (h : mirroredOp op par = true) : pairControl op = false := by
  have h82 : mirroredOp 0x82 par = false := rfl
  have h83 : mirroredOp 0x83 par = false := rfl
  simp only [pairControl, Bool.or_eq_false_iff, beq_eq_false_iff_ne]
  constructor
  · rintro rfl; exact absurd h (by simp [h82])
  · rintro rfl; exact absurd h (by simp [h83])

/-- A command that no pair rule concerns is scheduled here (02 R59). -/
theorem State.takeState_here {s : State} {c : Cmd} (h : s.solo = true ∨ (c.mirror && mirroredOp c.op c.par) = false ∧
    pairControl c.op = false) :
    s.takeState c = s.schedule c.origin c.op c.applyTick c.par c.seq c.gap c.noReply false := by
  rw [State.takeState, if_pos]
  obtain h | ⟨h1, h2⟩ := h
  · simp [h]
  · simp [h1, h2]

section
variable {s : State} {c : Cmd} (hs : s.solo = false) (hm : c.mirror = true) (ho : mirroredOp c.op c.par = true)
include hs hm ho

/-- The owner schedules a mirrored command and shares it (02 R60). -/
theorem State.takeState_owner (h : s.pair.owner = true) :
    s.takeState c = s.schedule c.origin c.op c.applyTick c.par c.seq c.gap c.noReply (c.op != 0xA3) := by
  simp [State.takeState, hs, hm, ho, h]

/-- The other engine forwards it over the link (02 R61). -/
theorem State.takeState_forward (h : s.pair.owner = false) (hl : s.pair.linkUp = true) :
    s.takeState c = ({ s with pair := { s.pair with
        fwdTag := s.pair.fwdTag + 1
        fwd := s.pair.fwd ++ [(⟨s.pair.fwdTag, c.op, c.origin, c.seq, c.gap, c.noReply⟩ : Fwd)] } }).sendCell
      (.forward s.pair.fwdTag c.op c.applyTick c.par) := by
  rw [State.takeState, if_neg (by simp [hs, hm, ho]), if_neg (by simp [h]), if_pos hl]

/-- Without the link it answers NOT_OWNER (02 R61). -/
theorem State.takeState_notOwner (h : s.pair.owner = false) (hl : s.pair.linkUp = false) :
    s.takeState c = s.freeTick.2.sendReply c.chan c.src c.op 7 c.seq s.freeTick.1 [] true := by
  rw [State.takeState, if_neg (by simp [hs, hm, ho]), if_neg (by simp [h]), if_neg (by simp [hl]),
    if_neg (by simp [pairControl_of_mirroredOp ho])]

end

/-- The command that a taken state-changing packet spells. -/
theorem taken_state {h : CmdHead} {op : Nat} {p : List W32} {r : OpRow} (hk : r.kind = .state) :
    taken h op p r false = ⟨h.chan, h.src, op, h.seq, h.applyTick, h.mirror, h.noReply, p, false⟩ := by
  simp [taken, hk]

/-- Settles O5: the solo engine schedules, and the clauses are the two results of R34 (number used: log 29, free TICK:
log 16). -/
theorem settingsWaitForTheirTick : Obligations.SettingsWaitForTheirTick := by
  intro e he hA3 h p s ht hs
  obtain ⟨r, -, hk, hx⟩ := exec_setting_takes he ht
  rw [hx, taken_state hk, State.takeState_here (.inl ((accepted_solo s h).trans hs))]
  exact ⟨fun target late hr => congrArg _ (State.schedule_some hA3 hr), fun hr => congrArg _ (State.schedule_none hr)⟩

/-- Settles O7: the branches of a command in a pair. -/
theorem mirroredCommandsInAPair : Obligations.MirroredCommandsInAPair := by
  intro e he hA3 h p s ht hs ho a
  obtain ⟨r, -, hk, hx⟩ := exec_setting_takes he ht
  have hsolo : a.solo = false := (accepted_solo s h).trans hs
  have hpair : a.pair = s.pair := accepted_pair s h
  have hne : (e.1 != 0xA3) = true := bne_iff_ne.2 hA3
  rw [hx, taken_state hk]
  refine ⟨fun hm hown target late hr hf => ?_, fun hm hown hl => ?_, fun hm hown hl => ?_, fun hm target late hr hf => ?_⟩
  · rw [State.takeState_owner hsolo hm ho (hpair ▸ hown), hne, State.schedule_some hA3 hr]
    exact congrArg _ (if_pos (.inl hf))
  · rw [State.takeState_forward hsolo hm ho (hpair ▸ hown) (hpair ▸ hl)]
    rfl
  · rw [State.takeState_notOwner hsolo hm ho (hpair ▸ hown) (hpair ▸ hl)]
    rfl
  · rw [State.takeState_here (.inr ⟨by simp [hm], pairControl_of_mirroredOp ho⟩), State.schedule_some hA3 hr]
    exact congrArg _ (if_pos (.inl hf))

/-! ## The order of the pending commands (R37) -/

/-- The first of the elements that no other precedes: before it every element comes after it in the order, behind it none
comes before it. -/
def FirstLeast {α : Type} (before : α → α → Bool) (l : List α) (p : α) : Prop :=
  ∃ pre post, l = pre ++ p :: post ∧ (∀ q ∈ pre, before p q = true) ∧ ∀ q ∈ post, before q p = false

theorem sortBy_eq_nil {α : Type} {before : α → α → Bool} {l : List α} : sortBy before l = [] ↔ l = [] := by
  have hi : ∀ (f : α → α → Bool) (x : α) (t : List α), insertBy f x t ≠ [] := by
    intro f x t
    cases t with
    | nil => simp [insertBy]
    | cons y t => simp only [insertBy]; split <;> simp
  cases l with
  | nil => simp [sortBy]
  | cons x t => simp [sortBy, hi]

/-- The head of an insertion: the new element, unless the old head precedes it. -/
theorem head?_insertBy {α : Type} (before : α → α → Bool) (x y : α) (t : List α) :
    (insertBy (fun a b => !before b a) x (y :: t)).head? = some (if before y x then y else x) := by
  cases h : before y x <;> simp [insertBy, h]

/-- The head of the stable sort is the first of the least elements. -/
theorem head?_sortBy {α : Type} {before : α → α → Bool}
    (hasymm : ∀ a b, before a b = true → before b a = false)
    (hneg : ∀ a b c, before a b = false → before b c = false → before a c = false)
    {l : List α} {p : α} (h : (sortBy before l).head? = some p) : FirstLeast before l p := by
  induction l generalizing p with
  | nil => simp [sortBy] at h
  | cons x t ih =>
    cases hs : sortBy before t with
    | nil =>
      obtain rfl := sortBy_eq_nil.1 hs
      obtain rfl : x = p := by simpa [sortBy, insertBy] using h
      exact ⟨[], [], rfl, by simp, by simp⟩
    | cons y u =>
      obtain ⟨pre, post, rfl, hpre, hpost⟩ := ih (p := y) (by rw [hs]; rfl)
      rw [sortBy, hs, head?_insertBy] at h
      cases hb : before y x with
      | true =>
        obtain rfl : y = p := by simpa [hb] using h
        exact ⟨x :: pre, post, rfl, List.forall_mem_cons.2 ⟨hb, hpre⟩, hpost⟩
      | false =>
        obtain rfl : x = p := by simpa [hb] using h
        refine ⟨[], pre ++ y :: post, rfl, by simp, fun q hq => ?_⟩
        rcases List.mem_append.1 hq with hq | hq
        · exact hneg _ _ _ (hasymm _ _ (hpre q hq)) hb
        · rcases List.mem_cons.1 hq with rfl | hq
          · exact hb
          · exact hneg _ _ _ (hpost q hq) hb

theorem FirstLeast.filter {α : Type} {before : α → α → Bool} {l : List α} {f : α → Bool} {p : α}
    (h : FirstLeast before (l.filter f) p) : ∃ pre post, l = pre ++ p :: post ∧ f p = true ∧
      (∀ q ∈ pre, f q = true → before p q = true) ∧ ∀ q ∈ post, f q = true → before q p = false := by
  obtain ⟨pre, post, hl, hpre, hpost⟩ := h
  obtain ⟨l₁, l₂, rfl, hl₁, hl₂⟩ := List.filter_eq_append_iff.1 hl
  obtain ⟨l₃, l₄, rfl, hl₃, hp, hl₄⟩ := List.filter_eq_cons_iff.1 hl₂
  refine ⟨l₁ ++ l₃, l₄, by simp, hp, fun q hq hf => ?_, fun q hq hf => hpost q (hl₄ ▸ List.mem_filter.2 ⟨hq, hf⟩)⟩
  rcases List.mem_append.1 hq with hq | hq
  · exact hpre q (hl₁ ▸ List.mem_filter.2 ⟨hq, hf⟩)
  · exact absurd hf (hl₃ q hq)

/-- What stands before the first occurrence of an element stands before every occurrence. -/
theorem mem_of_first_append {α : Type} {a : α} {l₁ l₂ r₁ r₂ : List α} (h : l₁ ++ a :: r₁ = l₂ ++ a :: r₂) (ha : a ∉ l₁)
    {x : α} (hx : x ∈ l₁) : x ∈ l₂ := by
  obtain ⟨c, rfl, -⟩ | ⟨c, rfl, hc⟩ := List.append_eq_append_iff.1 h
  · exact List.mem_append_left _ hx
  · cases c with
    | nil => simpa using hx
    | cons y c =>
      obtain rfl : a = y := (List.cons.inj hc).1
      simp at ha

theorem Pend.before_iff (a b : Pend) : a.before b = true ↔ a.target < b.target ∨
    (a.target = b.target ∧ (a.stamp < b.stamp ∨ (a.stamp = b.stamp ∧ a.org.rank < b.org.rank))) := by
  simp [Pend.before]

theorem Pend.not_before_iff (a b : Pend) : a.before b = false ↔ b.target < a.target ∨
    (b.target = a.target ∧ (b.stamp < a.stamp ∨ (b.stamp = a.stamp ∧ b.org.rank ≤ a.org.rank))) := by
  rw [← Bool.not_eq_true, Pend.before_iff]; omega

theorem Pend.before_asymm (a b : Pend) (h : a.before b = true) : b.before a = false := by
  rw [Pend.before_iff] at h; rw [Pend.not_before_iff]; omega

theorem Pend.not_before_trans (a b c : Pend) (h : a.before b = false) (h' : b.before c = false) : a.before c = false := by
  rw [Pend.not_before_iff] at *; omega

/-- The next command is due; those accepted before it come after it in the order, and no due one comes before it. -/
theorem State.nextDue_some {s : State} {p : Pend} (h : s.nextDue = some p) :
    ∃ pre post, s.host.cmds = pre ++ p :: post ∧ p.target ≤ s.time.tick ∧
      (∀ q ∈ pre, q.target ≤ s.time.tick → p.before q = true) ∧
      ∀ q ∈ post, q.target ≤ s.time.tick → q.before p = false := by
  simpa using (head?_sortBy Pend.before_asymm Pend.not_before_trans h).filter

theorem State.nextDue_eq_none {s : State} : s.nextDue = none ↔ ∀ p ∈ s.host.cmds, s.time.tick < p.target := by
  simp [State.nextDue, sortBy_eq_nil]

/-- Where nothing is due, nothing applies. -/
theorem State.applyPending_of_none {s : State} (h : s.nextDue = none) (n : Nat) : State.applyPending n s = s := by
  cases n <;> simp [State.applyPending, h]

/-- Otherwise the next due command applies, and the rest after it. -/
theorem State.applyPending_of_some {s : State} {p : Pend} (h : s.nextDue = some p) (n : Nat) :
    State.applyPending (n + 1) s = State.applyPending n
      (({ s with host := { s.host with cmds := s.host.cmds.erase p } }).applyPend p (applyAny p.op)) := by
  simp [State.applyPending, h]

/-- Settles O9: the next command is the first of the least in the order of R37 (the partner's last, log 101). -/
theorem dueCommandsApplyInOrder : Obligations.DueCommandsApplyInOrder := by
  refine ⟨fun s h => congrArg _ (State.applyPending_of_none (State.nextDue_eq_none.2 h) _), fun s p h => ?_, fun s h => ?_⟩
  · obtain ⟨pre, post, hl, hdue, hpre, hpost⟩ := State.nextDue_some h
    refine ⟨hl ▸ by simp, hdue, fun q hq hqd => ?_, fun pre' post' hl' hp' q hq hqd heq => ?_, ?_⟩
    · have hqp : q.before p = false := by
        rcases List.mem_append.1 (hl ▸ hq) with hq | hq
        · exact Pend.before_asymm _ _ (hpre q hq hqd)
        · rcases List.mem_cons.1 hq with rfl | hq
          · simp [Pend.not_before_iff]
          · exact hpost q hq hqd
      exact (Pend.not_before_iff q p).1 hqp
    · have hsub : q ∈ pre := mem_of_first_append (hl'.symm.trans hl) hp' hq
      have := (Pend.before_iff p q).1 (hpre q hsub hqd)
      omega
    · have hn : s.host.cmds.length = s.host.cmds.length - 1 + 1 := by rw [hl, List.length_append, List.length_cons]; omega
      refine congrArg Host.Outcome.next ?_
      rw [hn, State.applyPending_of_some h, Nat.add_sub_cancel]
  · rw [Option.isSome_iff_ne_none, Ne, State.nextDue_eq_none]
    obtain ⟨p, hp, hd⟩ := h
    exact fun hn => absurd (hn p hp) (by omega)

/-! ## Host numbers (R40) -/

theorem ChanSt.hold_holds (ch : ChanSt) (q : W32) :
    (ch.hold q).nos.any (fun n => n.seq == q && n.reply.isNone) = true := by simp [ChanSt.hold]

theorem ChanSt.check_first {ch : ChanSt} (auth : Bool) (q : W32) (h : ch.expect = none) :
    ch.check auth q = .run false { ch.hold q with expect := some (q + 1) } := by
  simp [ChanSt.check, h]

theorem toNat_sub_ne_zero {q e : W32} (hq : q ≠ e) : (q - e).toNat ≠ 0 := fun h => hq (by bv_omega)

section
variable {ch : ChanSt} {e : W32} (auth : Bool) (he : ch.expect = some e)
include he

theorem ChanSt.check_inSequence : ch.check auth e = .run false { ch.hold e with expect := some (e + 1) } := by
  simp [ChanSt.check, he]

variable {q : W32}

/-- A held number of the 64 before the expected one is a repeat. -/
theorem ChanSt.check_repeat (hk : 2 ^ 32 - 64 ≤ (q - e).toNat) {n : HeldNo}
    (hn : ch.nos.find? (fun m => m.seq == q) = some n) : ch.check auth q = .again n := by
  simp only [ChanSt.check, he]
  rw [if_neg (by omega), if_pos hk, hn]

/-- One that is not held fills a gap. -/
theorem ChanSt.check_fill (hk : 2 ^ 32 - 64 ≤ (q - e).toNat) (hn : ch.nos.find? (fun m => m.seq == q) = none) :
    ch.check auth q = .run true (ch.hold q) := by
  simp only [ChanSt.check, he]
  rw [if_neg (by omega), if_pos hk, hn]

/-- Any other number is out of the window: dropped in the upper half of an authenticated channel. -/
theorem ChanSt.check_drop (hq : q ≠ e) (hk : (q - e).toNat < 2 ^ 32 - 64) (ha : auth = true) (hu : 2 ^ 31 ≤ (q - e).toNat) :
    ch.check auth q = .drop := by
  simp only [ChanSt.check, he]
  rw [if_neg (toNat_sub_ne_zero hq), if_neg (by omega), if_pos ⟨ha, hu⟩]

/-- Elsewhere it runs, and the gap counts. -/
theorem ChanSt.check_gap (hq : q ≠ e) (hk : (q - e).toNat < 2 ^ 32 - 64) (ha : auth = false ∨ (q - e).toNat < 2 ^ 31) :
    ch.check auth q = .run true { ch.hold q with expect := some (q + 1), gaps := ch.gaps + 1 } := by
  simp only [ChanSt.check, he]
  rw [if_neg (toNat_sub_ne_zero hq), if_neg (by omega), if_neg]
  rintro ⟨h1, h2⟩
  rcases ha with ha | ha
  · simp [ha] at h1
  · omega

end

/-- Whatever runs is the channel with the number held, but for what it expects and its count of gaps. -/
theorem ChanSt.check_run {ch x : ChanSt} {auth g : Bool} {q : W32} (h : ch.check auth q = .run g x) :
    x = { ch.hold q with expect := x.expect, gaps := x.gaps } := by
  cases he : ch.expect with
  | none => rw [ChanSt.check_first auth q he] at h; cases h; rfl
  | some e =>
    by_cases hq : q = e
    · subst hq; rw [ChanSt.check_inSequence auth he] at h; cases h; rfl
    · by_cases hk : 2 ^ 32 - 64 ≤ (q - e).toNat
      · cases hn : ch.nos.find? (fun m => m.seq == q) with
        | some n => rw [ChanSt.check_repeat auth he hk hn] at h; cases h
        | none => rw [ChanSt.check_fill auth he hk hn] at h; cases h; rfl
      · by_cases hd : auth = true ∧ 2 ^ 31 ≤ (q - e).toNat
        · rw [ChanSt.check_drop auth he hq (by omega) hd.1 hd.2] at h; cases h
        · rw [ChanSt.check_gap auth he hq (by omega) (by cases auth <;> simp_all)] at h; cases h; rfl

/-- Settles O10: each clause is one result of the sequence rules. -/
theorem hostNumbersFollowTheWindow : Obligations.HostNumbersFollowTheWindow := by
  intro ch auth q
  refine ⟨fun g x h => ?_, fun h => ⟨_, ChanSt.check_first auth q h, rfl, rfl⟩, fun e he => ⟨?_, ?_, ?_, ?_, ?_⟩⟩
  · rw [ChanSt.check_run h]
    exact ⟨ChanSt.hold_holds ch q, rfl, rfl⟩
  · rintro rfl
    exact ⟨_, ChanSt.check_inSequence auth he, rfl, rfl⟩
  · exact fun hk n hn => ChanSt.check_repeat auth he hk hn
  · exact fun hk hn => ⟨_, ChanSt.check_fill auth he hk hn, he, rfl⟩
  · exact ChanSt.check_drop auth he
  · exact fun hq hk ha => ⟨_, ChanSt.check_gap auth he hq hk ha, rfl, rfl⟩

/-! ## Packets that do not run -/

/-- The lengths of Table 18-1 fit the field LENGTH. -/
theorem length_lt_of_lenAllowed {op n : Nat} (h : lenAllowed op n = true) : n < 65536 := by
  have hmax : ∀ x ∈ opTable, ∀ l ∈ x.lens, l.2 ≤ 1024 := by decide
  cases ho : opRow op with
  | none => simp [lenAllowed, ho] at h
  | some r =>
    simp only [lenAllowed, ho, List.any_eq_true, decide_eq_true_eq] at h
    obtain ⟨l, hl, hn⟩ := h
    have := hmax r (List.mem_of_find?_eq_some ho) l hl
    omega

/-- A packet of the table that its channel admits goes through the framing check. -/
theorem exec_arrival {e : Nat × (CmdHead → List W32 → Instr)} (he : e ∈ arrivals) :
    ∃ r run, opRow e.1 = some r ∧ ∀ (h : CmdHead) (p : List W32) (s : State), s.admits h e.1 p →
      exec (e.2 h p) s = .next ((s.arrived h).framing h.chan h.src (commandWords h e.1 p) run) := by
  obtain ⟨run, hx⟩ := exec_arrivals e he
  obtain ⟨r, hr⟩ := Option.isSome_iff_exists.1 (opRow_arrivals e he)
  exact ⟨r, run, hr, fun h p s ha => by rw [hx, receive_admits run ha]⟩

/-- The channel takes the number that it expects. -/
theorem check_expects {s : State} {h : CmdHead} (hx : s.expects h) (auth : Bool) :
    ((s.arrived h).chan h.chan).check auth h.seq =
      .run false { ((s.arrived h).chan h.chan).hold h.seq with expect := some (h.seq + 1) } := by
  rcases hx with hx | hx
  · exact ChanSt.check_first auth _ hx
  · exact ChanSt.check_inSequence auth hx

section
variable {e : Nat × (CmdHead → List W32 → Instr)} (he : e ∈ arrivals) {h : CmdHead} {p : List W32} {s : State}
  (ha : s.admits h e.1 p)
include he ha

/-- A length that the opcode does not allow is refused (R32). -/
theorem exec_badLength (hp : p.length < 65533) (hl : lenAllowed e.1 (p.length + 3) = false) :
    exec (e.2 h p) s = .next ((s.arrived h).repliesFree h e.1 4 false) := by
  obtain ⟨r, run, hr, hx⟩ := exec_arrival he
  rw [hx h p s ha, framing_packet run hr (by omega), if_pos hl]
  rfl

variable (h2 : e.1 ≠ 0x02) (hl : lenAllowed e.1 (p.length + 3) = true)
include h2 hl

/-- A repeat is answered with what its number holds (R40). -/
theorem exec_repeat {n : HeldNo} (hc : ((s.arrived h).chan h.chan).check
      (h.chan == .udp && (s.arrived h).host.key.isSome) h.seq = .again n) :
    exec (e.2 h p) s = .next ((s.arrived h).repeatReply h.chan h.src n) := by
  obtain ⟨r, run, hr, hx⟩ := exec_arrival he
  rw [hx h p s ha, framing_packet run hr (length_lt_of_lenAllowed hl), if_neg (by simp [hl]), if_neg h2, hc]

/-- A 65th outstanding command is refused (R39). -/
theorem exec_busy (hx : s.expects h) (hb : 64 ≤ (s.arrived h).outstanding h.chan) :
    exec (e.2 h p) s = .next ((s.arrived h).repliesFree h e.1 2 false) := by
  obtain ⟨r, run, hr, hx'⟩ := exec_arrival he
  rw [hx' h p s ha, framing_packet run hr (length_lt_of_lenAllowed hl), if_neg (by simp [hl]), if_neg h2,
    check_expects hx]
  simp only [if_pos hb]
  rfl

/-- In HALTED a solo engine accepts the number and answers FAULTED (R33). -/
theorem exec_halted (hx : s.expects h) (hb : (s.arrived h).outstanding h.chan < 64) (hh : s.sys.phase = .halted)
    (hs : s.solo = true) (hn : answeredHalted e.1 = false) :
    exec (e.2 h p) s = .next ((s.accepted h).repliesFree h e.1 0x0B true) := by
  obtain ⟨r, run, hr, hx'⟩ := exec_arrival he
  have hphase : (s.accepted h).sys.phase = .halted := by rw [accepted_sys]; exact hh
  have hown : (s.accepted h).notOwner e.1 h.mirror p = false := by
    simp [State.notOwner, State.isStandby, accepted_solo, hs]
  rw [hx' h p s ha, framing_packet run hr (length_lt_of_lenAllowed hl), if_neg (by simp [hl]), if_neg h2,
    check_expects hx]
  simp only [if_neg (Nat.not_le.2 hb)]
  rw [← State.accepted, if_pos (by simp [hphase, hn]), hown]
  rfl

end

theorem State.repeatReply_given {s : State} {c : ChanId} {src : UdpSrc} {n : HeldNo} {ws : List W32}
    (h : n.reply = some ws) : s.repeatReply c src n = s.deliverReply c src ws := by simp [State.repeatReply, h]

theorem State.repeatReply_suppressed {s : State} {c : ChanId} {src : UdpSrc} {n : HeldNo}
    (h : n.reply = none) (hs : n.suppressed = true) : s.repeatReply c src n = s := by simp [State.repeatReply, h, hs]

theorem State.repeatReply_owed {s : State} {c : ChanId} {src : UdpSrc} {n : HeldNo}
    (h : n.reply = none) (hs : n.suppressed = false) : s.repeatReply c src n = s.setChan c
      { s.chan c with nos := (s.chan c).nos.map (fun m => if m.seq == n.seq then { m with copies := m.copies ++ [src] } else m) } := by
  simp [State.repeatReply, h, hs]

/-- Settles O11: a repeat stops at its number and the refusals at their checks (repeats before BUSY: log 28, free TICK:
log 16). -/
theorem repeatsAndRefusalsLeaveNoTrace : Obligations.RepeatsAndRefusalsLeaveNoTrace := by
  refine ⟨fun e he h2 h p s x n ha hl hx hk hn => ?_, fun e he h p s ha hp hl => ?_, fun e he h2 h p s ha hl hx _ hb => ?_⟩
  · have hc := exec_repeat he ha h2 hl (ChanSt.check_repeat (h.chan == .udp && (s.arrived h).host.key.isSome) hx hk hn)
    have hseq : n.seq = h.seq := by simpa using List.find?_some hn
    refine ⟨fun ws hw => ⟨?_, State.deliverReply_chan ..⟩, fun h1 h2 => ?_, fun h1 h2 => ?_⟩
    · rw [hc, State.repeatReply_given hw]
    · rw [hc, State.repeatReply_suppressed h1 h2]
    · rw [hc, State.repeatReply_owed h1 h2, hseq]
  · rw [State.repliesFree_chan]
    exact ⟨exec_badLength he ha hp hl, rfl, rfl⟩
  · rw [State.repliesFree_chan]
    exact ⟨exec_busy he ha h2 hl hx hb, rfl, rfl⟩

/-! ## The final answer -/

/-- In HALTED a pending command is answered FAULTED. -/
theorem State.applyPend_halted {s : State} (p : Pend) (run : List W32 → State → Ans) (h : s.sys.phase = .halted) :
    s.applyPend p run = s.answer p.org p.op 0x0B p.seq (w32 p.target) [] true := by
  simp [State.applyPend, State.finalReply, h]

/-- A pending command that fails its checks is answered with their status and data. -/
theorem State.applyPend_refused {s : State} (p : Pend) {run : List W32 → State → Ans} (h : s.sys.phase ≠ .halted)
    (ha : (run p.par s).status ≠ 0) : s.applyPend p run =
      s.answer p.org p.op (run p.par s).status p.seq (w32 p.target) (run p.par s).data true := by
  simp [State.applyPend, State.finalReply, h, ha]

/-- One that passes has its effect, and is answered unless NO_REPLY and OK say otherwise. -/
theorem State.applyPend_ok {s : State} (p : Pend) {run : List W32 → State → Ans} (h : s.sys.phase ≠ .halted)
    (ha : (run p.par s).status = 0) : s.applyPend p run =
      let c := ((run p.par s).s.keepBack s p.op p.par).applied
      if p.late = false ∧ p.gap = false ∧ p.noReply = true then c.suppress p.org p.seq
      else c.answer p.org p.op (if p.late then 6 else if p.gap then 5 else 0) p.seq (w32 p.target) (run p.par s).data true := by
  have hd : (p.noReply && doneStatus p.late p.gap == 0) = decide (p.late = false ∧ p.gap = false ∧ p.noReply = true) := by
    cases p.late <;> cases p.gap <;> cases p.noReply <;> rfl
  have hh : (s.sys.phase == SysPhase.halted) = false := beq_eq_false_iff_ne.2 h
  simp only [State.applyPend, State.finalReply, hh, ha, hd]
  simp [doneStatus]

/-- A command that waits alone and is due is the next one. -/
theorem State.nextDue_single {s : State} {p : Pend} (h : s.host.cmds = [p]) (hd : p.target ≤ s.time.tick) :
    s.nextDue = some p := by
  simp [State.nextDue, h, hd, sortBy, insertBy]

/-- After CTRL_WATCHDOG the command service takes nothing. -/
theorem receive_dead {s : State} (c : ChanId) (src : UdpSrc) (ws : List W32) (run : Cmd → State → State)
    (h : s.sys.ctrlAlive = false) : s.receive c src ws run = s := by
  simp [State.receive, State.serviced, h]

/-- Settles O12: the results of the application (FAULTED uses the number: log 29, 30), of a packet in HALTED, and of a
dead control core. -/
theorem commandsAreFinallyAnswered : Obligations.CommandsAreFinallyAnswered := by
  refine ⟨fun s p hc hd => ?_, fun e he hn h p s ha hl hx hb hh hs => ?_, fun e he h p s hdead => ?_⟩
  · intro b a
    have hrun : exec .pendingCommandApply s = .next (b.applyPend p (applyAny p.op)) := by
      refine congrArg Host.Outcome.next ?_
      rw [hc, List.length_singleton, State.applyPending_of_some (State.nextDue_single hc hd), State.applyPending, hc,
        List.erase_cons_head]
    rw [hrun]
    by_cases hh : s.sys.phase = .halted
    · rw [if_pos hh, State.applyPend_halted (s := b) p _ hh]
    · rw [if_neg hh]
      by_cases h0 : a.status = 0
      · rw [if_pos h0, State.applyPend_ok (s := b) p hh h0]
      · rw [if_neg h0, State.applyPend_refused (s := b) p hh h0]
  · have h2 : e.1 ≠ 0x02 := fun h2 => by simp [h2, answeredHalted] at hn
    exact exec_halted he ha h2 hl hx hb hh hs hn
  · obtain ⟨run, hx⟩ := exec_arrivals e he
    rw [hx, receive_dead _ _ _ _ (by rwa [goto_sys])]

/-! ## The rings (R47 to R50) -/

@[simp] theorem kget_kset_same {α : Type} (l : List (Nat × α)) (k : Nat) (v : α) : kget (kset l k v) k = some v := by
  induction l with
  | nil => simp [kset, kget]
  | cons e t ih =>
    simp only [kset]
    split
    · simp [kget]
    · split
      · simp [kget]
      · rename_i h
        have : (e.1 == k) = false := beq_eq_false_iff_ne.2 fun hk => h (beq_iff_eq.2 hk.symm)
        simpa [kget, this] using ih

theorem kget_kset_other {α : Type} (l : List (Nat × α)) {k j : Nat} (v : α) (h : j ≠ k) :
    kget (kset l k v) j = kget l j := by
  have hk : (k == j) = false := beq_eq_false_iff_ne.2 (Ne.symm h)
  induction l with
  | nil => simp [kset, kget, hk]
  | cons e t ih =>
    simp only [kset]
    split
    · simp [kget, hk]
    · split
      · rename_i he
        obtain rfl : k = e.1 := beq_iff_eq.1 he
        simp [kget, hk]
      · cases hj : e.1 == j
        · simpa [kget, hj] using ih
        · simp [kget, hj]

/-- A packet for a slot of the host is stored. -/
theorem writeSlots_one {s : State} {i : Nat} (ws : List W32) (hi : i < 64) (hs : s.slotIsHost i = true) :
    s.writeSlots [(i, ws)] = { s with host := { s.host with cmdSlots := kset s.host.cmdSlots i ws } } := by
  simp [State.writeSlots, hi, hs]

theorem writeCmdPtr_forward {s : State} {v : W32} (hne : (v.truncate 16 : W16) ≠ s.host.cmdW)
    (h1 : 1 ≤ ((v.truncate 16 : W16) - s.host.cmdR).toNat) (h64 : ((v.truncate 16 : W16) - s.host.cmdR).toNat ≤ 64) :
    s.writeCmdPtr v = { s with host := { s.host with cmdW := v.truncate 16 } } := by
  rw [State.writeCmdPtr]
  simp only [if_neg hne, if_pos (And.intro h1 h64)]

/-- The host stores a packet and moves CMD_WPTR (R48). -/
theorem exec_cmdWptrWrite_one {s : State} {v : W32} {i : Nat} {ws : List W32} (hsel : s.sys.hostSel = true)
    (hp : s.host.perst = false) (hi : i < 64) (hs : s.slotIsHost i = true) (hne : (v.truncate 16 : W16) ≠ s.host.cmdW)
    (h1 : 1 ≤ ((v.truncate 16 : W16) - s.host.cmdR).toNat) (h64 : ((v.truncate 16 : W16) - s.host.cmdR).toNat ≤ 64) :
    exec (.cmdWptrWrite v [(i, ws)]) s = .next { s with host := { s.host with
      cmdW := v.truncate 16, cmdSlots := kset s.host.cmdSlots i ws } } := by
  have hw : exec (.cmdWptrWrite v [(i, ws)]) s = .next ((s.writeSlots [(i, ws)]).writeCmdPtr v) :=
    congrArg _ (if_neg (by simp [hsel, hp]))
  have hptr := writeCmdPtr_forward (s := s.writeSlots [(i, ws)]) (v := v)
  rw [writeSlots_one ws hi hs] at hw hptr
  rw [hw, hptr hne h1 h64]

/-- Nothing is taken from an empty ring, or while replies wait for room. -/
theorem takeRing_waits {s : State} (h : s.host.cmdR = s.host.cmdW ∨ s.rplFull = true ∨ s.host.heldRpl ≠ []) :
    s.takeRing = s := by
  rw [State.takeRing, if_pos]
  rcases h with h | h | h <;> simp [h]

/-- Otherwise the words of the slot, as many as its LENGTH says, reach the command service. -/
theorem takeRing_takes {s : State} {ws : List W32} (hs : s.serviced = true) (hr : s.ringsUp = true)
    (hne : s.host.cmdR ≠ s.host.cmdW) (hf : s.rplFull = false) (hh : s.host.heldRpl = [])
    (hk : kget s.host.cmdSlots (s.host.cmdR.toNat % 64) = some ws) (h2 : 2 ≤ fld (ws.headD 0) 15 0)
    (hl : fld (ws.headD 0) 15 0 = ws.length) :
    s.takeRing = ({ s with host := { s.host with cmdR := s.host.cmdR + 1 } }).receive .pcie noSrc ws takeCommand := by
  have hslot : kgetD s.host.cmdSlots (s.host.cmdR.toNat % 64) [] = ws := by simp [kgetD, hk]
  rw [State.takeRing, if_neg (by simp [hs, hr, hne, hf, hh])]
  simp only [hslot, hl, Nat.max_eq_right (hl ▸ h2), List.take_left]

/-- Settles O17: the slots keep what the host writes, and a take is that of the ring after time has moved on. -/
theorem commandRingIsTakenInOrder : Obligations.CommandRingIsTakenInOrder := by
  refine ⟨fun v i ws s hsel hp hi hs hne h1 h64 => ?_, fun t s h => ?_, fun t s ws hs hr hne hf hh hk h2 hl => ?_⟩
  · exact ⟨_, exec_cmdWptrWrite_one hsel hp hi hs hne h1 h64, kget_kset_same .., rfl, fun j hj => kget_kset_other _ _ hj, rfl⟩
  · exact congrArg _ (takeRing_waits (by simpa [State.rplFull] using h))
  · have := takeRing_takes (s := s.goto t) (ws := ws) (by simpa [State.serviced] using hs) (by simpa [State.ringsUp] using hr)
      (by simpa using hne) (by simpa [State.rplFull] using hf) (by simpa using hh) (by simpa using hk) h2 hl
    rw [State.goto_host] at this
    exact congrArg _ this

/-- An interrupt moves INT_STATUS, the pending vectors and the output alone. -/
theorem setInt_eq (s : State) (n : Nat) : s.setInt n = { s with
    host := { s.host with intStatus := (s.setInt n).host.intStatus, msixPend := (s.setInt n).host.msixPend }
    out := (s.setInt n).out } := by
  simp only [State.setInt]
  split
  · rfl
  · split
    · rfl
    · simp only [State.sendVec]; split <;> rfl

/-- Where PCIe is present, the bit is set afterwards. -/
theorem setInt_sets {s : State} {n : Nat} (hn : n < 32) (h : s.sys.hostSel = true) :
    (s.setInt n).host.intStatus.getLsbD n = true := by
  have hor : (s.host.intStatus ||| (1 : W32) <<< n).getLsbD n = true := by simp [hn]
  simp only [State.setInt]
  split
  · rename_i hset
    simpa [h] using hset
  · split
    · exact hor
    · simp only [State.sendVec]; split <;> exact hor

theorem hostSel_of_ringsUp {s : State} (h : s.ringsUp = true) : s.sys.hostSel = true := by
  simp only [State.ringsUp, Bool.and_eq_true] at h
  exact h.1.1

/-- Settles O18: both rings store at their write pointers; the interrupt that follows touches neither. -/
theorem repliesAndEventsStandInTheirRings : Obligations.RepliesAndEventsStandInTheirRings := by
  intro s src ws hr
  have hsel := hostSel_of_ringsUp hr
  refine ⟨?_, fun hh hne => ?_, fun hf => ?_⟩
  · intro t
    have ht : t = s.ringEvent ws := by simp [t, State.deliverEvent, hr]
    rw [ht, State.ringEvent]
    have hb := setInt_sets (s := { s with host := { s.host with
      evtSlots := kset s.host.evtSlots (s.host.evtW.toNat % 256) ws, evtW := s.host.evtW + 1
      evtR := if s.host.evtW - s.host.evtR == 256 then s.host.evtR + 1 else s.host.evtR } }) (n := 1) (by decide) hsel
    simp only at hb ⊢
    refine ⟨?_, ?_, ?_, hb, fun j hj => ?_, ?_, ?_⟩ <;> rw [setInt_eq]
    · exact kget_kset_same ..
    · simp
    · exact kget_kset_other _ _ hj
  · intro t
    have hf : s.rplFull = false := beq_eq_false_iff_ne.2 hne
    have ht : t = s.ringReply ws := by simp [t, State.deliverReply, hr, hh, hf]
    rw [ht, State.ringReply]
    have hb := setInt_sets (s := { s with host := { s.host with
      rplSlots := kset s.host.rplSlots (s.host.rplW.toNat % 64) ws, rplW := s.host.rplW + 1 } }) (n := 0) (by decide) hsel
    simp only at hb ⊢
    refine ⟨?_, ?_, ?_, hb, ?_, fun j hj => ?_⟩ <;> rw [setInt_eq]
    · exact kget_kset_same ..
    · exact hh
    · exact kget_kset_other _ _ hj
  · simp [State.deliverReply, State.rplFull, hf]

/-! ## SPI transactions (R51 to R54) -/

/-- The SPI status word of Table 2-8 by its fields. -/
def statusWord (ready waiting bad : Bool) (len : Nat) : W32 :=
  pack [(b2n ready, 31), (b2n waiting, 30), (b2n bad, 29), (len, 0)]

theorem spiStatus_eq (s : State) : s.spiStatus = statusWord s.cmdReady (!s.host.spiWait.isEmpty) s.host.lastBad
    ((s.host.spiWait.head?.map (fun p => p.words.length)).getD 0) := by
  unfold State.spiStatus
  cases s.host.spiWait <;> rfl

theorem b2n_testBit (b : Bool) (j : Nat) : (b2n b).testBit j = (b && decide (j = 0)) := by
  cases b <;> cases j <;> simp [b2n, Nat.testBit_succ]

theorem statusWord_bit (r w b : Bool) {n : Nat} (hn : n < 65536) (i : Nat) :
    (statusWord r w b n).getLsbD i = (decide (i < 32) && (if i < 16 then n.testBit i
      else if i = 29 then b else if i = 30 then w else if i = 31 then r else false)) := by
  have hhigh : 16 ≤ i → n.testBit i = false := fun h =>
    Nat.testBit_lt_two_pow (Nat.lt_of_lt_of_le hn (Nat.pow_le_pow_right Nat.zero_lt_two h))
  by_cases h32 : i < 32
  · simp only [statusWord, pack, List.foldl, BitVec.getLsbD_or, BitVec.getLsbD_shiftLeft, BitVec.getLsbD_ofNat, b2n_testBit, h32,
      decide_true, Bool.true_and, Nat.sub_zero, Nat.not_lt_zero, decide_false, Bool.not_false]
    by_cases h16 : i < 16
    · simp [h16, show i < 29 by omega, show i < 30 by omega, show i < 31 by omega]
    · rw [hhigh (by omega)]
      by_cases h31 : i = 31
      · simp [h31]
      · by_cases h30 : i = 30
        · simp [h30]
        · by_cases h29 : i = 29
          · simp [h29]
          · simp [h16, h29, h30, h31, show i < 29 by omega, show i < 30 by omega, show i < 31 by omega]
  · simp [h32, BitVec.getLsbD_of_ge _ i (Nat.le_of_not_lt h32)]

/-- The fields of the status word are what it was made of. -/
theorem statusWord_fields (r w b : Bool) {n : Nat} (hn : n < 65536) :
    bit (statusWord r w b n) 31 = r ∧ bit (statusWord r w b n) 30 = w ∧ bit (statusWord r w b n) 29 = b ∧
      fld (statusWord r w b n) 28 16 = 0 ∧ fld (statusWord r w b n) 15 0 = n := by
  simp only [bit, statusWord_bit _ _ _ hn]
  refine ⟨by simp, by simp, by simp, Nat.eq_of_testBit_eq fun i => ?_, Nat.eq_of_testBit_eq fun i => ?_⟩
  · rw [fld_testBit, statusWord_bit _ _ _ hn]
    by_cases hi : i < 13
    · simp [show ¬ 16 + i < 16 by omega, show 16 + i ≠ 29 by omega, show 16 + i ≠ 30 by omega, show 16 + i ≠ 31 by omega]
    · simp [hi]
  · rw [fld_testBit, statusWord_bit _ _ _ hn]
    by_cases hi : i < 16
    · simp [hi, show i < 32 by omega]
    · have : n.testBit i = false :=
        Nat.testBit_lt_two_pow (Nat.lt_of_lt_of_le hn (Nat.pow_le_pow_right Nat.zero_lt_two (Nat.le_of_not_lt hi)))
      simp [hi, this]

/-- Of a whole packet and its CRC the check leaves the packet. -/
theorem spiBody_good {ws : List W32} {n : Nat} (hn : n = ws.length + 1) :
    spiBody n (ws ++ [crc32cBE ws]) false = some ws := by
  simp [spiBody, hn]

/-- An early rise, a wrong count or a wrong CRC leaves nothing. -/
theorem spiBody_bad {ws : List W32} {crc : W32} {n : Nat} {early : Bool}
    (h : early = true ∨ crc ≠ crc32cBE ws ∨ n ≠ ws.length + 1) : spiBody n (ws ++ [crc]) early = none := by
  rcases h with h | h | h
  · simp [spiBody, h]
  · simp [spiBody, Ne.symm h]
  · simp [spiBody, Ne.symm h]

theorem spiUp_of_phase {s : State} (h : s.sys.phase ≠ .reset) : s.spiUp = true := bne_iff_ne.2 h

theorem phase_of_serviced {s : State} (h : s.serviced = true) : s.sys.phase ≠ .reset ∧ s.sys.phase ≠ .boot := by
  constructor <;> intro hp <;> simp [State.serviced, hp] at h

@[simp] theorem goto_cmdReady (s : State) (t : Nat) : (s.goto t).cmdReady = s.cmdReady := by
  simp [State.cmdReady, State.spiDownload, State.serviced]

section
variable {s : State} {n : Nat} {ws : List W32} {crc : W32} {early : Bool} (hs : s.serviced = true) (hr : s.cmdReady = true)
include hs hr

/-- A command write that is cut, of a wrong count or with a wrong CRC sets LAST_BAD (R52). -/
theorem spiCommand_bad (h : early = true ∨ ws = [] ∨ crc ≠ crc32cBE ws ∨ n ≠ ws.length + 1 ∨ fld (ws.headD 0) 15 0 + 1 ≠ n) :
    s.spiCommand n (ws ++ [crc]) early = (s.emit (.miso s.spiStatus [])).spiBad := by
  rw [State.spiCommand, if_neg (by simp [hr, (phase_of_serviced hs).2])]
  by_cases hb : early = true ∨ crc ≠ crc32cBE ws ∨ n ≠ ws.length + 1
  · rw [spiBody_bad hb]
  · simp only [not_or, Bool.not_eq_true, Classical.not_not, ne_eq] at hb
    obtain ⟨rfl, rfl, hn⟩ := hb
    rw [spiBody_good hn]
    refine if_neg fun hc => ?_
    obtain ⟨hne, hf⟩ := Bool.and_eq_true_iff.1 hc
    rcases h with h | rfl | h | h | h
    · cases h
    · simp at hne
    · exact h rfl
    · exact h hn
    · exact h (of_decide_eq_true hf).symm

/-- A good one reaches the command service (R52). -/
theorem spiCommand_good (he : early = false) (hw : ws ≠ []) (hc : crc = crc32cBE ws) (hn : n = ws.length + 1)
    (hf : fld (ws.headD 0) 15 0 + 1 = n) : s.spiCommand n (ws ++ [crc]) early =
      (s.emit (.miso s.spiStatus [])).receive .spi noSrc ws takeCommand := by
  subst he hc
  rw [State.spiCommand, if_neg (by simp [hr, (phase_of_serviced hs).2]), spiBody_good hn]
  exact if_pos (Bool.and_eq_true_iff.2 ⟨by simp [hw], decide_eq_true hf.symm⟩)

end

/-- Only the latched words of a register follow the latches. -/
theorem regWord_latches (s : State) (l : List (W32 × W32)) (rq : Requester) {off : Nat} (h8 : off ≠ 0x0408)
    (hC : off ≠ 0x040C) : ({ s with time := { s.time with latches := l } } : State).regWord rq off = s.regWord rq off := by
  unfold State.regWord
  refine ite_congr rfl (fun _ => rfl) (fun _ => ite_congr rfl (fun _ => rfl) (fun _ => ?_))
  split <;> try contradiction
  all_goals rfl

/-- A read of a register moves nothing but the latches. -/
theorem regRead_latches (s : State) (rq : Requester) (off : Nat) :
    ∃ l, (s.regRead rq off).2 = { s with time := { s.time with latches := l } } := by
  rw [State.regRead]
  split
  · exact ⟨_, rfl⟩
  · exact ⟨_, rfl⟩

theorem regRead_word (s : State) (rq : Requester) {off : Nat} (h : off % 4 = 0) :
    (s.regRead rq off).1 = s.regWord rq off := by
  have : off / 4 * 4 = off := by omega
  rw [State.regRead, this]
  split <;> rfl

theorem spiRegs_length (n off : Nat) (s : State) : (State.spiRegs n off s).1.length = n := by
  induction n generalizing off s with
  | zero => rfl
  | succ n ih => simp [State.spiRegs, ih]

theorem spiRegs_out (n off : Nat) (s : State) : (State.spiRegs n off s).2.out = s.out := by
  induction n generalizing off s with
  | zero => rfl
  | succ n ih =>
    obtain ⟨l, hl⟩ := regRead_latches s .spi off
    rw [State.spiRegs, ih, hl]

/-- Consecutive registers are read as they stand, but for the words that a read of TIME_NS latches. -/
theorem spiRegs_word {n off : Nat} (s : State) (ha : off % 4 = 0) {i : Nat} (hi : i < n) (h8 : off + 4 * i ≠ 0x0408)
    (hC : off + 4 * i ≠ 0x040C) : (State.spiRegs n off s).1[i]? = some (s.regWord .spi (off + 4 * i)) := by
  induction n generalizing off s i with
  | zero => omega
  | succ n ih =>
    cases i with
    | zero => simp [State.spiRegs, regRead_word s .spi ha]
    | succ i =>
      obtain ⟨l, hl⟩ := regRead_latches s .spi off
      have hoff : off + 4 * (i + 1) = off + 4 + 4 * i := by omega
      rw [hoff] at h8 hC ⊢
      rw [State.spiRegs, List.getElem?_cons_succ, ih _ (by omega) (by omega) h8 hC, hl, regWord_latches _ _ _ h8 hC]

/-- The engine is in BOOT and waits for words over SPI. -/
theorem spiDownload_ready {s : State} (hd : s.spiDownload = true) (hb : s.sys.dlBytes = none) :
    s.spiUp = true ∧ s.cmdReady = true := by
  have hp : s.sys.phase = .boot := by
    simp only [State.spiDownload, Bool.and_eq_true, beq_iff_eq] at hd
    exact hd.1.1
  exact ⟨by simp [State.spiUp, hp], by simp [State.cmdReady, hp, hd, hb]⟩

/-- Words that fit reach the download area whole. -/
theorem download_fits {s : State} {k : Nat} {ws : List W32} (h : k + ws.length ≤ 0x300000) :
    s.download k ws = { s with
      mem := memWriteWs s.mem (0x20000000 + 4 * k) ws
      sys := { s.sys with dlWords := max s.sys.dlWords (k + ws.length) } } := by
  rw [State.download, List.take_of_length_le (by omega)]
  rfl

/-- A packet read with nothing left shifts out zeros. -/
theorem spiRead_empty {s : State} {ack : Bool} {n : Nat}
    (h : (if ack && s.host.spiRead then s.host.spiWait.drop 1 else s.host.spiWait) = []) :
    s.spiRead ack n = { s with
      host := { s.host with spiWait := [], spiRead := false }
      out := s.out ++ [.miso s.spiStatus (List.replicate n 0)] } := by
  rw [State.spiRead]
  simp only [h]
  rfl

/-- A packet read shows the oldest packet that is left, cut or padded, and leaves it at the head. -/
theorem spiRead_packet {s : State} {ack : Bool} {n : Nat} {p : SpiPkt} {rest : List SpiPkt}
    (h : (if ack && s.host.spiRead then s.host.spiWait.drop 1 else s.host.spiWait) = p :: rest) :
    s.spiRead ack n = { s with
      host := { s.host with spiWait := p :: rest, spiRead := decide (p.words.length + 1 ≤ n) }
      out := s.out ++ [.miso s.spiStatus ((p.words ++ [crc32cBE p.words]).take n ++
        List.replicate (n - (p.words.length + 1)) 0)] } := by
  rw [State.spiRead]
  simp only [h, List.length_append, List.length_singleton]
  rfl

/-- A register write is refused whole unless its count and CRC are right. -/
theorem exec_spiRegisterWrite_bad {s : State} {n off : Nat} {w crc : W32} {early : Bool} (hp : s.sys.phase ≠ .reset)
    (h : early = true ∨ n ≠ 1 ∨ crc ≠ crc32cBE [w32 off, w]) :
    exec (.spiRegisterWrite n off [w, crc] early) s = .next (s.emit (.miso s.spiStatus [])).spiBad := by
  refine congrArg Host.Outcome.next ?_
  rw [if_neg (by simp [spiUp_of_phase hp]), if_pos]
  rcases h with h | h | h
  · simp [h]
  · simp [h]
  · simp [Ne.symm h]

/-- A good one of one word to the mask register writes the mask. -/
theorem exec_spiRegisterWrite_mask {s : State} {w : W32} (hp : s.sys.phase ≠ .reset) :
    exec (.spiRegisterWrite 1 0x0204 [w, crc32cBE [w32 0x0204, w]] false) s =
      exec (.intMaskWrite w) (s.emit (.miso s.spiStatus [])) := by
  have hw : ∀ g : State, g.regWrite .spi 0x0204 w true = g.writeIntMask w := fun g => by
    simp [State.regWrite]
  refine congrArg Host.Outcome.next ?_
  rw [if_neg (by simp [spiUp_of_phase hp]), if_neg (by simp)]
  simp [hw]

/-- Settles O19: one lemma for each transaction (counts and wrong forms: log 44). -/
theorem spiTransactions : Obligations.SpiTransactions := by
  refine ⟨fun s hp hlen => ?_, fun s ack n p rest hp hw => ?_, fun s ack n hp hl hw => ?_,
    fun t n ws crc early s hs hr => ?_, fun t n off s hp h1 h64 ha => ?_, fun n off w crc early s hp _ => ?_,
    fun n ws s hd hb hn _ hfit => ?_, fun len s hd hb => ?_, fun img len s hd hp hb hfit => ?_⟩
  · refine ⟨s.spiStatus, congrArg Host.Outcome.next (if_pos (spiUp_of_phase hp)), ?_⟩
    rw [spiStatus_eq]
    refine statusWord_fields _ _ _ ?_
    cases hw : s.host.spiWait with
    | nil => simp
    | cons p rest => exact hlen p (by simp [hw])
  · have hx : exec (.spiReadPacket ack n) s = .next (s.spiRead ack n) := congrArg Host.Outcome.next (if_pos (spiUp_of_phase hp))
    rw [hx, spiRead_packet (by simpa using hw)]
  · have hx : exec (.spiReadPacket ack n) s = .next (s.spiRead ack n) := congrArg Host.Outcome.next (if_pos (spiUp_of_phase hp))
    have hnone : (if ack && s.host.spiRead then s.host.spiWait.drop 1 else s.host.spiWait) = [] := by
      rcases hw with hw | hw
      · simp [hw]
      · rw [if_pos (by simp [hw]), List.drop_eq_nil_of_le hl]
    rw [hx, spiRead_empty hnone]
  · have hs' : (s.goto t).serviced = true := by simpa [State.serviced] using hs
    have hr' : (s.goto t).cmdReady = true := by simpa using hr
    have hx : exec (.spiWriteCommand t n (ws ++ [crc]) early) s = .next ((s.goto t).spiCommand n (ws ++ [crc]) early) :=
      congrArg Host.Outcome.next (if_pos (spiUp_of_phase (phase_of_serviced hs').1))
    rw [hx]
    exact ⟨fun h => congrArg _ (spiCommand_bad hs' hr' h),
      fun he hw hc hn hf => congrArg _ (spiCommand_good hs' hr' he hw hc hn hf)⟩
  · refine ⟨(State.spiRegs n off (s.goto t)).1, _, spiRegs_length .., rfl, ?_, fun i hi h => spiRegs_word _ ha hi h.1 h.2⟩
    rw [if_neg (by simp [State.spiUp, hp]), if_neg (by omega), State.emit, spiRegs_out, State.goto_out]
  · exact ⟨fun h => exec_spiRegisterWrite_bad hp h, fun he h1 ho hc => by subst he h1 ho hc; exact exec_spiRegisterWrite_mask hp⟩
  · obtain ⟨hu, hr⟩ := spiDownload_ready hd hb
    have hx : exec (.spiDownloadAppend n (ws ++ [crc32cBE ws]) false) s =
        .next ((s.emit (.miso s.spiStatus [])).download s.sys.dlWords ws) := by
      refine congrArg Host.Outcome.next ?_
      rw [if_neg (by simp [hu]), if_neg (by simp [hd, hr]), spiBody_good (by rw [hn])]
      rfl
    refine ⟨_, hx, ?_⟩
    rw [download_fits (s := s.emit _) hfit]
    exact ⟨rfl, Nat.max_eq_right (Nat.le_add_right _ _)⟩
  · obtain ⟨hu, hr⟩ := spiDownload_ready hd hb
    refine ⟨_, rfl, ?_⟩
    rw [if_neg (by simp [hu]), if_neg (by simp [hd, hr])]
    have hbody : spiBody 2 [len, crc32cBE [len]] false = some [len] := spiBody_good (ws := [len]) rfl
    rw [hbody]
    exact ⟨rfl, rfl⟩
  · refine ⟨_, rfl, ?_⟩
    rw [if_pos (by simp [hd, hp, hb]), download_fits (by omega)]
    exact ⟨rfl, rfl⟩

/-! ## Every command answers (R33, R36, R38) -/

theorem onUnit_of_not {p : Prop} [Decidable p] (h : ¬ p) (t : State) : onUnit (decide p) t = .fault .noSuchUnit := by
  simp [onUnit, h]

/-- A command answers the next state or, where an operand names no unit of the engine, the fault noSuchUnit (log 52); the
operands of a well-formed command name units. The rows fall into Vent operations whose form names more than a core, rows
that name one unit, rows that name two, and the rest, which name none that could be missing. -/
theorem exec_eq_onUnit (i : Instr) (s : State) : ∃ ok t, exec i s = onUnit ok t ∧ (i.wf = true → ok = true) := by
  cases i with
  | vMnop | vMac | vMsu | vMpy | vMpyn | vMacs | vMsus | vAclr | vAcsh | vAcadd | vAcsub | vAcwr | vAcrd | vAcrnd
  | vAdd | vSub | vAdds | vSubs | vAnd | vOr | vXor | vShl | vAsr | vLsr | vMin | vMax | vAbs | vCmp | vMovfx
  | vMovtx | vLit | vLdw | vLdl | vStw | vStl | vLdx | vStx | vStac | vCnop | vYield | vReti | vLexit | vJr | vLoopi =>
    exact ⟨_, _, rfl, fun h => (Bool.and_eq_true_iff.1 h).1⟩
  | ventStripStart | ventPostStart | ventInterruptEntry | ventIntCauseClear | ventSatClear | vBr | vCall | vLoopr
  | vLda | asrcLock | asrcUnlock | decSettleEnd | detectorBlockEnd | stuckDetect | fastPathValue | senseStatusWord
  | stageReady | stageTimeout | diagStepEnd | diagComplete | rampUpComplete | disarmFadeComplete | rampDownComplete
  | overcurrentTrip | psFltAssert | psFltRelease | psFaultTimeout | channelRetryStart | failureCountReset
  | channelEnterComplete | channelLeaveComplete | boostOvervoltage | boostUndervoltage | tdmFrameStart
  | tdmGroupQualify | tdmGroupLoss | frameReceive | frameTransmit | gateEntryBoundary | linkUp | linkDown
  | streamPacketCommit | streamLost | refDisqualify | refQualifying | refQualified | dpllLock | dpllSwitchComplete
  | holdoverExpired | islandClockFail | timeSteerEnd | ptpSample | ptpCalibrated | ptpDomainLost | trigInEdge
  | triggerFire | heartbeatSend | heartbeatCheck | conduitRequest | transactionComplete | busTimeout | lockTimeout
  | dmaDescriptorComplete | dmaXferErr | islandDrainComplete | islandStartComplete | storeSessionTimeout =>
    exact ⟨_, _, rfl, id⟩
  | ventTransferComplete | ventTransferGo | pauseTimerExpire | pauseRepeat | pauseWatchdog | queueDataRead
  | queueDataWrite | queueCommit | queueRewind | streamPathDown | ptpMessageReceive | starvation | pauseIgnoreEnd
  | ptpMessageTransmit =>
    exact ⟨_, _, rfl, fun h => (Bool.decide_and ..).symm.trans h⟩
  | msixMaskClear vec =>
    cases vec with
    | none => exact ⟨true, _, rfl, fun _ => rfl⟩
    | some n => exact ⟨_, _, rfl, id⟩
  | _ => exact ⟨true, _, rfl, fun _ => rfl⟩

/-- Settles O60: the guard of each row, and that the guards named fail beyond the last unit (log 52). -/
theorem wellFormedCommandsAnswerNext : Obligations.WellFormedCommandsAnswerNext := by
  refine ⟨fun i s hwf => ?_, fun i s => ?_, fun s t => ⟨fun n hn => ?_, fun n f hn => ?_, fun n h hn => ?_, fun n hn => ?_,
    fun n k hn => ?_, fun n hn => ?_⟩⟩
  · obtain ⟨ok, t, hx, hok⟩ := exec_eq_onUnit i s
    exact ⟨t, by rw [hx, hok hwf]; rfl⟩
  · obtain ⟨ok, t, hx, -⟩ := exec_eq_onUnit i s
    cases ok
    · exact .inr hx
    · exact .inl ⟨t, hx⟩
  · exact ⟨onUnit_of_not (by omega) _, onUnit_of_not (by omega) _, fun _ => onUnit_of_not (by omega) _⟩
  · exact ⟨onUnit_of_not (by omega) _, onUnit_of_not (by omega) _, onUnit_of_not (by omega) _⟩
  · exact onUnit_of_not (by omega) _
  · exact ⟨onUnit_of_not (by omega) _, onUnit_of_not (by omega) _⟩
  · exact ⟨onUnit_of_not (by omega) _, onUnit_of_not (by omega) _⟩
  · exact ⟨onUnit_of_not (by omega) _, onUnit_of_not (by omega) _⟩

end Sys2Proof.Machine
